-- ==== Sys2Proof/Word.lean ====
section
/-! DEFINITION. The word types and their plainest arithmetic: bytes, little-endian numbers (R7) and bit fields
(R7: `[high:low]`, bit 0 least significant). -/

namespace Sys2Proof

abbrev Byte := BitVec 8
abbrev U16 := BitVec 16
abbrev U32 := BitVec 32
abbrev U64 := BitVec 64

/-- The bits `[lo + width - 1 : lo]` of a number (R7). -/
def bits (n lo width : Nat) : Nat := (n >>> lo) % 2 ^ width

/-- Bit `i` of a number (R7). -/
def bit (n i : Nat) : Bool := n.testBit i

/-- The number a little-endian list of bytes holds (R7). -/
def leNat : List Byte → Nat
  | [] => 0
  | b :: bs => b.toNat + 256 * leNat bs

/-- The `k` little-endian bytes of a number (R7). -/
def natBytes : Nat → Nat → List Byte
  | 0, _ => []
  | k + 1, n => BitVec.ofNat 8 n :: natBytes k (n / 256)

/-- The value of a two's-complement field of `w` bits. -/
def signedOf (w n : Nat) : Int := if n % 2 ^ w < 2 ^ (w - 1) then (n % 2 ^ w : Nat) else (n % 2 ^ w : Nat) - (2 ^ w : Nat)

/-- The low `w` bits of an integer, as a number. -/
def wrapNat (w : Nat) (i : Int) : Nat := (i % (2 ^ w : Nat)).toNat

/-- `ceil(a / b)`. -/
def ceilDiv (a b : Nat) : Nat := (a + b - 1) / b

/-- A counter that stops at `2^32 - 1` (the "saturating" counts of R106, R125 and R294). -/
def sat32 (n : Nat) : Nat := min n (2 ^ 32 - 1)

end Sys2Proof
end

