-- ==== Sys2Proof/Syntax.lean ====
section
/-! DEFINITION. The commands of the block: one constructor of `Instr` for each row of spec/opcode_table.json, with the
operands the rule of that row gives it, and the plain records those operands are made of. A value that comes from outside
the module (a frame, a flit, a reading, a pin) is an operand of the command that brings it. -/

namespace Sys2Proof

/-- Logical core (R4). -/
abbrev CoreId := Fin 96
/-- Matrix engine of a core (05). -/
abbrev EngineId := Fin 4
/-- Gather engine of a core (06). -/
abbrev GatherId := Fin 2
/-- Hardware thread of a control core (R198). -/
abbrev ThreadId := Fin 4
/-- Hardware ring (R272). -/
abbrev RingId := Fin 16384
/-- Caravan number (R247). -/
abbrev CaravanId := Fin 262144
/-- Tower (R5). -/
abbrev TowerId := Fin 8
/-- Channel controller of a tower (11). -/
abbrev CtlId := Fin 16
/-- Pseudo-channel of a controller (11). -/
abbrev PcId := Fin 2
/-- Askua port A0 to A7 (R5). -/
abbrev PortId := Fin 8
/-- Region of the fabric (R5). -/
abbrev RegionId := Fin 64
/-- Border port (R20). -/
abbrev BorderId := Fin 32
/-- Switched power domain, by its bit in DOMAIN_OFF (R504). -/
abbrev DomainId := Fin 24
/-- Signal engine: 24 × region + place in the region's column (R433). -/
abbrev SeId := Fin 1536

/-- How a Reolo frame reaches the module: a UDP datagram from an IPv6 address and port to a destination address and port
(R57, R69), or the mailbox (R60). -/
inductive Via where
  | fieldBus (srcAddr : BitVec 128) (srcPort : U16) (dstAddr : BitVec 128) (dstPort : U16)
  | mailbox
deriving DecidableEq, Repr

/-- A Reolo frame as it arrives (R53, R54), but for its OPCODE, which the row gives. `stray` marks a datagram that is no frame of any
row, of an unknown opcode or shorter than a header (R55): any row of a frame may bring it. `storeFails` says that the configuration
store fails the commit that the request calls for (R48, R78). DESIGN CHOICE (log entries 70, 82). -/
structure Frame where
  via : Via
  magic : U16
  version : Byte
  sessionId : U32
  seq : U64
  bodyLen : U16
  status : U16
  rsv : U32
  body : List Byte
  tag : List Byte
  stray : Bool := false
  storeFails : Bool := false
deriving DecidableEq, Repr

/-- A flit of the packet network (R307): the header fields a destination reads, and up to 128 B of payload. -/
structure Flit where
  dstX : Fin 15
  dstY : Fin 10
  dstSub : Fin 32
  cls : Fin 8
  srcX : Fin 15
  srcY : Fin 10
  srcSub : Fin 32
  mcast : Bool
  lenM1 : Fin 4
  flitIdx : Fin 4
  urgency : Fin 16
  opcode : Byte
  poison : BitVec 2
  err : Bool
  ackReq : Bool
  tag : BitVec 14
  addr : U64
  byteEn : BitVec 128
  payload : List Byte
deriving DecidableEq, Repr

/-- A lock-step message as its parts arrive whole in one control frame, or not (R404, R405). -/
structure LsMsg where
  orig : BitVec 15
  seq : Byte
  data : BitVec 128
  whole : Bool
deriving DecidableEq, Repr

/-- One half-line as the tower delivers it: how many of its 72 symbols are wrong, and the data bytes as read (R337, R339). A half that
a command does not list is read clean. DESIGN CHOICE (log entry 81). -/
structure HalfRead where
  symbols : Nat
  asRead : List Byte
deriving DecidableEq, Repr

/-- What a block RAM port reads on its own write (R445). -/
inductive OwnRead where
  | writeFirst | readFirst | noChange
deriving DecidableEq, Repr

/-- One access of a block RAM port (R444 to R446): the mode, the port's own-write behaviour and the use of error correction,
which the design's frames set, and the read or write of a word at the width of the mode. DEDUCED (log entry 61). -/
structure RamAccess where
  mode : Fin 7
  own : OwnRead
  ecc : Bool
  write : Bool
  addr : Nat
  data : Nat
deriving DecidableEq, Repr

/-- A write of the PCIe configuration space that a rule of the spec gives an effect (R289, R295, R297, R303, R304, R510): the size of
BAR2, the power state, ATS, PRI, MSI-X Enable and Function Mask, Max Payload Size and Max Read Request Size (128 B shifted by a code),
LTR, and the error status bits that AER clears. -/
inductive CfgWrite where
  | msixControl (enable functionMask : Bool)
  | maxPayload (code : Fin 3)
  | maxReadRequest (code : Fin 6)
  | ltrEnable (en : Bool)
  | aerClear (bits : BitVec 32)
  | bar2Size (log2GiB : Fin 10)
  | dState (d3hot : Bool)
  | atsEnable (en : Bool)
  | priEnable (en : Bool)
  | priAllocation (n : Nat)
  | clearPriStopped
deriving DecidableEq, Repr

/-- A PRI response code (R304). -/
inductive PriCode where
  | success | invalidRequest | responseFailure
deriving DecidableEq, Repr

/-- The trigger of a module reset (R296, R513). -/
inductive ResetTrigger where
  | perstN | hotReset | functionLevel
deriving DecidableEq, Repr

/-- What an operation of TAP BD_CORE does to a thread (R534). -/
inductive DebugOp where
  | halt | step | resume
  | readReg (r : Fin 32) | writeReg (r : Fin 32) (v : U64)
  | readPc | writePc (v : U64)
deriving DecidableEq, Repr

/-- What the governor reads at the end of a period (R522, R523). Temperatures in °C and power in W are given in millionths,
so that the comparisons of R522 are exact. DEDUCED (log entry 67). -/
structure GovReadings where
  dieMax : Nat
  towers : List Nat
  power : Nat
  /-- Share of the period, in millionths, for which some controller queue was full. -/
  queueFull : Nat
  eccRoseLastHour : Nat
  eccHoursSinceRise : Nat
  /-- Every tower at 75 °C or below for 1 s. -/
  cool1s : Bool
  inputVoltage : U32
  inputCurrent : U32
  inputPower : U32
  dieSensors : List U32
deriving DecidableEq, Repr

/-- What the throttle or trip comparator saw (R521, R567): cause 0 die, 1 tower, 2 current; the sensor; the reading. -/
structure LimitReading where
  cause : Fin 3
  sensor : Byte
  reading : U32
deriving DecidableEq, Repr

/-- What a training chose and found (R354, R356, R378, R379): its partner, its probes, whether the lanes are wired in reverse order, and
the number of taps of each lane's decision-feedback equaliser. -/
structure TrainResult where
  trained : Bool
  partnerSerial : U64
  partnerPort : Fin 8
  rttMax : Nat
  rttMinusTurnMax : Nat
  lanesReversed : Bool
  dfeTaps : List Nat := []
deriving DecidableEq, Repr

/-- Errors the configuration scrubber finds in one frame (R500). DESIGN CHOICE (log entry 81). -/
inductive ScrubFinding where
  | clean | corrected (words : Nat) | uncorrectable
deriving DecidableEq, Repr

/-- Data of a read of a line, as the answering side returns it, with the poison mark of each 64-byte half (R264, R321). -/
inductive ReadAnswer where
  | data (bytes : List Byte) (poison : BitVec 2)
  | failed
  | missed
  | denied
  /-- The core that the address names is not powered (R29). -/
  | off
deriving DecidableEq, Repr

/-- The commands: one constructor for each row of spec/opcode_table.json, in the table's order. -/
inductive Instr where
  | discover (f : Frame)
  | discoverReplyDelay
  | hello (f : Frame)
  | proof (f : Frame)
  | authLockoutExpire (role : Fin 4)
  | handshakeExpire (sid : U32)
  | read (f : Frame)
  | write (f : Frame)
  | segRead (f : Frame)
  | segWrite (f : Frame)
  | keepalive (f : Frame)
  | close (f : Frame)
  | sessionIdleTimeout (sid : U32)
  | mailboxRequest (buffer : Option (List Byte)) (storeFails : Bool)
  | fbEnable (f : Frame)
  | mailboxEnable (f : Frame)
  | mgmtMismatch (cycle : U64)
  | mgmtRestartDone
  | managementBoot
  | mma (c : CoreId) (e : EngineId)
  | conv (c : CoreId) (e : EngineId)
  | engineInjectEnd (c : CoreId) (e : EngineId)
  | engineDrainEnd (c : CoreId) (e : EngineId)
  | engineOutputMark (c : CoreId) (e : EngineId)
  | seedLoadStart (c : CoreId) (e : EngineId)
  | seedLoadEnd (c : CoreId) (e : EngineId)
  | dummyWindowExpire (c : CoreId) (e : EngineId)
  | dummyDensityStep (c : CoreId) (e : EngineId)
  | warmupStart (c : CoreId) (e : EngineId)
  | warmupEnd (c : CoreId) (e : EngineId)
  | bankRequestAged (c : CoreId) (bank : Fin 32) (requester : Nat)
  | add (c : CoreId)
  | sub (c : CoreId)
  | mul (c : CoreId)
  | fma (c : CoreId)
  | max (c : CoreId)
  | min (c : CoreId)
  | maxi (c : CoreId)
  | mini (c : CoreId)
  | scale (c : CoreId)
  | abs (c : CoreId)
  | neg (c : CoreId)
  | cvt (c : CoreId)
  | quant (c : CoreId)
  | cmp (c : CoreId)
  | select (c : CoreId)
  | copy (c : CoreId)
  | fill (c : CoreId)
  | rsum (c : CoreId)
  | rmax (c : CoreId)
  | rmin (c : CoreId)
  | ramax (c : CoreId)
  | scalefind (c : CoreId)
  | anchor (c : CoreId)
  | wadd (c : CoreId)
  | walign (c : CoreId)
  | wexp (c : CoreId)
  | wcvt (c : CoreId)
  | vectorEnd (c : CoreId)
  | gather (c : CoreId) (g : GatherId)
  | gatherLineFill (c : CoreId) (g : GatherId) (line : Nat)
  | gatherEnd (c : CoreId) (g : GatherId)
  | xgrnPush (c : CoreId)
  | xgrnStat (c : CoreId)
  | xgrnHclrRetry (c : CoreId)
  | xgrnHclrDiscard (c : CoreId)
  | xgrnWopen (c : CoreId)
  | xgrnRopen (c : CoreId)
  | xgrnClose (c : CoreId)
  | xgrnRwait (c : CoreId)
  | xgrnCvarm (c : CoreId)
  | xgrnCvarmResume (c : CoreId)
  | xgrnCvarmDiscard (c : CoreId)
  | xgrnCvwait (c : CoreId)
  | xgrnCvmark (c : CoreId)
  | xgrnQclaim (c : CoreId)
  | xgrnQdone (c : CoreId)
  | xgrnYield (c : CoreId)
  | xgrnTstart (c : CoreId)
  | xgrnTstop (c : CoreId)
  | xgrnTsig (c : CoreId)
  | ccInstruction (c : CoreId)
  | wfi (c : CoreId)
  | mret (c : CoreId)
  | fenceI (c : CoreId)
  | cacheMissReturn (c : CoreId)
  | waitConditionObserved (c : CoreId) (t : ThreadId)
  | threadSelect (c : CoreId)
  | threadQuantum (c : CoreId)
  | mtipCompare (c : CoreId) (t : ThreadId)
  | interruptTake (c : CoreId) (t : ThreadId)
  | caravanStart (c : CoreId)
  | contextFetchDone (v : CaravanId)
  | lineReadIssue (v : CaravanId) (line : Nat)
  | lineDataArrival (v : CaravanId) (line : Nat) (answer : ReadAnswer)
  | lineDeliver (v : CaravanId) (line : Nat) (receiver : CoreId)
  | faultDrainEnd (v : CaravanId)
  | caravanEnd (v : CaravanId)
  | mcStragglerTimeout (v : CaravanId) (receiver : CoreId)
  | ringEnable (r : RingId) (size8 : Bool) (value : U64)
  | ringDisable (r : RingId) (size8 : Bool) (value : U64)
  | ringErrClear (r : RingId) (size8 : Bool) (value : U64)
  | barRegisterWrite (offset : Nat) (size8 : Bool) (value : U64)
  | bar0InvalidAccess (isWrite : Bool) (offset size : Nat)
  | tailDb (r : RingId) (value : U32)
  | headDb (r : RingId) (value : U32)
  | ringFetch (r : RingId)
  | ringFetchDone (r : RingId) (answer : ReadAnswer)
  | claimCopyDone (r : RingId)
  | qdoneWriteDone (r : RingId)
  | qmCompletionWrite
  | tailWriteback (r : RingId) (translated : Bool)
  | msixSend (r : RingId)
  | coalTimer (r : RingId)
  | msixUnmask (vector : Fin 2048)
  | remoteForward (r : RingId)
  | forwardedEntryReceive (r : RingId) (sender : BitVec 15) (senderRing : RingId) (index : Nat) (entry : List Byte)
  | modEventClear (value : U32)
  | modEventEnable (value : U32)
  | ttDataWrite (whole : Bool) (value : U64)
  | ttDataLowLatch (value : U32)
  | translationDone (reads : List HalfRead := [])
  | bar2Read (offset : Nat) (len : Nat) (reads : List HalfRead := [])
  | bar2Write (offset : Nat) (bytes : List Byte) (reads : List HalfRead := [])
  | atsInvalidation (pasid : Option (BitVec 20)) (iova : U64) (sizeLog2 : Nat)
  | atsInvalidationComplete
  | pageRequestRaise
  | pageResponse (prg : Nat) (code : PriCode)
  | moduleReset (trigger : ResetTrigger)
  | rd (f : Flit)
  | wr (f : Flit)
  | line (f : Flit)
  | mcLine (f : Flit) (receiver : CoreId)
  | holdReq (f : Flit)
  | rdData (f : Flit)
  | wrAck (f : Flit)
  | holdGrant (v : CaravanId) (holder : CoreId)
  | credit (f : Flit)
  | retry (f : Flit)
  | retryResend (tag : BitVec 14)
  | mgtRd (f : Flit)
  | mgtWr (f : Flit)
  | mgtRsp (f : Flit)
  | urgencyAge (place : Nat)
  | bpRequestPresent (p : BorderId) (ready : Bool)
  | bpResponse (p : BorderId) (tag : Fin 64) (err : Bool) (data : List Byte) (poison : BitVec 2)
  | bpTimeout (p : BorderId) (tag : Fin 64)
  | smCommandIssue (t : TowerId) (k : CtlId) (pc : PcId)
  | smReadData (t : TowerId) (k : CtlId) (pc : PcId) (low high : HalfRead)
  | smAgePromote (t : TowerId) (k : CtlId) (pc : PcId) (place : Nat)
  | refreshStop (t : TowerId) (k : CtlId) (pc : PcId) (low high : HalfRead)
  | lsRefreshSlot (t : TowerId) (halves : List (HalfRead × HalfRead))
  | towerTempReading (t : TowerId) (reading : U32) (milli : Nat)
  | towerBootDone (t : TowerId) (ok : Bool) (failedPins repairs : Nat) (trainUs : Nat)
  | selfRefreshEntry (t : TowerId)
  | selfRefreshExitDone (t : TowerId)
  | dataFrame (p : PortId) (headers : List (BitVec 2)) (blocks : List U64) (trailer : U64)
  | packetRelease (p : PortId)
  | replayTimeout (p : PortId)
  | frameAgeLimit (p : PortId)
  | blockLockLoss (p : PortId) (lane : Fin 16)
  | recovery (p : PortId)
  | recoveryTimeout (p : PortId)
  | nopBlock (p : PortId) (block : U64)
  | alignBlock (p : PortId) (block : U64)
  | gtcBlock (p : PortId) (block : U64)
  | eqBlock (p : PortId) (block : U64)
  | statusBlock (p : PortId) (block : U64)
  | idleEnter (p : PortId) (block : U64)
  | trainBlock (p : PortId) (block : U64)
  | portTrainingStart (p : PortId)
  | portTrainingDone (p : PortId) (r : TrainResult)
  | trainingTimeout (p : PortId)
  | trainingRetry (p : PortId)
  | eyeMarginReport (p : PortId) (lane : Fin 16) (margin : U32)
  | remoteTimeout (east : Bool) (tag : BitVec 14)
  | elecIdleEntry (p : PortId)
  | elecIdleExit (p : PortId)
  | idleExitTimeout (p : PortId)
  | portReset (f : Frame)
  | portEnable (f : Frame)
  | cblPrsntChange (p : PortId) (present : Bool)
  | disc (p : PortId) (m : LsMsg)
  | discDone (p : PortId) (m : LsMsg)
  | shape (p : PortId) (m : LsMsg)
  | alignDone (p : PortId) (m : LsMsg)
  | arm (p : PortId) (m : LsMsg)
  | ready (p : PortId) (m : LsMsg)
  | launchMessage (p : PortId) (m : LsMsg)
  | agree (p : PortId) (m : LsMsg)
  | request (p : PortId) (m : LsMsg)
  | slip (p : PortId) (m : LsMsg)
  | fault (p : PortId) (m : LsMsg)
  | restart (p : PortId) (m : LsMsg)
  | gtcAlignmentStart (p : PortId)
  | gtcAligned (newGtc : U64)
  | parentLoss
  | noReferenceTimeout
  | portDownTimeout (p : PortId)
  | lsStartTimeout
  | lsRestart (f : Frame)
  | lsReady (f : Frame)
  | readyCheckDone
  | launch (f : Frame)
  | launchPrepare
  | launchPrecharge
  | launchTick
  | lsStop (f : Frame)
  | agreeApply
  | slipStallBegin
  | slipStallEnd
  | traceArm (f : Frame)
  | traceStop (f : Frame)
  | traceTrigger (samples : List U32)
  | traceDone (samples : List U32)
  | fpllLossOfLock (k : Fin 8)
  | fpllLock (k : Fin 8)
  | vccoCheck (bank : Fin 9) (millivolts : Nat) (reading : U32)
  | bramAccess (r : RegionId) (ram : Fin 60) (a b : Option RamAccess) (sameClock near : Bool)
  | seNop (e : SeId)
  | seMac (e : SeId)
  | seMsu (e : SeId)
  | seMpy (e : SeId)
  | seAdda (e : SeId)
  | seClra (e : SeId)
  | seSha (e : SeId)
  | seRda (e : SeId)
  | seAdd (e : SeId)
  | seSub (e : SeId)
  | seAnd (e : SeId)
  | seOr (e : SeId)
  | seXor (e : SeId)
  | seShf (e : SeId)
  | seMin (e : SeId)
  | seMax (e : SeId)
  | seAbs (e : SeId)
  | seMov (e : SeId)
  | seSt (e : SeId)
  | seLdi (e : SeId)
  | seLdih (e : SeId)
  | seMovp (e : SeId)
  | seGetp (e : SeId)
  | seLoop (e : SeId)
  | seBr (e : SeId) (dinValid doutReady : Bool)
  | seRti (e : SeId)
  | seHalt (e : SeId)
  | seIn (e : SeId)
  | seOut (e : SeId)
  | seInHandshake (e : SeId) (din : BitVec 24)
  | seOutHandshake (e : SeId)
  | seSetsr (e : SeId)
  | seGetsr (e : SeId)
  | seSetrot (e : SeId)
  | seIllegalInstruction (e : SeId)
  | seInterrupt (e : SeId)
  | seStart (e : SeId)
  | seMemoryPortAccess (e : SeId) (sel : Fin 4) (addr : Fin 1024) (we : Bool) (wdata : U32) (shared : Bool := false)
  | slotWrite (f : Frame)
  | slotWriteDone
  | cfgFullLoad (f : Frame)
  | frameAssay (answer : ReadAnswer)
  | fabricGlobalStart (millivolts : List Nat)
  | plStart (f : Frame)
  | plDrainEnd (r : RegionId)
  | regionStart (r : RegionId) (millivolts : Nat)
  | scrubToBlankDone (r : RegionId)
  | regionReset (f : Frame)
  | regionResetEnd (r : RegionId)
  | cfgScrubFrame (found : ScrubFinding)
  | inputPowerGood
  | undervoltageLockout
  | overvoltageLockout
  | overvoltageRelease
  | powerOnReset
  | moduleStateStopped (bootMs : U32)
  | moduleCmdStart (f : Frame)
  | moduleCmdStop (f : Frame)
  | coreReset (f : Frame)
  | warmReset (f : Frame)
  | powerCycle (f : Frame)
  | powerReqWake (f : Frame)
  | powerReqS1 (f : Frame)
  | powerReqS3 (f : Frame)
  | powerReqS4 (f : Frame)
  | s1Entry
  | s1Exit
  | domainOff (f : Frame)
  | domainSwitchOff (d : DomainId)
  | domainPowerUpDone (d : DomainId)
  | wakeAtExpire
  | s3Wake
  | sysrefLoss
  | sysrefReturn
  | gtcRefInLoss
  | gtcRefInReturn
  | governorPeriod (g : GovReadings)
  | stepUpRailSettled
  | throttle (l : LimitReading)
  | throttleRelease
  | trip (l : LimitReading)
  | tripRelease
  | keyLoad (f : Frame)
  | keyClear (f : Frame)
  | unseal (f : Frame)
  | unsealStepDone
  | seal (f : Frame)
  | dbgStrapChange (asserted : Bool)
  | bypass (tdi : Bool)
  | idcode
  | samplePreload (pins : BitVec 352)
  | extest (drive : BitVec 352) (pins : BitVec 352)
  | bdFrame (frame : List Byte)
  | bdMem (isWrite : Bool) (addr : U64) (data : U64)
  | bdCore (c : CoreId) (t : ThreadId) (op : DebugOp)
  | bdStatus
  | bdOwnerKey (key : BitVec 256) (check : U32)
  | cntSelWrite (f : Frame)
  | cntSelectApply
  | cntClear (f : Frame)
  | cntClearApply
  | sampleClear (f : Frame)
  | ledgerRecord
  | criticalCopy
  | ledgerFreeze (f : Frame)
  | ledgerUnfreeze (f : Frame)
  | ledgerFreezeLimit
  | ledgerClear (f : Frame)
  | calendarSet (f : Frame)
  | neighbourSolicitation (src : BitVec 128) (target : BitVec 128)
  | echoRequest (src : BitVec 128) (dst : BitVec 128) (payload : List Byte)
  | pcieConfigWrite (w : CfgWrite)
  | atsTranslationCompletion (pasid : Option (BitVec 20)) (iova : U64) (sizeLog2 : Nat) (readable writable untranslated : Bool) (translated : U64 := 0)
  | perstNDeassert
  | pcieLinkDown
  | recoveryRelock (p : PortId)
  | eqWindowClose (p : PortId)
deriving DecidableEq, Repr

end Sys2Proof
end

