-- ==== Sys2Proof/Decode.lean ====
section
/-! DEFINITION. The command a table word spells. The block has no instruction encoding: no row of spec/opcode_table.json
gives bits, so no word spells a command. -/

namespace Sys2Proof

/-- The command that a word spells by the table's bits: no row gives bits. DESIGN CHOICE (log entry 4). -/
def decodeTableWord (_nbits _w : Nat) : Option Instr := none

end Sys2Proof
end

