-- ==== Sys2Proof/Machine/Rv.lean ====
section
/-! DEFINITION. Instructions of the control cores (R198, R208): RV64IMAC with Zicsr and Zifencei, the machine level's MRET and
WFI, and the custom-0 commands of Xgrn; their encodings, and the integer operations. -/

namespace Sys2Proof.Machine

/-- Integer operations of the I and M extensions. -/
inductive AluOp where
  | add | sub | sll | slt | sltu | xor | srl | sra | or | and | mul | mulh | mulhsu | mulhu | div | divu | rem | remu
deriving DecidableEq, Repr

/-- Read-modify-write operations of the A extension. -/
inductive AmoOp where
  | swap | add | xor | and | or | min | max | minu | maxu
deriving DecidableEq, Repr

/-- A control-core instruction. Register operands are numbers; immediates and offsets are sign-extended; `size` is the log2 of
an access's bytes. `fn` of a custom command is 64 × funct3 + funct7[6:1], and `task` its funct7[0] (R208). -/
inductive CcOp where
  | lui (rd : Nat) (imm : U64)
  | auipc (rd : Nat) (imm : U64)
  | jal (rd : Nat) (off : U64)
  | jalr (rd rs1 : Nat) (off : U64)
  | branch (f3 rs1 rs2 : Nat) (off : U64)
  | load (size : Nat) (unsig : Bool) (rd rs1 : Nat) (off : U64)
  | store (size rs1 rs2 : Nat) (off : U64)
  | aluImm (op : AluOp) (word : Bool) (rd rs1 : Nat) (imm : U64)
  | alu (op : AluOp) (word : Bool) (rd rs1 rs2 : Nat)
  | fence
  | fenceI
  | ecall
  | ebreak
  | mret
  | wfi
  | csr (f3 rd rs1 num : Nat)
  | lr (size rd rs1 : Nat)
  | sc (size rd rs1 rs2 : Nat)
  | amo (op : AmoOp) (size rd rs1 rs2 : Nat)
  | xgrn (fn : Nat) (task : Bool) (rd rs1 rs2 : Nat)
  | illegal
deriving DecidableEq, Repr

/-- A `w`-bit number sign-extended to 64 bits. -/
def sext (w n : Nat) : U64 := BitVec.ofInt 64 (signedOf w n)

/-- Code of a custom-0 command: 64 × funct3 + funct7[6:1]. -/
def xgrnFn (f3 f7 : Nat) : Nat := 64 * f3 + f7

/-- R208: the commands of the table, and which of them wait. -/
def xgrnListed (fn : Nat) : Bool :=
  [0, 1, 2, 64, 65, 66, 67, 128, 129, 130, 192, 193, 256, 257, 258, 259].contains fn

def xgrnWaits (fn : Nat) : Bool := [0, 64, 65, 66, 67, 129, 192, 193].contains fn

/-- The register-register operation of funct3 and funct7. -/
def aluOf (f3 f7 : Nat) : Option AluOp :=
  match f7, f3 with
  | 0, 0 => some .add | 0, 1 => some .sll | 0, 2 => some .slt | 0, 3 => some .sltu
  | 0, 4 => some .xor | 0, 5 => some .srl | 0, 6 => some .or | 0, 7 => some .and
  | 32, 0 => some .sub | 32, 5 => some .sra
  | 1, 0 => some .mul | 1, 1 => some .mulh | 1, 2 => some .mulhsu | 1, 3 => some .mulhu
  | 1, 4 => some .div | 1, 5 => some .divu | 1, 6 => some .rem | 1, 7 => some .remu
  | _, _ => none

/-- Whether an operation has a word form. -/
def wordForm : AluOp → Bool
  | .add | .sub | .sll | .srl | .sra | .mul | .div | .divu | .rem | .remu => true
  | _ => false

def amoOf (f5 : Nat) : Option AmoOp :=
  match f5 with
  | 1 => some .swap | 0 => some .add | 4 => some .xor | 12 => some .and | 8 => some .or
  | 16 => some .min | 20 => some .max | 24 => some .minu | 28 => some .maxu
  | _ => none

/-- A 32-bit instruction. PRESUMED (log entry 41). -/
def decode32 (w : Nat) : CcOp :=
  let rd := bits w 7 5
  let rs1 := bits w 15 5
  let rs2 := bits w 20 5
  let f3 := bits w 12 3
  let f7 := bits w 25 7
  let immI := sext 12 (bits w 20 12)
  let immS := sext 12 (bits w 7 5 + (bits w 25 7) <<< 5)
  let immB := sext 13 ((bits w 8 4) <<< 1 + (bits w 25 6) <<< 5 + (bits w 7 1) <<< 11 + (bits w 31 1) <<< 12)
  let immU := sext 32 (bits w 12 20 <<< 12)
  let immJ := sext 21 ((bits w 21 10) <<< 1 + (bits w 20 1) <<< 11 + (bits w 12 8) <<< 12 + (bits w 31 1) <<< 20)
  match bits w 0 7 with
  | 0x37 => .lui rd immU
  | 0x17 => .auipc rd immU
  | 0x6F => .jal rd immJ
  | 0x67 => if f3 = 0 then .jalr rd rs1 immI else .illegal
  | 0x63 => if f3 = 2 ∨ f3 = 3 then .illegal else .branch f3 rs1 rs2 immB
  | 0x03 => if f3 = 7 then .illegal else .load (f3 % 4) (f3 ≥ 4) rd rs1 immI
  | 0x23 => if 4 ≤ f3 then .illegal else .store f3 rs1 rs2 immS
  | 0x13 =>
    match f3 with
    | 0 => .aluImm .add false rd rs1 immI
    | 1 => if bits w 26 6 = 0 then .aluImm .sll false rd rs1 (BitVec.ofNat 64 (bits w 20 6)) else .illegal
    | 2 => .aluImm .slt false rd rs1 immI
    | 3 => .aluImm .sltu false rd rs1 immI
    | 4 => .aluImm .xor false rd rs1 immI
    | 5 => if bits w 26 6 = 0 then .aluImm .srl false rd rs1 (BitVec.ofNat 64 (bits w 20 6))
           else if bits w 26 6 = 16 then .aluImm .sra false rd rs1 (BitVec.ofNat 64 (bits w 20 6)) else .illegal
    | 6 => .aluImm .or false rd rs1 immI
    | _ => .aluImm .and false rd rs1 immI
  | 0x1B =>
    match f3 with
    | 0 => .aluImm .add true rd rs1 immI
    | 1 => if f7 = 0 then .aluImm .sll true rd rs1 (BitVec.ofNat 64 rs2) else .illegal
    | 5 => if f7 = 0 then .aluImm .srl true rd rs1 (BitVec.ofNat 64 rs2)
           else if f7 = 32 then .aluImm .sra true rd rs1 (BitVec.ofNat 64 rs2) else .illegal
    | _ => .illegal
  | 0x33 => match aluOf f3 f7 with | some op => .alu op false rd rs1 rs2 | none => .illegal
  | 0x3B => match aluOf f3 f7 with | some op => if wordForm op then .alu op true rd rs1 rs2 else .illegal | none => .illegal
  | 0x0F => if f3 = 0 then .fence else if f3 = 1 then .fenceI else .illegal
  | 0x73 =>
    if f3 = 0 then
      if rd ≠ 0 ∨ rs1 ≠ 0 then .illegal
      else match bits w 20 12 with
        | 0 => .ecall | 1 => .ebreak | 0x302 => .mret | 0x105 => .wfi | _ => .illegal
    else if f3 = 4 then .illegal else .csr f3 rd rs1 (bits w 20 12)
  | 0x2F =>
    if f3 ≠ 2 ∧ f3 ≠ 3 then .illegal
    else if bits w 27 5 = 2 then (if rs2 = 0 then .lr f3 rd rs1 else .illegal)
    else if bits w 27 5 = 3 then .sc f3 rd rs1 rs2
    else match amoOf (bits w 27 5) with | some op => .amo op f3 rd rs1 rs2 | none => .illegal
  | 0x0B =>
    let fn := xgrnFn f3 (bits w 26 6)
    if ¬ xgrnListed fn ∨ (bit w 25 ∧ ¬ xgrnWaits fn) then .illegal else .xgrn fn (bit w 25) rd rs1 rs2
  | _ => .illegal

/-- A 16-bit instruction of the C extension, as the instruction it stands for. PRESUMED (log entry 41). -/
def decode16 (w : Nat) : CcOp :=
  let rdp := 8 + bits w 2 3
  let rs1p := 8 + bits w 7 3
  let rd := bits w 7 5
  let rs2 := bits w 2 5
  let imm6 := sext 6 (bits w 2 5 + (bits w 12 1) <<< 5)
  let sh6 : U64 := BitVec.ofNat 64 (bits w 2 5 + (bits w 12 1) <<< 5)
  let offW : U64 := BitVec.ofNat 64 ((bits w 10 3) <<< 3 + (bits w 6 1) <<< 2 + (bits w 5 1) <<< 6)
  let offD : U64 := BitVec.ofNat 64 ((bits w 10 3) <<< 3 + (bits w 5 2) <<< 6)
  let offJ := sext 12 ((bits w 3 3) <<< 1 + (bits w 11 1) <<< 4 + (bits w 2 1) <<< 5 + (bits w 7 1) <<< 6 + (bits w 6 1) <<< 7
    + (bits w 9 2) <<< 8 + (bits w 8 1) <<< 10 + (bits w 12 1) <<< 11)
  let offB := sext 9 ((bits w 3 2) <<< 1 + (bits w 10 2) <<< 3 + (bits w 2 1) <<< 5 + (bits w 5 2) <<< 6 + (bits w 12 1) <<< 8)
  match bits w 0 2, bits w 13 3 with
  | 0, 0 =>
    let n := (bits w 11 2) <<< 4 + (bits w 7 4) <<< 6 + (bits w 6 1) <<< 2 + (bits w 5 1) <<< 3
    if n = 0 then .illegal else .aluImm .add false rdp 2 (BitVec.ofNat 64 n)
  | 0, 2 => .load 2 false rdp rs1p offW
  | 0, 3 => .load 3 false rdp rs1p offD
  | 0, 6 => .store 2 rs1p rdp offW
  | 0, 7 => .store 3 rs1p rdp offD
  | 1, 0 => .aluImm .add false rd rd imm6
  | 1, 1 => if rd = 0 then .illegal else .aluImm .add true rd rd imm6
  | 1, 2 => .aluImm .add false rd 0 imm6
  | 1, 3 =>
    if bits w 2 5 + bits w 12 1 = 0 then .illegal
    else if rd = 2 then
      .aluImm .add false 2 2 (sext 10 ((bits w 6 1) <<< 4 + (bits w 2 1) <<< 5 + (bits w 5 1) <<< 6 + (bits w 3 2) <<< 7 + (bits w 12 1) <<< 9))
    else .lui rd (sext 18 ((bits w 2 5) <<< 12 + (bits w 12 1) <<< 17))
  | 1, 4 =>
    match bits w 10 2 with
    | 0 => .aluImm .srl false rs1p rs1p sh6
    | 1 => .aluImm .sra false rs1p rs1p sh6
    | 2 => .aluImm .and false rs1p rs1p imm6
    | _ =>
      match bits w 12 1, bits w 5 2 with
      | 0, 0 => .alu .sub false rs1p rs1p rdp
      | 0, 1 => .alu .xor false rs1p rs1p rdp
      | 0, 2 => .alu .or false rs1p rs1p rdp
      | 0, _ => .alu .and false rs1p rs1p rdp
      | _, 0 => .alu .sub true rs1p rs1p rdp
      | _, 1 => .alu .add true rs1p rs1p rdp
      | _, _ => .illegal
  | 1, 5 => .jal 0 offJ
  | 1, 6 => .branch 0 rs1p 0 offB
  | 1, 7 => .branch 1 rs1p 0 offB
  | 2, 0 => .aluImm .sll false rd rd sh6
  | 2, 2 => if rd = 0 then .illegal else .load 2 false rd 2 (BitVec.ofNat 64 ((bits w 4 3) <<< 2 + (bits w 12 1) <<< 5 + (bits w 2 2) <<< 6))
  | 2, 3 => if rd = 0 then .illegal else .load 3 false rd 2 (BitVec.ofNat 64 ((bits w 5 2) <<< 3 + (bits w 12 1) <<< 5 + (bits w 2 3) <<< 6))
  | 2, 4 =>
    if bits w 12 1 = 0 then
      if rs2 = 0 then (if rd = 0 then .illegal else .jalr 0 rd 0) else .alu .add false rd 0 rs2
    else if rs2 = 0 then (if rd = 0 then .ebreak else .jalr 1 rd 0)
    else .alu .add false rd rd rs2
  | 2, 6 => .store 2 2 rs2 (BitVec.ofNat 64 ((bits w 9 4) <<< 2 + (bits w 7 2) <<< 6))
  | 2, 7 => .store 3 2 rs2 (BitVec.ofNat 64 ((bits w 10 3) <<< 3 + (bits w 7 3) <<< 6))
  | _, _ => .illegal

/-- The low word of a result, sign-extended. -/
def wordResult (x : U64) : U64 := (x.setWidth 32).signExtend 64

/-- Quotients and remainders, with the results of RISC-V for a zero divisor. PRESUMED (log entry 41). -/
def divS (w : Nat) (a b : BitVec w) : BitVec w := if b = 0 then BitVec.allOnes w else a.sdiv b
/-- PRESUMED (log entry 41). -/
def divU (w : Nat) (a b : BitVec w) : BitVec w := if b = 0 then BitVec.allOnes w else a / b
def remS (w : Nat) (a b : BitVec w) : BitVec w := if b = 0 then a else a.srem b
def remU (w : Nat) (a b : BitVec w) : BitVec w := if b = 0 then a else a % b

/-- An operation on doublewords. PRESUMED (log entry 41). -/
def alu64 (op : AluOp) (a b : U64) : U64 :=
  match op with
  | .add => a + b
  | .sub => a - b
  | .sll => a <<< (b.toNat % 64)
  | .slt => if a.slt b then 1 else 0
  | .sltu => if a < b then 1 else 0
  | .xor => a ^^^ b
  | .srl => a >>> (b.toNat % 64)
  | .sra => a.sshiftRight (b.toNat % 64)
  | .or => a ||| b
  | .and => a &&& b
  | .mul => a * b
  | .mulh => BitVec.ofInt 64 (a.toInt * b.toInt / 2 ^ 64)
  | .mulhsu => BitVec.ofInt 64 (a.toInt * (b.toNat : Int) / 2 ^ 64)
  | .mulhu => BitVec.ofNat 64 (a.toNat * b.toNat / 2 ^ 64)
  | .div => divS 64 a b
  | .divu => divU 64 a b
  | .rem => remS 64 a b
  | .remu => remU 64 a b

/-- An operation on words, its result sign-extended. PRESUMED (log entry 41). -/
def alu32 (op : AluOp) (a b : U64) : U64 :=
  let x : U32 := a.setWidth 32
  let y : U32 := b.setWidth 32
  let r : U32 :=
    match op with
    | .add => x + y
    | .sub => x - y
    | .sll => x <<< (y.toNat % 32)
    | .srl => x >>> (y.toNat % 32)
    | .sra => x.sshiftRight (y.toNat % 32)
    | .mul => x * y
    | .div => divS 32 x y
    | .divu => divU 32 x y
    | .rem => remS 32 x y
    | .remu => remU 32 x y
    | _ => 0
  r.signExtend 64

def aluRun (op : AluOp) (word : Bool) (a b : U64) : U64 := if word then alu32 op a b else alu64 op a b

/-- Whether a branch of funct3 is taken. PRESUMED (log entry 41). -/
def branchTaken (f3 : Nat) (a b : U64) : Bool :=
  match f3 with
  | 0 => a = b
  | 1 => a ≠ b
  | 4 => a.slt b
  | 5 => !a.slt b
  | 6 => a < b
  | _ => !decide (a < b)

/-- The value an atomic operation stores, on its width. PRESUMED (log entries 41, 43). -/
def amoRun (op : AmoOp) (w : Nat) (m r : BitVec w) : BitVec w :=
  match op with
  | .swap => r
  | .add => m + r
  | .xor => m ^^^ r
  | .and => m &&& r
  | .or => m ||| r
  | .min => if m.slt r then m else r
  | .max => if m.slt r then r else m
  | .minu => if m < r then m else r
  | .maxu => if m < r then r else m

end Sys2Proof.Machine
end

