-- ==== Sys2Proof/Machine/DesignTypes.lean ====
section
/-! DEFINITION. What a region's logic frames configure (R435 to R442): the wires of the native routing, what a multiplexer may select,
and the settings of a logic cell, a flip-flop, a cluster and an L16 segment. -/

namespace Sys2Proof

/-- A wire of a region that one native multiplexer drives (R440): a routing track, an L16 segment that starts in the region, an input of
a cell's table, the routing input of a flip-flop, the routing input of a chain's first cell, a clock enable or set-reset input of a
cluster, and the data and output enable of a legacy-line site (R442). -/
inductive Wire where
  | track (n : Nat)
  | l16 (n : Nat)
  | lutIn (cell k : Nat)
  | direct (cell : Nat) (second : Bool)
  | carryIn (cell : Nat)
  | enable (cluster : Nat) (second : Bool)
  | setReset (cluster : Nat) (second : Bool)
  | siteData (line site : Nat)
  | siteEnable (line site : Nat)
deriving DecidableEq, Repr, Inhabited

/-- What drives an input of a multiplexer: a wire, a table output, a flip-flop, a cell's carry-out, a legacy line, a bit of a block RAM's
output latch, a user pin, a wire of another region through its isolation crossing, or a signal that the fabric does not make. -/
inductive Source where
  | wire (w : Wire)
  | o6 (cell : Nat)
  | o5 (cell : Nat)
  | flop (cell : Nat) (second : Bool)
  | carry (cell : Nat)
  | legacy (line : Nat)
  | ram (ram : Nat) (portB : Bool) (bit : Nat)
  | pin (k : Nat)
  | crossing (region : Nat) (w : Wire) (n : Nat)
  | outside (n : Nat)
deriving DecidableEq, Repr

/-- R435: the D input of a flip-flop. -/
inductive FlopInput where
  | o6 | o5 | carrySum | direct
deriving DecidableEq, Repr, Inhabited

/-- R436: the settings of a flip-flop: its D input, its clock of the cluster's two, its clock enable and set-reset of two or none,
asynchronous or synchronous action, set or reset, and INIT. -/
structure FlopDesign where
  d : FlopInput
  clock : Bool
  enable : Option Bool
  setReset : Option Bool
  async : Bool
  set : Bool
  init : Bool
deriving DecidableEq, Repr, Inhabited

/-- R438: the carry-in of a chain's first cell. -/
inductive CarryStart where
  | zero | one | routing
deriving DecidableEq, Repr, Inhabited

/-- R435, R438: the settings of a logic cell: two LUT5s or one LUT6, the table, the carry-in where a chain starts here, and the two
flip-flops. -/
structure CellDesign where
  split : Bool
  table : BitVec 64
  start : Option CarryStart
  first : FlopDesign
  second : FlopDesign
deriving DecidableEq, Repr, Inhabited

/-- R436: the clock of a control set: a slot of the region's spine, and its polarity. -/
structure ClockDesign where
  slot : Nat
  falling : Bool
deriving DecidableEq, Repr, Inhabited

/-- R441: the register of an L16 segment: whether it is enabled, its clock and its INIT. -/
structure SegmentDesign where
  enabled : Bool
  clock : ClockDesign
  init : Bool
deriving DecidableEq, Repr, Inhabited

end Sys2Proof
end

