-- ==== Sys2Proof/Config.lean ====
section
/-! DEFINITION. What the spec leaves open: free values, opaque constants that nothing can evaluate. Each is applied to a
counter that State holds and every use advances, so that each use stands for a fresh value. -/

namespace Sys2Proof.Config

/-- Bytes the spec calls undefined: data under a poison mark (R161, R190, R339), a load from a range that is not complete
(R179), a context as its home holds it (R248). DESIGN CHOICE (log entry 11). -/
opaque freeByte : Nat → Byte

/-- Values whose rule gives a range or no value at all: latencies in cycles, a counter of cycles, a random number that the
module draws (R63), a PRG index (R304), a SESSION_ID (R56). DESIGN CHOICE (log entries 8, 12). -/
opaque freeNat : Nat → Nat

/-- What the caches of a control core hold of a line of the program image that was written during the run (R199), by the draw and
the byte's address, doubled, plus 1 in the data cache. DEDUCED (log entry 84). -/
opaque cacheByte : Nat → Nat → Byte

/-- Choices the spec leaves to the hardware (R337: an error of more than six symbols). DESIGN CHOICE (log entry 13). -/
opaque freeChoice : Nat → Nat → Nat

/-- Narmen's device database (R482): the legacy sites, as 8 × line + site, that the data bits of a region's frame connect, by the
number of the frame in its region. The manual does not give it. DESIGN CHOICE (log entry 14). -/
opaque frameSites : Nat → List Byte → List Nat

/-- Narmen's device database (R437, R482): the INIT value of the output latch of a block RAM's port (2 × RAM + port), by the
logic frames of its region. DESIGN CHOICE (log entry 14). -/
opaque latchInit : List (List Byte) → Nat → Nat

/-- Narmen's device database (R449, R482): the global clocks that the frames of the fabric PLLs and the global clock sources make
tick-locked, bit g for clock g. DESIGN CHOICE (log entry 14). -/
opaque tickLocked : List (List Byte) → Nat

/-- Narmen's device database (R322, R482): the spine slot that drives the BP_CLK of a border port, by the logic frames of its
region and the port's place in it. DESIGN CHOICE (log entry 14). -/
opaque portClock : List (List Byte) → Nat → Nat

/-- The check bits of the Hamming code of block RAM mode 6 (R446). The manual does not give the code.
DESIGN CHOICE (log entry 15). -/
opaque eccCheck : BitVec 64 → BitVec 8

/-- Narmen's device database (R435, R482): the settings of a logic cell, by the logic frames of its region. DESIGN CHOICE (log entry
14). -/
opaque cellDesign : List (List Byte) → Nat → CellDesign

/-- Narmen's device database (R436, R482): the clock CLK0 or CLK1 of a cluster, by the logic frames of its region. DESIGN CHOICE (log
entry 14). -/
opaque clusterClock : List (List Byte) → Nat → Bool → ClockDesign

/-- Narmen's device database (R441, R482): the register of an L16 segment, by the logic frames of its region. DESIGN CHOICE (log entry
14). -/
opaque segmentDesign : List (List Byte) → Nat → SegmentDesign

/-- The L16 segments that start in a region (R441), of which the model holds the first 2^20. DESIGN CHOICE (log entry 14). -/
opaque segmentCount : Nat

/-- Narmen's device database (R440, R482): the binary field of a multiplexer, by the logic frames of its region. DESIGN CHOICE (log
entry 14). -/
opaque muxField : List (List Byte) → Wire → Nat

/-- Narmen's device database (R440, R482): the inputs 1 to n of the multiplexer of a region's wire, which the hardware fixes.
DESIGN CHOICE (log entry 14). -/
opaque muxInputs : Nat → Wire → List Source

/-- Narmen's device database (R484): the wire that leaves a region by an isolation crossing. DESIGN CHOICE (log entry 14). -/
opaque crossingWire : Nat → Nat → Wire

/-- Narmen's device database (R454): the region of a probe point of a quadrant, and its isolation crossing. DESIGN CHOICE (log entry
14). -/
opaque probePlace : Nat → Nat → Nat × Nat

/-- Narmen's device database (R454, R482): the signal that a design connects to a probe point, by the logic frames of its region.
DESIGN CHOICE (log entry 14). -/
opaque probeSource : List (List Byte) → Nat → Option Source

/-- The carry sum and carry-out of a cell, from O6, O5 and the carry-in (R435, R438): the manual gives no function. DESIGN CHOICE (log
entry 60). -/
opaque carryCell : Bool → Bool → Bool → Bool × Bool

/-- Narmen's device database (R447, R482): the PLL that drives a global clock, none for a pin. DESIGN CHOICE (log entry 14). -/
opaque clockPll : List (List Byte) → Nat → Option Nat

/-- Whether a global clock has a rising (false) or falling (true) edge, by the draw and the clock (R447). DESIGN CHOICE (log entry 60). -/
opaque clockEdge : Nat → Nat → Bool → Bool

/-- A signal that the fabric does not make, or whose rule gives no value, by the draw, the region and the source. DESIGN CHOICE (log entry
60). -/
opaque openSignal : Nat → Nat → Source → Bool

end Sys2Proof.Config
end

