-- ==== Sys2Proof/Machine/Entries.lean ====
section
/-! DEFINITION. The object dictionary's entries as the tables of the spec give them (R39 to R49): type, access of each role,
persistence class, default and range of each. -/

namespace Sys2Proof.Machine

/-- Entry types (R41). -/
inductive EntryType where
  | bool | u8 | u16 | u32 | u64 | i8 | i16 | i32 | i64 | f32 | time64 | string | domain
deriving DecidableEq, Repr

/-- Access codes (R44). -/
inductive Access where
  | none | ro | rw | wo | rws | const
deriving DecidableEq, Repr

/-- Persistence classes (R47). -/
inductive Persist where
  | volatile | retained | stored
deriving DecidableEq, Repr

/-- A row of a dictionary table: its first index and how many indexes repeat it, its first subindex and how many, its type,
the access of OPERATOR, SERVICE and OWNER (R45), its class, default and range. -/
structure Entry where
  index : Nat
  indexes : Nat
  sub : Nat
  subs : Nat
  type : EntryType
  operator : Access
  service : Access
  owner : Access
  persist : Persist
  dflt : Nat
  lo : Nat
  hi : Nat
deriving DecidableEq, Repr

/-- A row as the tables below write it. -/
def ent (index indexes sub subs : Nat) (type : EntryType) (operator service owner : Access) (persist : Persist)
    (dflt lo hi : Nat) : Entry :=
  { index, indexes, sub, subs, type, operator, service, owner, persist, dflt, lo, hi }

/-- The key of entry index.sub. -/
def keyOf (index sub : Nat) : Nat := 256 * index + sub

/-- DU_MAP_ID. -/
abbrev keyDuMapId : Nat := 0x011001
/-- DU_ROW0. -/
abbrev keyDuRow0 : Nat := 0x011002
/-- DU_OTHER. -/
abbrev keyDuOther : Nat := 0x01100A
/-- VENDOR. -/
abbrev keyVendor : Nat := 0x010001
/-- ORDER_CODE. -/
abbrev keyOrderCode : Nat := 0x010002
/-- MODULE_REV. -/
abbrev keyModuleRev : Nat := 0x010003
/-- SERIAL. -/
abbrev keySerial : Nat := 0x010004
/-- DIE_STEPPING. -/
abbrev keyDieStepping : Nat := 0x010005
/-- FW_BUILD. -/
abbrev keyFwBuild : Nat := 0x010006
/-- MAC_ADDR. -/
abbrev keyMacAddr : Nat := 0x010007
/-- DICT_VERSION. -/
abbrev keyDictVersion : Nat := 0x010008
/-- FB_ENABLE. -/
abbrev keyFbEnable : Nat := 0x020001
/-- FB_UDP_PORT. -/
abbrev keyFbUdpPort : Nat := 0x020002
/-- PLCA_ENABLE. -/
abbrev keyPlcaEnable : Nat := 0x020003
/-- PLCA_NODE_ID. -/
abbrev keyPlcaNodeId : Nat := 0x020004
/-- PLCA_NODE_COUNT. -/
abbrev keyPlcaNodeCount : Nat := 0x020005
/-- SESSION_IDLE_TIMEOUT. -/
abbrev keySessionIdleTimeout : Nat := 0x020006
/-- MAILBOX_ENABLE. -/
abbrev keyMailboxEnable : Nat := 0x020007
/-- AUTH_FAILURES. -/
abbrev keyAuthFailures : Nat := 0x020008
/-- TAG_FAILURES. -/
abbrev keyTagFailures : Nat := 0x020009
/-- SEQ_DISCARDS. -/
abbrev keySeqDiscards : Nat := 0x02000A
/-- BAD_FRAMES. -/
abbrev keyBadFrames : Nat := 0x02000B
/-- SESSIONS_OPEN. -/
abbrev keySessionsOpen : Nat := 0x02000C
/-- MY_ROLE. -/
abbrev keyMyRole : Nat := 0x02000D
/-- CLIP_PPM. -/
abbrev keyClipPpm : Nat := 0x604001
/-- DUMMY_WINDOW. -/
abbrev keyDummyWindow : Nat := 0x605001
/-- DUMMY_DENSITY. -/
abbrev keyDummyDensity : Nat := 0x605002
/-- WARMUP_CYCLES. -/
abbrev keyWarmupCycles : Nat := 0x605003
/-- CM_RETAIN_SEGMENTS. -/
abbrev keyCmRetainSegments : Nat := 0x606001
/-- CC_IMAGE_BASE. -/
abbrev keyCcImageBase : Nat := 0x607001
/-- CC_ENTRY. -/
abbrev keyCcEntry : Nat := 0x607002
/-- THREAD_QUANTUM. -/
abbrev keyThreadQuantum : Nat := 0x607003
/-- BP_ENABLE. -/
abbrev keyBpEnable : Nat := 0x607004
/-- FW_SLOT_ACTIVE. -/
abbrev keyFwSlotActive : Nat := 0x010009
/-- FW_SLOT0_BUILD. -/
abbrev keyFwSlot0Build : Nat := 0x01000A
/-- FW_SLOT1_BUILD. -/
abbrev keyFwSlot1Build : Nat := 0x01000B
/-- FW_SLOT_SELECT. -/
abbrev keyFwSlotSelect : Nat := 0x01000C
/-- STREAM_SPLIT. -/
abbrev keyStreamSplit : Nat := 0x608001
/-- TOLL_RATE. -/
abbrev keyTollRate : Nat := 0x608002
/-- TOLL_RATE_FLOOR. -/
abbrev keyTollRateFloor : Nat := 0x608003
/-- TOLL_BURST. -/
abbrev keyTollBurst : Nat := 0x608004
/-- MC_STRAGGLER_TIMEOUT. -/
abbrev keyMcStragglerTimeout : Nat := 0x608005
/-- MC_STRAGGLER_POLICY. -/
abbrev keyMcStragglerPolicy : Nat := 0x608006
/-- TT_PHYS_BASE. -/
abbrev keyTtPhysBase : Nat := 0x609001
/-- TT_ENTRIES. -/
abbrev keyTtEntries : Nat := 0x609002
/-- BP_TIMEOUT. -/
abbrev keyBpTimeout : Nat := 0x510001
/-- BP_RETRY_DELAY. -/
abbrev keyBpRetryDelay : Nat := 0x510002
/-- TOWER_STATE0. -/
abbrev keyTowerState0 : Nat := 0x300001
/-- TOWER_TEMP0. -/
abbrev keyTowerTemp0 : Nat := 0x300101
/-- REFRESH_RATE_HIGH. -/
abbrev keyRefreshRateHigh : Nat := 0x300109
/-- PORT_CLASS0. -/
abbrev keyPortClass0 : Nat := 0x301001
/-- AGE_LIMIT. -/
abbrev keyAgeLimit : Nat := 0x301009
/-- LS_REFRESH_MODE. -/
abbrev keyLsRefreshMode : Nat := 0x302001
/-- SCRUB_EVERY. -/
abbrev keyScrubEvery : Nat := 0x303001
/-- SCRUB_EVERY_MIN. -/
abbrev keyScrubEveryMin : Nat := 0x303002
/-- SCRUB_EVERY_MAX. -/
abbrev keyScrubEveryMax : Nat := 0x303003
/-- SCRUB_PASSES. -/
abbrev keyScrubPasses : Nat := 0x303004
/-- ECC_CORRECTED. -/
abbrev keyEccCorrected : Nat := 0x304001
/-- ECC_UNCORRECTED. -/
abbrev keyEccUncorrected : Nat := 0x304002
/-- POISON_READ. -/
abbrev keyPoisonRead : Nat := 0x304003
/-- LAST_UE_ADDR. -/
abbrev keyLastUeAddr : Nat := 0x304004
/-- LAST_UE_TIME. -/
abbrev keyLastUeTime : Nat := 0x304005
/-- LANE_REPAIRS. -/
abbrev keyLaneRepairs : Nat := 0x305001
/-- TRAIN_TIME. -/
abbrev keyTrainTime : Nat := 0x305002
/-- SYS_ADDR. -/
abbrev keySysAddr : Nat := 0x400001
/-- TORUS_X. -/
abbrev keyTorusX : Nat := 0x400002
/-- TORUS_Y. -/
abbrev keyTorusY : Nat := 0x400003
/-- TORUS_Z. -/
abbrev keyTorusZ : Nat := 0x400004
/-- LINK_SLACK_REPLAYS. -/
abbrev keyLinkSlackReplays : Nat := 0x400005
/-- LINK_SLACK_EXTRA. -/
abbrev keyLinkSlackExtra : Nat := 0x400006
/-- IDLE_ENTRY. -/
abbrev keyIdleEntry : Nat := 0x400007
/-- REMOTE_TIMEOUT. -/
abbrev keyRemoteTimeout : Nat := 0x400008
/-- EQ_MARGIN_MIN. -/
abbrev keyEqMarginMin : Nat := 0x400009
/-- LINK_LAT_SET. -/
abbrev keyLinkLatSet : Nat := 0x40000A
/-- PORT_STATE. -/
abbrev keyPortState : Nat := 0x410001
/-- PARTNER_SERIAL. -/
abbrev keyPartnerSerial : Nat := 0x410002
/-- PARTNER_SYS. -/
abbrev keyPartnerSys : Nat := 0x410003
/-- PARTNER_PORT. -/
abbrev keyPartnerPort : Nat := 0x410004
/-- LAT_MEAS. -/
abbrev keyLatMeas : Nat := 0x410005
/-- RTT_MEAS. -/
abbrev keyRttMeas : Nat := 0x410006
/-- LAT_FIXED. -/
abbrev keyLatFixed : Nat := 0x410007
/-- EYE_MARGIN. -/
abbrev keyEyeMargin : Nat := 0x410008
/-- CRC_ERRORS. -/
abbrev keyCrcErrors : Nat := 0x410009
/-- REPLAYS. -/
abbrev keyReplays : Nat := 0x41000A
/-- RECOVERIES. -/
abbrev keyRecoveries : Nat := 0x41000B
/-- PORT_ENABLE. -/
abbrev keyPortEnable : Nat := 0x41000C
/-- PORT_RESET. -/
abbrev keyPortReset : Nat := 0x41000D
/-- LS_MODE. -/
abbrev keyLsMode : Nat := 0x900001
/-- LS_ANCHOR. -/
abbrev keyLsAnchor : Nat := 0x900002
/-- LS_REF_SOURCE. -/
abbrev keyLsRefSource : Nat := 0x900003
/-- LS_STATE. -/
abbrev keyLsState : Nat := 0x900004
/-- LS_FAULT_CAUSE. -/
abbrev keyLsFaultCause : Nat := 0x900005
/-- LS_FAULT_ORIGIN. -/
abbrev keyLsFaultOrigin : Nat := 0x900006
/-- LS_HOPS. -/
abbrev keyLsHops : Nat := 0x900007
/-- LS_PARENT_PORT. -/
abbrev keyLsParentPort : Nat := 0x900008
/-- GTC_NOW. -/
abbrev keyGtcNow : Nat := 0x900009
/-- LS_RESIDUAL. -/
abbrev keyLsResidual : Nat := 0x90000A
/-- LS_START_TIMEOUT. -/
abbrev keyLsStartTimeout : Nat := 0x90000B
/-- LS_EXPECT_SHAPE. -/
abbrev keyLsExpectShape : Nat := 0x90000C
/-- LS_RESTART. -/
abbrev keyLsRestart : Nat := 0x90000D
/-- SLIP_QUANTUM. -/
abbrev keySlipQuantum : Nat := 0x90000E
/-- LS_PIN_GOVERNOR. -/
abbrev keyLsPinGovernor : Nat := 0x90000F
/-- LS_ARMED_TIME. -/
abbrev keyLsArmedTime : Nat := 0x900010
/-- SYS_LAT. -/
abbrev keySysLat : Nat := 0x900101
/-- FLOOD_BOUND. -/
abbrev keyFloodBound : Nat := 0x900102
/-- SYS_MODULES. -/
abbrev keySysModules : Nat := 0x900103
/-- LAUNCH. -/
abbrev keyLaunch : Nat := 0x901001
/-- LAUNCH_TICK. -/
abbrev keyLaunchTick : Nat := 0x901002
/-- RUN. -/
abbrev keyRun : Nat := 0x901003
/-- LS_READY. -/
abbrev keyLsReady : Nat := 0x901004
/-- LS_STOP. -/
abbrev keyLsStop : Nat := 0x901005
/-- SLIPS. -/
abbrev keySlips : Nat := 0x901006
/-- LAST_SLIP_TICK. -/
abbrev keyLastSlipTick : Nat := 0x901007
/-- RUN_CM. -/
abbrev keyRunCm : Nat := 0x901008
/-- RUN_CM_CAUSE. -/
abbrev keyRunCmCause : Nat := 0x901009
/-- AGREE_LATE. -/
abbrev keyAgreeLate : Nat := 0x90100A
/-- IMAGE_HASH. -/
abbrev keyImageHash : Nat := 0x90100B
/-- READY_STATUS. -/
abbrev keyReadyStatus : Nat := 0x90100C
/-- FPLL_LOCKED. -/
abbrev keyFpllLocked : Nat := 0x520001
/-- GCLK_TICK_LOCKED. -/
abbrev keyGclkTickLocked : Nat := 0x520002
/-- BANK_VCCO0. -/
abbrev keyBankVcco0 : Nat := 0x521001
/-- PROBE_VCCO. -/
abbrev keyProbeVcco : Nat := 0x521009
/-- PIN_LEVEL_FAULTS. -/
abbrev keyPinLevelFaults : Nat := 0x52100A
/-- PROBE_SEL_FQ0. -/
abbrev keyProbeSelFq0 : Nat := 0x522001
/-- PROBE_SEL_FQ1. -/
abbrev keyProbeSelFq1 : Nat := 0x522101
/-- PROBE_SEL_FQ2. -/
abbrev keyProbeSelFq2 : Nat := 0x522201
/-- PROBE_SEL_FQ3. -/
abbrev keyProbeSelFq3 : Nat := 0x522301
/-- PROBE_QUAD0. -/
abbrev keyProbeQuad0 : Nat := 0x522401
/-- PROBE_PINS_EN. -/
abbrev keyProbePinsEn : Nat := 0x522501
/-- TRACE_CLOCK. -/
abbrev keyTraceClock : Nat := 0x523001
/-- TRACE_PRE. -/
abbrev keyTracePre : Nat := 0x523002
/-- TRACE_VALUE. -/
abbrev keyTraceValue : Nat := 0x523003
/-- TRACE_MASK. -/
abbrev keyTraceMask : Nat := 0x523004
/-- TRACE_ARM. -/
abbrev keyTraceArm : Nat := 0x523005
/-- TRACE_STATE. -/
abbrev keyTraceState : Nat := 0x523006
/-- TRIG_GTC. -/
abbrev keyTrigGtc : Nat := 0x523007
/-- TRACE_DATA. -/
abbrev keyTraceData : Nat := 0x523008
/-- CONTENTION_REGIONS. -/
abbrev keyContentionRegions : Nat := 0x524001
/-- CONTENTION_EVENTS. -/
abbrev keyContentionEvents : Nat := 0x524002
/-- FABRIC_STATE. -/
abbrev keyFabricState : Nat := 0x500001
/-- CFG_BOOT_SLOT. -/
abbrev keyCfgBootSlot : Nat := 0x500002
/-- CFG_FALLBACK_SLOT. -/
abbrev keyCfgFallbackSlot : Nat := 0x500003
/-- CFG_REQUIRE_ENC. -/
abbrev keyCfgRequireEnc : Nat := 0x500004
/-- CFG_FULL_LOAD. -/
abbrev keyCfgFullLoad : Nat := 0x500005
/-- CFG_LOAD_STATUS. -/
abbrev keyCfgLoadStatus : Nat := 0x500006
/-- CFG_LOAD_FRAME. -/
abbrev keyCfgLoadFrame : Nat := 0x500007
/-- CFG_LOADS_FAILED. -/
abbrev keyCfgLoadsFailed : Nat := 0x500008
/-- SLOT_WRITE_SRC. -/
abbrev keySlotWriteSrc : Nat := 0x500101
/-- SLOT_WRITE. -/
abbrev keySlotWrite : Nat := 0x500102
/-- SLOT_WRITE_STATUS. -/
abbrev keySlotWriteStatus : Nat := 0x500103
/-- SLOT_IMAGE_ID0. -/
abbrev keySlotImageId0 : Nat := 0x500201
/-- LIB_REGION0. -/
abbrev keyLibRegion0 : Nat := 0x500301
/-- PL_REGION. -/
abbrev keyPlRegion : Nat := 0x501001
/-- PL_SOURCE. -/
abbrev keyPlSource : Nat := 0x501002
/-- PL_LIB_ENTRY. -/
abbrev keyPlLibEntry : Nat := 0x501003
/-- PL_ADDR. -/
abbrev keyPlAddr : Nat := 0x501004
/-- PL_DRAIN. -/
abbrev keyPlDrain : Nat := 0x501005
/-- PL_START. -/
abbrev keyPlStart : Nat := 0x501006
/-- REGION_STATE0. -/
abbrev keyRegionState0 : Nat := 0x502001
/-- REGION_RESET. -/
abbrev keyRegionReset : Nat := 0x502101
/-- CFG_SCRUB_INTERVAL. -/
abbrev keyCfgScrubInterval : Nat := 0x503001
/-- CFG_SCRUB_INTERVAL_MAX. -/
abbrev keyCfgScrubIntervalMax : Nat := 0x503002
/-- CFG_UE_ACTION. -/
abbrev keyCfgUeAction : Nat := 0x503003
/-- CFG_SEU_CORRECTED. -/
abbrev keyCfgSeuCorrected : Nat := 0x503004
/-- CFG_SEU_UNCORRECTED. -/
abbrev keyCfgSeuUncorrected : Nat := 0x503005
/-- CFG_SCRUB_PASSES. -/
abbrev keyCfgScrubPasses : Nat := 0x503006
/-- POWER_STATE. -/
abbrev keyPowerState : Nat := 0x100001
/-- POWER_REQ. -/
abbrev keyPowerReq : Nat := 0x100002
/-- DOMAIN_OFF. -/
abbrev keyDomainOff : Nat := 0x100003
/-- DOMAIN_ON. -/
abbrev keyDomainOn : Nat := 0x100004
/-- WAKE_AT. -/
abbrev keyWakeAt : Nat := 0x100005
/-- WAKE_CAUSE. -/
abbrev keyWakeCause : Nat := 0x100006
/-- INPUT_VOLTAGE. -/
abbrev keyInputVoltage : Nat := 0x100007
/-- INPUT_CURRENT. -/
abbrev keyInputCurrent : Nat := 0x100008
/-- INPUT_POWER. -/
abbrev keyInputPower : Nat := 0x100009
/-- POWER_LIMIT. -/
abbrev keyPowerLimit : Nat := 0x110001
/-- THERMAL_TARGET. -/
abbrev keyThermalTarget : Nat := 0x110002
/-- STEP_MIN. -/
abbrev keyStepMin : Nat := 0x110003
/-- STEP_MAX. -/
abbrev keyStepMax : Nat := 0x110004
/-- TJ_MAX. -/
abbrev keyTjMax : Nat := 0x110005
/-- THROTTLE_ACTIVE. -/
abbrev keyThrottleActive : Nat := 0x110006
/-- THROTTLE_EVENTS. -/
abbrev keyThrottleEvents : Nat := 0x110007
/-- TRIPS. -/
abbrev keyTrips : Nat := 0x110008
/-- TJ0. -/
abbrev keyTj0 : Nat := 0x110101
/-- CLK_STEP. -/
abbrev keyClkStep : Nat := 0x130001
/-- TILE_MHZ. -/
abbrev keyTileMhz : Nat := 0x130002
/-- NET_MHZ. -/
abbrev keyNetMhz : Nat := 0x130003
/-- SYSREF_OK. -/
abbrev keySysrefOk : Nat := 0x130004
/-- CLK_SOURCE. -/
abbrev keyClkSource : Nat := 0x130005
/-- MODULE_STATE. -/
abbrev keyModuleState : Nat := 0x200001
/-- MODULE_CMD. -/
abbrev keyModuleCmd : Nat := 0x200002
/-- CORE_RESET. -/
abbrev keyCoreReset : Nat := 0x200003
/-- WARM_RESET. -/
abbrev keyWarmReset : Nat := 0x200004
/-- POWER_CYCLE. -/
abbrev keyPowerCycle : Nat := 0x200005
/-- LAST_RESET. -/
abbrev keyLastReset : Nat := 0x200006
/-- POWER_ON_CAUSE. -/
abbrev keyPowerOnCause : Nat := 0x200007
/-- BOOT_TIME. -/
abbrev keyBootTime : Nat := 0x200008
/-- DEBUG_STATE. -/
abbrev keyDebugState : Nat := 0x700001
/-- UNSEAL. -/
abbrev keyUnseal : Nat := 0x700002
/-- SEAL. -/
abbrev keySeal : Nat := 0x700003
/-- DBG_STRAP. -/
abbrev keyDbgStrap : Nat := 0x700004
/-- UNSEAL_COUNT. -/
abbrev keyUnsealCount : Nat := 0x700005
/-- KEY_LOAD. -/
abbrev keyKeyLoad : Nat := 0x701001
/-- KEY_CLEAR. -/
abbrev keyKeyClear : Nat := 0x701002
/-- KEY_PRESENT. -/
abbrev keyKeyPresent : Nat := 0x701003
/-- FW_MIN_BUILD. -/
abbrev keyFwMinBuild : Nat := 0x702001
/-- FW_PUBLIC_KEY. -/
abbrev keyFwPublicKey : Nat := 0x702002
/-- CNT_CLEAR. -/
abbrev keyCntClear : Nat := 0x800001
/-- CNT_SEL0. -/
abbrev keyCntSel0 : Nat := 0x810001
/-- CNT_ADDR_LO. -/
abbrev keyCntAddrLo : Nat := 0x810011
/-- CNT_ADDR_HI. -/
abbrev keyCntAddrHi : Nat := 0x810012
/-- SM_CNT_SEL0. -/
abbrev keySmCntSel0 : Nat := 0x820001
/-- SM_CNT_ADDR_LO. -/
abbrev keySmCntAddrLo : Nat := 0x820009
/-- AK_CNT_SEL0. -/
abbrev keyAkCntSel0 : Nat := 0x830001
/-- NW_CNT_SEL0. -/
abbrev keyNwCntSel0 : Nat := 0x840001
/-- CORE_COUNTERS. -/
abbrev keyCoreCounters : Nat := 0x860001
/-- CTL_COUNTERS. -/
abbrev keyCtlCounters : Nat := 0x860002
/-- LINK_COUNTERS. -/
abbrev keyLinkCounters : Nat := 0x860003
/-- WS_COUNTERS. -/
abbrev keyWsCounters : Nat := 0x860004
/-- SAMPLE_SRC. -/
abbrev keySampleSrc : Nat := 0x870001
/-- SAMPLE_PERIOD. -/
abbrev keySamplePeriod : Nat := 0x870002
/-- SAMPLE_JITTER. -/
abbrev keySampleJitter : Nat := 0x870003
/-- SAMPLE_SEED. -/
abbrev keySampleSeed : Nat := 0x870004
/-- SAMPLE_THREADS. -/
abbrev keySampleThreads : Nat := 0x870005
/-- SAMPLE_CLEAR. -/
abbrev keySampleClear : Nat := 0x870006
/-- SAMPLE_COUNT. -/
abbrev keySampleCount : Nat := 0x871001
/-- SAMPLES_LOST. -/
abbrev keySamplesLost : Nat := 0x871002
/-- SAMPLE_DATA. -/
abbrev keySampleData : Nat := 0x871003
/-- LEDGER_DATA. -/
abbrev keyLedgerData : Nat := 0x880001
/-- LEDGER_COUNT. -/
abbrev keyLedgerCount : Nat := 0x880002
/-- LEDGER_NEXT_SEQ. -/
abbrev keyLedgerNextSeq : Nat := 0x880003
/-- LEDGER_READ_FROM. -/
abbrev keyLedgerReadFrom : Nat := 0x880004
/-- LEDGER_FREEZE. -/
abbrev keyLedgerFreeze : Nat := 0x880005
/-- LEDGER_MISSED. -/
abbrev keyLedgerMissed : Nat := 0x880006
/-- LEDGER_DROPPED. -/
abbrev keyLedgerDropped : Nat := 0x880007
/-- LEDGER_MIN_SEV. -/
abbrev keyLedgerMinSev : Nat := 0x880008
/-- LEDGER_CLEAR. -/
abbrev keyLedgerClear : Nat := 0x880009
/-- LEDGER_FREEZE_LIMIT. -/
abbrev keyLedgerFreezeLimit : Nat := 0x88000A
/-- CALENDAR_SET. -/
abbrev keyCalendarSet : Nat := 0x88000B
/-- CALENDAR_NOW. -/
abbrev keyCalendarNow : Nat := 0x88000C
/-- EPOCH_OFFSET. -/
abbrev keyEpochOffset : Nat := 0x88000D
/-- CALENDAR_VALID. -/
abbrev keyCalendarValid : Nat := 0x88000E
/-- CRIT_RING. -/
abbrev keyCritRing : Nat := 0x88000F
/-- CRIT_RING_TOTAL. -/
abbrev keyCritRingTotal : Nat := 0x880010

/-- Entries of the dictionary tables, part 1 of 7. -/
def entryRows1 : List Entry :=
  [ ent 0x0110 1 0x01 1 .u32 .const .const .const .stored 0 0 0xFFFFFFFF -- DU_MAP_ID
  , ent 0x0110 1 0x02 8 .u8 .const .const .const .stored 0 0 255 -- DU_ROW0–DU_ROW7
  , ent 0x0110 1 0x0A 1 .u32 .const .const .const .stored 0 0 0xFFFFFFFF -- DU_OTHER
  , ent 0x0100 1 0x01 1 .string .const .const .const .stored 0 0 0 -- VENDOR
  , ent 0x0100 1 0x02 1 .string .const .const .const .stored 0 0 0 -- ORDER_CODE
  , ent 0x0100 1 0x03 1 .string .const .const .const .stored 0 0 0 -- MODULE_REV
  , ent 0x0100 1 0x04 1 .u64 .const .const .const .stored 0 0 0xFFFFFFFFFFFFFFFF -- SERIAL
  , ent 0x0100 1 0x05 1 .string .const .const .const .stored 0 0 0 -- DIE_STEPPING
  , ent 0x0100 1 0x06 1 .u32 .const .const .const .stored 0x4000000 0 0xFFFFFFFF -- FW_BUILD
  , ent 0x0100 1 0x07 1 .u64 .const .const .const .stored 0 0 0xFFFFFFFFFFFFFFFF -- MAC_ADDR
  , ent 0x0100 1 0x08 1 .u16 .const .const .const .stored 1025 0 65535 -- DICT_VERSION
  , ent 0x0200 1 0x01 1 .bool .ro .ro .rw .stored 1 0 1 -- FB_ENABLE
  , ent 0x0200 1 0x02 1 .u16 .ro .ro .rws .stored 0xB8C5 1024 65535 -- FB_UDP_PORT
  , ent 0x0200 1 0x03 1 .bool .ro .ro .rws .stored 0 0 1 -- PLCA_ENABLE
  , ent 0x0200 1 0x04 1 .u8 .ro .ro .rws .stored 255 0 255 -- PLCA_NODE_ID
  , ent 0x0200 1 0x05 1 .u8 .ro .ro .rws .stored 8 2 255 -- PLCA_NODE_COUNT
  , ent 0x0200 1 0x06 1 .u32 .ro .ro .rw .stored 0xEA60 1000 0x36EE80 -- SESSION_IDLE_TIMEOUT
  , ent 0x0200 1 0x07 1 .bool .ro .ro .rw .stored 1 0 1 -- MAILBOX_ENABLE
  , ent 0x0200 1 0x08 1 .u32 .ro .ro .ro .retained 0 0 0xFFFFFFFF -- AUTH_FAILURES
  , ent 0x0200 1 0x09 1 .u32 .ro .ro .ro .retained 0 0 0xFFFFFFFF -- TAG_FAILURES
  , ent 0x0200 1 0x0A 1 .u32 .ro .ro .ro .retained 0 0 0xFFFFFFFF -- SEQ_DISCARDS
  , ent 0x0200 1 0x0B 1 .u32 .ro .ro .ro .retained 0 0 0xFFFFFFFF -- BAD_FRAMES
  , ent 0x0200 1 0x0C 1 .u8 .ro .ro .ro .volatile 0 0 255 -- SESSIONS_OPEN
  , ent 0x0200 1 0x0D 1 .u8 .ro .ro .ro .volatile 0 0 255 -- MY_ROLE
  , ent 0x6040 1 0x01 1 .u32 .rws .rws .rws .retained 0 0 0x186A0 -- CLIP_PPM
  , ent 0x6050 1 0x01 1 .u16 .ro .ro .rws .retained 200 0 4095 -- DUMMY_WINDOW
  , ent 0x6050 1 0x02 1 .u8 .ro .ro .rws .retained 12 1 16 -- DUMMY_DENSITY
  , ent 0x6050 1 0x03 1 .u16 .ro .ro .rws .retained 256 0 4095 -- WARMUP_CYCLES
  , ent 0x6060 1 0x01 1 .u32 .rw .rw .rw .retained 0 0 0xFFFFFFFF -- CM_RETAIN_SEGMENTS
  , ent 0x6070 1 0x01 1 .u64 .rws .rws .rws .volatile 0 0 0x7FFC000000 -- CC_IMAGE_BASE
  , ent 0x6070 1 0x02 1 .u32 .rws .rws .rws .volatile 0 0 0xFFFFFFFF -- CC_ENTRY
  , ent 0x6070 1 0x03 1 .u32 .rws .rws .rws .retained 0x1000 0 0x100000 -- THREAD_QUANTUM
  , ent 0x6070 1 0x04 1 .bool .ro .ro .rws .retained 1 0 1 -- BP_ENABLE
  , ent 0x0100 1 0x09 1 .u8 .ro .ro .ro .volatile 255 0 255 -- FW_SLOT_ACTIVE
  , ent 0x0100 1 0x0A 1 .u32 .ro .ro .ro .stored 0x4000000 0 0xFFFFFFFF -- FW_SLOT0_BUILD
  , ent 0x0100 1 0x0B 1 .u32 .ro .ro .ro .stored 0x4000000 0 0xFFFFFFFF -- FW_SLOT1_BUILD
  , ent 0x0100 1 0x0C 1 .u8 .ro .ro .rw .stored 0 0 1 -- FW_SLOT_SELECT
  , ent 0x6080 1 0x01 1 .u16 .ro .ro .rws .retained 586 0 65535 -- STREAM_SPLIT
  , ent 0x6080 1 0x02 1 .u16 .ro .ro .ro .volatile 512 0 65535 -- TOLL_RATE
  , ent 0x6080 1 0x03 1 .u16 .ro .ro .rw .stored 128 1 1024 -- TOLL_RATE_FLOOR
  ]

/-- Entries of the dictionary tables, part 2 of 7. -/
def entryRows2 : List Entry :=
  [ ent 0x6080 1 0x04 1 .u16 .ro .ro .rws .retained 256 16 1024 -- TOLL_BURST
  , ent 0x6080 1 0x05 1 .u32 .ro .ro .rw .stored 100 1 0xF4240 -- MC_STRAGGLER_TIMEOUT
  , ent 0x6080 1 0x06 1 .u8 .ro .ro .rw .stored 0 0 1 -- MC_STRAGGLER_POLICY
  , ent 0x6090 1 0x01 1 .u64 .ro .ro .rws .retained 0 0 0xFFFFFFFFFFFFFFFF -- TT_PHYS_BASE
  , ent 0x6090 1 0x02 1 .u32 .ro .ro .rws .retained 0x200000 512 0x10000000 -- TT_ENTRIES
  , ent 0x5100 1 0x01 1 .u32 .ro .ro .rw .stored 100 1 0xF4240 -- BP_TIMEOUT
  , ent 0x5100 1 0x02 1 .u16 .ro .ro .rws .retained 64 16 65535 -- BP_RETRY_DELAY
  , ent 0x3000 1 0x01 8 .u8 .ro .ro .ro .volatile 0 0 255 -- TOWER_STATE0–7
  , ent 0x3001 1 0x01 8 .f32 .ro .ro .ro .volatile 0 0 0xFFFFFFFF -- TOWER_TEMP0–7
  , ent 0x3001 1 0x09 1 .u8 .ro .ro .ro .volatile 0 0 255 -- REFRESH_RATE_HIGH
  , ent 0x3010 1 0x01 1 .u8 .ro .ro .rws .stored 1 0 3 -- PORT_CLASS0–7
  , ent 0x3010 1 0x02 1 .u8 .ro .ro .rws .stored 1 0 3 -- PORT_CLASS0–7
  , ent 0x3010 1 0x03 1 .u8 .ro .ro .rws .stored 0 0 3 -- PORT_CLASS0–7
  , ent 0x3010 1 0x04 1 .u8 .ro .ro .rws .stored 0 0 3 -- PORT_CLASS0–7
  , ent 0x3010 1 0x05 1 .u8 .ro .ro .rws .stored 2 0 3 -- PORT_CLASS0–7
  , ent 0x3010 1 0x06 1 .u8 .ro .ro .rws .stored 2 0 3 -- PORT_CLASS0–7
  , ent 0x3010 1 0x07 1 .u8 .ro .ro .rws .stored 1 0 3 -- PORT_CLASS0–7
  , ent 0x3010 1 0x08 1 .u8 .ro .ro .rws .stored 3 0 3 -- PORT_CLASS0–7
  , ent 0x3010 1 0x09 1 .u32 .ro .ro .rws .stored 2000 100 0x186A0 -- AGE_LIMIT
  , ent 0x3020 1 0x01 1 .u8 .ro .ro .rws .stored 0 0 1 -- LS_REFRESH_MODE
  , ent 0x3030 1 0x01 1 .u32 .ro .ro .ro .volatile 2048 0 0xFFFFFFFF -- SCRUB_EVERY
  , ent 0x3030 1 0x02 1 .u32 .ro .ro .rw .stored 256 1 65536 -- SCRUB_EVERY_MIN
  , ent 0x3030 1 0x03 1 .u32 .ro .ro .rw .stored 0x2000 1 65536 -- SCRUB_EVERY_MAX
  , ent 0x3030 1 0x04 1 .u32 .ro .ro .ro .retained 0 0 0xFFFFFFFF -- SCRUB_PASSES
  , ent 0x3040 1 0x01 1 .u64 .ro .ro .ro .retained 0 0 0xFFFFFFFFFFFFFFFF -- ECC_CORRECTED
  , ent 0x3040 1 0x02 1 .u64 .ro .ro .ro .retained 0 0 0xFFFFFFFFFFFFFFFF -- ECC_UNCORRECTED
  , ent 0x3040 1 0x03 1 .u64 .ro .ro .ro .retained 0 0 0xFFFFFFFFFFFFFFFF -- POISON_READ
  , ent 0x3040 1 0x04 1 .u64 .ro .ro .ro .retained 0 0 0xFFFFFFFFFFFFFFFF -- LAST_UE_ADDR
  , ent 0x3040 1 0x05 1 .time64 .ro .ro .ro .retained 0 0 0xFFFFFFFFFFFFFFFF -- LAST_UE_TIME
  , ent 0x3050 1 0x01 1 .u16 .ro .ro .ro .volatile 0 0 65535 -- LANE_REPAIRS
  , ent 0x3050 1 0x02 1 .u32 .ro .ro .ro .volatile 0 0 0xFFFFFFFF -- TRAIN_TIME
  , ent 0x4000 1 0x01 1 .u16 .ro .ro .ro .volatile 0 0 65535 -- SYS_ADDR
  , ent 0x4000 1 0x02 1 .u8 .ro .ro .ro .volatile 0 0 255 -- TORUS_X
  , ent 0x4000 1 0x03 1 .u8 .ro .ro .ro .volatile 0 0 255 -- TORUS_Y
  , ent 0x4000 1 0x04 1 .u8 .ro .ro .ro .volatile 0 0 255 -- TORUS_Z
  , ent 0x4000 1 0x05 1 .u8 .ro .ro .rws .stored 2 0 4 -- LINK_SLACK_REPLAYS
  , ent 0x4000 1 0x06 1 .u8 .ro .ro .rws .stored 0 0 32 -- LINK_SLACK_EXTRA
  , ent 0x4000 1 0x07 1 .u32 .ro .ro .rw .stored 10 0 0xF4240 -- IDLE_ENTRY
  , ent 0x4000 1 0x08 1 .u32 .ro .ro .rw .stored 1000 10 0xF4240 -- REMOTE_TIMEOUT
  , ent 0x4000 1 0x09 1 .f32 .ro .ro .rw .stored 0x3E19999A 0 0xFFFFFFFF -- EQ_MARGIN_MIN
  ]

/-- Entries of the dictionary tables, part 3 of 7. -/
def entryRows3 : List Entry :=
  [ ent 0x4000 1 0x0A 1 .u8 .ro .ro .rws .stored 0 0 111 -- LINK_LAT_SET
  , ent 0x4100 8 0x01 1 .u8 .ro .ro .ro .volatile 1 0 255 -- PORT_STATE
  , ent 0x4100 8 0x02 1 .u64 .ro .ro .ro .volatile 0 0 0xFFFFFFFFFFFFFFFF -- PARTNER_SERIAL
  , ent 0x4100 8 0x03 1 .u16 .ro .ro .ro .volatile 0 0 65535 -- PARTNER_SYS
  , ent 0x4100 8 0x04 1 .u8 .ro .ro .ro .volatile 255 0 255 -- PARTNER_PORT
  , ent 0x4100 8 0x05 1 .u16 .ro .ro .ro .volatile 0 0 65535 -- LAT_MEAS
  , ent 0x4100 8 0x06 1 .u16 .ro .ro .ro .volatile 0 0 65535 -- RTT_MEAS
  , ent 0x4100 8 0x07 1 .u8 .ro .ro .ro .volatile 0 0 255 -- LAT_FIXED
  , ent 0x4100 8 0x08 1 .f32 .ro .ro .ro .volatile 0 0 0xFFFFFFFF -- EYE_MARGIN
  , ent 0x4100 8 0x09 1 .u64 .ro .ro .ro .retained 0 0 0xFFFFFFFFFFFFFFFF -- CRC_ERRORS
  , ent 0x4100 8 0x0A 1 .u64 .ro .ro .ro .retained 0 0 0xFFFFFFFFFFFFFFFF -- REPLAYS
  , ent 0x4100 8 0x0B 1 .u32 .ro .ro .ro .retained 0 0 0xFFFFFFFF -- RECOVERIES
  , ent 0x4100 8 0x0C 1 .bool .ro .ro .rws .stored 1 0 1 -- PORT_ENABLE
  , ent 0x4100 8 0x0D 1 .bool .none .wo .wo .volatile 0 0 1 -- PORT_RESET
  , ent 0x9000 1 0x01 1 .u8 .ro .ro .rws .stored 0 0 1 -- LS_MODE
  , ent 0x9000 1 0x02 1 .bool .ro .ro .rws .stored 0 0 1 -- LS_ANCHOR
  , ent 0x9000 1 0x03 1 .u8 .ro .ro .rws .stored 0 0 1 -- LS_REF_SOURCE
  , ent 0x9000 1 0x04 1 .u8 .ro .ro .ro .volatile 0 0 255 -- LS_STATE
  , ent 0x9000 1 0x05 1 .u8 .ro .ro .ro .volatile 0 0 255 -- LS_FAULT_CAUSE
  , ent 0x9000 1 0x06 1 .u16 .ro .ro .ro .volatile 0 0 65535 -- LS_FAULT_ORIGIN
  , ent 0x9000 1 0x07 1 .u8 .ro .ro .ro .volatile 63 0 255 -- LS_HOPS
  , ent 0x9000 1 0x08 1 .u8 .ro .ro .ro .volatile 255 0 255 -- LS_PARENT_PORT
  , ent 0x9000 1 0x09 1 .u64 .ro .ro .ro .volatile 0 0 0xFFFFFFFFFFFFFFFF -- GTC_NOW
  , ent 0x9000 1 0x0A 1 .f32 .ro .ro .ro .volatile 0 0 0xFFFFFFFF -- LS_RESIDUAL
  , ent 0x9000 1 0x0B 1 .u32 .ro .ro .rw .stored 0 0 0x36EE80 -- LS_START_TIMEOUT
  , ent 0x9000 1 0x0C 1 .u32 .ro .ro .rw .stored 0 0 0xFFFFFF -- LS_EXPECT_SHAPE
  , ent 0x9000 1 0x0D 1 .bool .wo .wo .wo .volatile 0 0 1 -- LS_RESTART
  , ent 0x9000 1 0x0E 1 .u16 .ro .ro .rws .stored 128 120 4096 -- SLIP_QUANTUM
  , ent 0x9000 1 0x0F 1 .bool .ro .ro .rw .stored 0 0 1 -- LS_PIN_GOVERNOR
  , ent 0x9000 1 0x10 1 .u32 .ro .ro .ro .volatile 0 0 0xFFFFFFFF -- LS_ARMED_TIME
  , ent 0x9001 1 0x01 1 .u8 .ro .ro .ro .volatile 0 0 255 -- SYS_LAT
  , ent 0x9001 1 0x02 1 .u16 .ro .ro .ro .volatile 0 0 65535 -- FLOOD_BOUND
  , ent 0x9001 1 0x03 1 .u16 .ro .ro .ro .volatile 0 0 65535 -- SYS_MODULES
  , ent 0x9010 1 0x01 1 .bool .wo .wo .wo .volatile 0 0 1 -- LAUNCH
  , ent 0x9010 1 0x02 1 .u64 .ro .ro .ro .volatile 0 0 0xFFFFFFFFFFFFFFFF -- LAUNCH_TICK
  , ent 0x9010 1 0x03 1 .u32 .ro .ro .ro .volatile 0 0 0xFFFFFFFF -- RUN
  , ent 0x9010 1 0x04 1 .bool .wo .wo .wo .volatile 0 0 1 -- LS_READY
  , ent 0x9010 1 0x05 1 .bool .wo .wo .wo .volatile 0 0 1 -- LS_STOP
  , ent 0x9010 1 0x06 1 .u32 .ro .ro .ro .volatile 0 0 0xFFFFFFFF -- SLIPS
  , ent 0x9010 1 0x07 1 .u64 .ro .ro .ro .volatile 0 0 0xFFFFFFFFFFFFFFFF -- LAST_SLIP_TICK
  ]

/-- Entries of the dictionary tables, part 4 of 7. -/
def entryRows4 : List Entry :=
  [ ent 0x9010 1 0x08 1 .bool .ro .ro .ro .volatile 0 0 1 -- RUN_CM
  , ent 0x9010 1 0x09 1 .u8 .ro .ro .ro .volatile 0 0 255 -- RUN_CM_CAUSE
  , ent 0x9010 1 0x0A 1 .u32 .ro .ro .ro .volatile 0 0 0xFFFFFFFF -- AGREE_LATE
  , ent 0x9010 1 0x0B 1 .domain .ro .ro .ro .volatile 0 0 0 -- IMAGE_HASH
  , ent 0x9010 1 0x0C 1 .u8 .ro .ro .ro .volatile 0 0 255 -- READY_STATUS
  , ent 0x5200 1 0x01 1 .u8 .ro .ro .ro .volatile 0 0 255 -- FPLL_LOCKED
  , ent 0x5200 1 0x02 1 .u32 .ro .ro .ro .volatile 0 0 0xFFFFFFFF -- GCLK_TICK_LOCKED
  , ent 0x5210 1 0x01 8 .f32 .ro .ro .ro .volatile 0 0 0xFFFFFFFF -- BANK_VCCO0–7
  , ent 0x5210 1 0x09 1 .f32 .ro .ro .ro .volatile 0 0 0xFFFFFFFF -- PROBE_VCCO
  , ent 0x5210 1 0x0A 1 .u32 .ro .ro .ro .retained 0 0 0xFFFFFFFF -- PIN_LEVEL_FAULTS
  , ent 0x5220 1 0x01 32 .u8 .ro .rw .rw .volatile 0 0 255 -- PROBE_SEL_FQ0
  , ent 0x5221 1 0x01 32 .u8 .ro .rw .rw .volatile 0 0 255 -- PROBE_SEL_FQ1
  , ent 0x5222 1 0x01 32 .u8 .ro .rw .rw .volatile 0 0 255 -- PROBE_SEL_FQ2
  , ent 0x5223 1 0x01 32 .u8 .ro .rw .rw .volatile 0 0 255 -- PROBE_SEL_FQ3
  , ent 0x5224 1 0x01 32 .u8 .ro .rw .rw .volatile 0 0 3 -- PROBE_QUAD0–31
  , ent 0x5225 1 0x01 1 .bool .ro .rw .rw .volatile 0 0 1 -- PROBE_PINS_EN
  , ent 0x5230 1 0x01 1 .u8 .ro .rw .rw .volatile 0 0 31 -- TRACE_CLOCK
  , ent 0x5230 1 0x02 1 .u32 .ro .rw .rw .volatile 0 0 65535 -- TRACE_PRE
  , ent 0x5230 1 0x03 1 .u32 .ro .rw .rw .volatile 0 0 0xFFFFFFFF -- TRACE_VALUE
  , ent 0x5230 1 0x04 1 .u32 .ro .rw .rw .volatile 0 0 0xFFFFFFFF -- TRACE_MASK
  , ent 0x5230 1 0x05 1 .bool .none .wo .wo .volatile 0 0 1 -- TRACE_ARM
  , ent 0x5230 1 0x06 1 .u8 .ro .ro .ro .volatile 0 0 255 -- TRACE_STATE
  , ent 0x5230 1 0x07 1 .u64 .ro .ro .ro .volatile 0 0 0xFFFFFFFFFFFFFFFF -- TRIG_GTC
  , ent 0x5230 1 0x08 1 .domain .none .ro .ro .volatile 0 0 0 -- TRACE_DATA
  , ent 0x5240 1 0x01 1 .u64 .ro .ro .ro .retained 0 0 0xFFFFFFFFFFFFFFFF -- CONTENTION_REGIONS
  , ent 0x5240 1 0x02 1 .u32 .ro .ro .ro .retained 0 0 0xFFFFFFFF -- CONTENTION_EVENTS
  , ent 0x5000 1 0x01 1 .u8 .ro .ro .ro .volatile 0 0 255 -- FABRIC_STATE
  , ent 0x5000 1 0x02 1 .u8 .ro .ro .rw .stored 0 0 255 -- CFG_BOOT_SLOT
  , ent 0x5000 1 0x03 1 .u8 .ro .ro .rw .stored 255 0 255 -- CFG_FALLBACK_SLOT
  , ent 0x5000 1 0x04 1 .bool .ro .ro .rw .stored 0 0 1 -- CFG_REQUIRE_ENC
  , ent 0x5000 1 0x05 1 .u8 .none .wo .wo .volatile 0 0 3 -- CFG_FULL_LOAD
  , ent 0x5000 1 0x06 1 .u8 .ro .ro .ro .volatile 0 0 255 -- CFG_LOAD_STATUS
  , ent 0x5000 1 0x07 1 .u32 .ro .ro .ro .volatile 0 0 0xFFFFFFFF -- CFG_LOAD_FRAME
  , ent 0x5000 1 0x08 1 .u32 .ro .ro .ro .retained 0 0 0xFFFFFFFF -- CFG_LOADS_FAILED
  , ent 0x5001 1 0x01 1 .u64 .none .rw .rw .volatile 0 0 0xFFFFFFFFFFFFFFFF -- SLOT_WRITE_SRC
  , ent 0x5001 1 0x02 1 .u8 .none .wo .wo .volatile 0 0 255 -- SLOT_WRITE
  , ent 0x5001 1 0x03 1 .u16 .ro .ro .ro .volatile 0 0 65535 -- SLOT_WRITE_STATUS
  , ent 0x5002 1 0x01 4 .u32 .ro .ro .ro .stored 0 0 0xFFFFFFFF -- SLOT_IMAGE_ID0–3
  , ent 0x5003 1 0x01 128 .u8 .ro .ro .ro .stored 255 0 255 -- LIB_REGION0–127
  , ent 0x5010 1 0x01 1 .u8 .rw .rw .rw .volatile 0 0 63 -- PL_REGION
  ]

/-- Entries of the dictionary tables, part 5 of 7. -/
def entryRows5 : List Entry :=
  [ ent 0x5010 1 0x02 1 .u8 .rw .rw .rw .volatile 0 0 3 -- PL_SOURCE
  , ent 0x5010 1 0x03 1 .u8 .rw .rw .rw .volatile 0 0 127 -- PL_LIB_ENTRY
  , ent 0x5010 1 0x04 1 .u64 .rw .rw .rw .volatile 0 0 0xFFFFFFFFFFFFFFFF -- PL_ADDR
  , ent 0x5010 1 0x05 1 .bool .rw .rw .rw .volatile 0 0 1 -- PL_DRAIN
  , ent 0x5010 1 0x06 1 .bool .wo .wo .wo .volatile 0 0 1 -- PL_START
  , ent 0x5020 1 0x01 64 .u8 .ro .ro .ro .volatile 0 0 255 -- REGION_STATE0–63
  , ent 0x5021 1 0x01 1 .u8 .none .wo .wo .volatile 0 0 63 -- REGION_RESET
  , ent 0x5030 1 0x01 1 .u32 .ro .ro .ro .volatile 1 0 0xFFFFFFFF -- CFG_SCRUB_INTERVAL
  , ent 0x5030 1 0x02 1 .u32 .ro .ro .rw .stored 100 1 10000 -- CFG_SCRUB_INTERVAL_MAX
  , ent 0x5030 1 0x03 1 .u8 .ro .ro .rw .stored 2 0 2 -- CFG_UE_ACTION
  , ent 0x5030 1 0x04 1 .u64 .ro .ro .ro .retained 0 0 0xFFFFFFFFFFFFFFFF -- CFG_SEU_CORRECTED
  , ent 0x5030 1 0x05 1 .u32 .ro .ro .ro .retained 0 0 0xFFFFFFFF -- CFG_SEU_UNCORRECTED
  , ent 0x5030 1 0x06 1 .u32 .ro .ro .ro .retained 0 0 0xFFFFFFFF -- CFG_SCRUB_PASSES
  , ent 0x1000 1 0x01 1 .u8 .ro .ro .ro .volatile 0 0 255 -- POWER_STATE
  , ent 0x1000 1 0x02 1 .u8 .rw .rw .rw .volatile 0 0 255 -- POWER_REQ
  , ent 0x1000 1 0x03 1 .u32 .rw .rw .rw .volatile 0 0 0xFFFFFF -- DOMAIN_OFF
  , ent 0x1000 1 0x04 1 .u32 .ro .ro .ro .volatile 0xFFFFFF 0 0xFFFFFFFF -- DOMAIN_ON
  , ent 0x1000 1 0x05 1 .time64 .rw .rw .rw .volatile 0 0 0xFFFFFFFFFFFFFFFF -- WAKE_AT
  , ent 0x1000 1 0x06 1 .u8 .ro .ro .ro .volatile 0 0 255 -- WAKE_CAUSE
  , ent 0x1000 1 0x07 1 .f32 .ro .ro .ro .volatile 0 0 0xFFFFFFFF -- INPUT_VOLTAGE
  , ent 0x1000 1 0x08 1 .f32 .ro .ro .ro .volatile 0 0 0xFFFFFFFF -- INPUT_CURRENT
  , ent 0x1000 1 0x09 1 .f32 .ro .ro .ro .volatile 0 0 0xFFFFFFFF -- INPUT_POWER
  , ent 0x1100 1 0x01 1 .u16 .ro .ro .rw .stored 1250 400 1250 -- POWER_LIMIT
  , ent 0x1100 1 0x02 1 .u8 .ro .ro .rw .stored 95 70 100 -- THERMAL_TARGET
  , ent 0x1100 1 0x03 1 .u8 .ro .ro .rw .stored 0 0 7 -- STEP_MIN
  , ent 0x1100 1 0x04 1 .u8 .ro .ro .rw .stored 7 0 7 -- STEP_MAX
  , ent 0x1100 1 0x05 1 .f32 .ro .ro .ro .volatile 0 0 0xFFFFFFFF -- TJ_MAX
  , ent 0x1100 1 0x06 1 .bool .ro .ro .ro .volatile 0 0 1 -- THROTTLE_ACTIVE
  , ent 0x1100 1 0x07 1 .u32 .ro .ro .ro .retained 0 0 0xFFFFFFFF -- THROTTLE_EVENTS
  , ent 0x1100 1 0x08 1 .u32 .ro .ro .ro .stored 0 0 0xFFFFFFFF -- TRIPS
  , ent 0x1101 1 0x01 64 .f32 .ro .ro .ro .volatile 0 0 0xFFFFFFFF -- TJ0–TJ63
  , ent 0x1300 1 0x01 1 .u8 .ro .ro .ro .volatile 0 0 255 -- CLK_STEP
  , ent 0x1300 1 0x02 1 .f32 .ro .ro .ro .volatile 0x44898000 0 0xFFFFFFFF -- TILE_MHZ
  , ent 0x1300 1 0x03 1 .f32 .ro .ro .ro .volatile 0x44BB8000 0 0xFFFFFFFF -- NET_MHZ
  , ent 0x1300 1 0x04 1 .bool .ro .ro .ro .volatile 0 0 1 -- SYSREF_OK
  , ent 0x1300 1 0x05 1 .u8 .ro .ro .ro .volatile 0 0 255 -- CLK_SOURCE
  , ent 0x2000 1 0x01 1 .u8 .ro .ro .ro .volatile 0 0 255 -- MODULE_STATE
  , ent 0x2000 1 0x02 1 .u8 .wo .wo .wo .volatile 0 0 255 -- MODULE_CMD
  , ent 0x2000 1 0x03 1 .bool .wo .wo .wo .volatile 0 0 1 -- CORE_RESET
  , ent 0x2000 1 0x04 1 .bool .none .wo .wo .volatile 0 0 1 -- WARM_RESET
  ]

/-- Entries of the dictionary tables, part 6 of 7. -/
def entryRows6 : List Entry :=
  [ ent 0x2000 1 0x05 1 .bool .none .none .wo .volatile 0 0 1 -- POWER_CYCLE
  , ent 0x2000 1 0x06 1 .u8 .ro .ro .ro .retained 0 0 255 -- LAST_RESET
  , ent 0x2000 1 0x07 1 .u8 .ro .ro .ro .stored 0 0 255 -- POWER_ON_CAUSE
  , ent 0x2000 1 0x08 1 .u32 .ro .ro .ro .volatile 0 0 0xFFFFFFFF -- BOOT_TIME
  , ent 0x7000 1 0x01 1 .u8 .ro .ro .ro .stored 0 0 255 -- DEBUG_STATE
  , ent 0x7000 1 0x02 1 .domain .none .none .wo .volatile 0 0 0 -- UNSEAL
  , ent 0x7000 1 0x03 1 .bool .none .none .wo .volatile 0 0 1 -- SEAL
  , ent 0x7000 1 0x04 1 .bool .ro .ro .ro .volatile 0 0 1 -- DBG_STRAP
  , ent 0x7000 1 0x05 1 .u32 .ro .ro .ro .stored 0 0 0xFFFFFFFF -- UNSEAL_COUNT
  , ent 0x7010 1 0x01 1 .domain .none .none .wo .volatile 0 0 0 -- KEY_LOAD
  , ent 0x7010 1 0x02 1 .u8 .none .none .wo .volatile 0 0 255 -- KEY_CLEAR
  , ent 0x7010 1 0x03 1 .u32 .ro .ro .ro .stored 8 0 0xFFFFFFFF -- KEY_PRESENT
  , ent 0x7020 1 0x01 1 .u32 .ro .ro .rw .stored 0x4000000 0 0xFFFFFFFF -- FW_MIN_BUILD
  , ent 0x7020 1 0x02 1 .domain .const .const .const .stored 0 0 0 -- FW_PUBLIC_KEY
  , ent 0x8000 1 0x01 1 .bool .wo .wo .wo .volatile 0 0 1 -- CNT_CLEAR
  , ent 0x8100 96 0x01 16 .u32 .rw .rw .rw .retained 0 0 0xFFFFFFFF -- CNT_SEL0–15
  , ent 0x8100 96 0x11 1 .u64 .rw .rw .rw .retained 0 0 0xFFFFFFFFFFFFFFFF -- CNT_ADDR_LO
  , ent 0x8100 96 0x12 1 .u64 .rw .rw .rw .retained 0 0 0xFFFFFFFFFFFFFFFF -- CNT_ADDR_HI
  , ent 0x8200 128 0x01 8 .u32 .rw .rw .rw .retained 0 0 0xFFFFFFFF -- SM_CNT_SEL0–7
  , ent 0x8200 128 0x09 2 .u64 .rw .rw .rw .retained 0 0 0xFFFFFFFFFFFFFFFF -- SM_CNT_ADDR_LO, _HI
  , ent 0x8300 8 0x01 8 .u32 .rw .rw .rw .retained 0 0 0xFFFFFFFF -- AK_CNT_SEL0–7
  , ent 0x8400 160 0x01 4 .u32 .rw .rw .rw .retained 0 0 0xFFFFFFFF -- NW_CNT_SEL0–3
  , ent 0x8600 1 0x01 1 .domain .ro .ro .ro .volatile 0 0 0 -- CORE_COUNTERS
  , ent 0x8600 1 0x02 1 .domain .ro .ro .ro .volatile 0 0 0 -- CTL_COUNTERS
  , ent 0x8600 1 0x03 1 .domain .ro .ro .ro .volatile 0 0 0 -- LINK_COUNTERS
  , ent 0x8600 1 0x04 1 .domain .ro .ro .ro .volatile 0 0 0 -- WS_COUNTERS
  , ent 0x8700 1 0x01 1 .u8 .rw .rw .rw .retained 0 0 3 -- SAMPLE_SRC
  , ent 0x8700 1 0x02 1 .u32 .rw .rw .rw .retained 0x10000 16 0x1000000 -- SAMPLE_PERIOD
  , ent 0x8700 1 0x03 1 .u8 .rw .rw .rw .retained 0 0 12 -- SAMPLE_JITTER
  , ent 0x8700 1 0x04 1 .u16 .rw .rw .rw .retained 1 0 65535 -- SAMPLE_SEED
  , ent 0x8700 1 0x05 1 .u8 .rw .rw .rw .retained 15 0 15 -- SAMPLE_THREADS
  , ent 0x8700 1 0x06 1 .bool .wo .wo .wo .volatile 0 0 1 -- SAMPLE_CLEAR
  , ent 0x8710 96 0x01 1 .u16 .ro .ro .ro .volatile 0 0 65535 -- SAMPLE_COUNT
  , ent 0x8710 96 0x02 1 .u32 .ro .ro .ro .volatile 0 0 0xFFFFFFFF -- SAMPLES_LOST
  , ent 0x8710 96 0x03 1 .domain .ro .ro .ro .volatile 0 0 0 -- SAMPLE_DATA
  , ent 0x8800 1 0x01 1 .domain .ro .ro .ro .retained 0 0 0 -- LEDGER_DATA
  , ent 0x8800 1 0x02 1 .u32 .ro .ro .ro .retained 0 0 0xFFFFFFFF -- LEDGER_COUNT
  , ent 0x8800 1 0x03 1 .u64 .ro .ro .ro .retained 0 0 0xFFFFFFFFFFFFFFFF -- LEDGER_NEXT_SEQ
  , ent 0x8800 1 0x04 1 .u64 .rw .rw .rw .retained 0 0 0xFFFFFFFFFFFFFFFF -- LEDGER_READ_FROM
  , ent 0x8800 1 0x05 1 .bool .rw .rw .rw .retained 0 0 1 -- LEDGER_FREEZE
  ]

/-- Entries of the dictionary tables, part 7 of 7. -/
def entryRows7 : List Entry :=
  [ ent 0x8800 1 0x06 1 .u32 .ro .ro .ro .retained 0 0 0xFFFFFFFF -- LEDGER_MISSED
  , ent 0x8800 1 0x07 1 .u32 .ro .ro .ro .retained 0 0 0xFFFFFFFF -- LEDGER_DROPPED
  , ent 0x8800 1 0x08 1 .u8 .ro .rw .rw .stored 1 0 3 -- LEDGER_MIN_SEV
  , ent 0x8800 1 0x09 1 .bool .none .none .wo .volatile 0 0 1 -- LEDGER_CLEAR
  , ent 0x8800 1 0x0A 1 .u32 .ro .ro .rw .stored 0x2710 100 0x927C0 -- LEDGER_FREEZE_LIMIT
  , ent 0x8800 1 0x0B 1 .time64 .none .wo .wo .volatile 0 0 0xFFFFFFFFFFFFFFFF -- CALENDAR_SET
  , ent 0x8800 1 0x0C 1 .time64 .ro .ro .ro .volatile 0 0 0xFFFFFFFFFFFFFFFF -- CALENDAR_NOW
  , ent 0x8800 1 0x0D 1 .u64 .ro .ro .ro .retained 0 0 0xFFFFFFFFFFFFFFFF -- EPOCH_OFFSET
  , ent 0x8800 1 0x0E 1 .bool .ro .ro .ro .retained 0 0 1 -- CALENDAR_VALID
  , ent 0x8800 1 0x0F 1 .domain .ro .ro .ro .stored 0 0 0 -- CRIT_RING
  , ent 0x8800 1 0x10 1 .u32 .ro .ro .ro .stored 0 0 0xFFFFFFFF -- CRIT_RING_TOTAL
  ]

/-- Every row of the tables. -/
def entryRows : List Entry := entryRows1 ++ entryRows2 ++ entryRows3 ++ entryRows4 ++ entryRows5 ++ entryRows6 ++ entryRows7

/-- R41: the type code. -/
def typeCode : EntryType → Nat
  | .bool => 1 | .u8 => 2 | .u16 => 3 | .u32 => 4 | .u64 => 5 | .i8 => 6 | .i16 => 7 | .i32 => 8 | .i64 => 9 | .f32 => 10
  | .time64 => 11 | .string => 12 | .domain => 13

/-- R41: the size of a type in bytes, 0 for a variable one. -/
def typeSize : EntryType → Nat
  | .bool | .u8 | .i8 => 1
  | .u16 | .i16 => 2
  | .u32 | .i32 | .f32 => 4
  | .u64 | .i64 | .time64 => 8
  | .string | .domain => 0

/-- R41: the name of a type code. -/
def typeName : Nat → String
  | 1 => "BOOL" | 2 => "U8" | 3 => "U16" | 4 => "U32" | 5 => "U64" | 6 => "I8" | 7 => "I16" | 8 => "I32" | 9 => "I64"
  | 10 => "F32" | 11 => "TIME64" | 12 => "STRING" | 13 => "DOMAIN" | _ => ""

/-- Whether a row holds index.sub. -/
def entryHolds (e : Entry) (index sub : Nat) : Bool :=
  e.index ≤ index && index < e.index + e.indexes && e.sub ≤ sub && sub < e.sub + e.subs

/-- The row of index.sub. -/
def entryFind (index sub : Nat) : Option Entry := entryRows.find? fun e => entryHolds e index sub

/-- R49: the default of the entry with a key (0 where there is no such entry). -/
def entryDefault (key : Nat) : Nat :=
  match entryFind (key / 256) (key % 256) with
  | some e => e.dflt
  | none => 0

/-- R40: the highest subindex of an index, or none where the index is not implemented. -/
def indexTop (index : Nat) : Option Nat :=
  let rows := entryRows.filter fun e => e.index ≤ index && index < e.index + e.indexes
  if rows.isEmpty then none else some (rows.foldl (fun m e => max m (e.sub + e.subs - 1)) 0)

end Sys2Proof.Machine
end

