-- ==== Sys2Proof/Machine/Map.lean ====
section
/-! DEFINITION. Sparse tables by number, in one canonical form: keys strictly rising, and no entry equal to what an unlisted
key reads as, so that equal contents are equal data. Core memories, stacked memory, ring contexts, caravan contexts and the
like are held so. -/

namespace Sys2Proof.Machine

/-- What key `k` reads as; an unlisted key reads as `d`. -/
def mapGet {α : Type} (d : α) : List (Nat × α) → Nat → α
  | [], _ => d
  | (k', v) :: t, k => if k = k' then v else mapGet d t k

/-- The table without key `k`. -/
def mapDrop {α : Type} : List (Nat × α) → Nat → List (Nat × α)
  | [], _ => []
  | (k', v) :: t, k => if k = k' then mapDrop t k else (k', v) :: mapDrop t k

/-- The table with `v` at key `k`, which it does not list. -/
def mapInsert {α : Type} : List (Nat × α) → Nat → α → List (Nat × α)
  | [], k, v => [(k, v)]
  | (k', v') :: t, k, v => if k < k' then (k, v) :: (k', v') :: t else (k', v') :: mapInsert t k v

/-- The table with `v` at key `k`; a value equal to `d` leaves no entry. -/
def mapSet {α : Type} [DecidableEq α] (d : α) (m : List (Nat × α)) (k : Nat) (v : α) : List (Nat × α) :=
  if v = d then mapDrop m k else mapInsert (mapDrop m k) k v

/-- The entry at `k` replaced by `f` of it. -/
def mapMod {α : Type} [DecidableEq α] (d : α) (m : List (Nat × α)) (k : Nat) (f : α → α) : List (Nat × α) :=
  mapSet d m k (f (mapGet d m k))

/-- Whether every key of the table is above `k`. -/
def mapAbove {α : Type} (k : Nat) : List (Nat × α) → Bool
  | [] => true
  | (k', _) :: t => k < k' && mapAbove k t

/-- The canonical form: keys strictly rising, no entry equal to the default. -/
def mapWf {α : Type} [DecidableEq α] (d : α) : List (Nat × α) → Bool
  | [] => true
  | (k, v) :: t => v ≠ d && mapAbove k t && mapWf d t

/-- `v` at each key of a list. -/
def mapSetAll {α : Type} [DecidableEq α] (d : α) (m : List (Nat × α)) (ks : List Nat) (v : α) : List (Nat × α) :=
  ks.foldl (fun m k => mapSet d m k v) m

/-- Consecutive keys from `k` take the values of a list. -/
def mapWrite {α : Type} [DecidableEq α] (d : α) (m : List (Nat × α)) : Nat → List α → List (Nat × α)
  | _, [] => m
  | k, v :: vs => mapWrite d (mapSet d m k v) (k + 1) vs

/-- The values of `n` consecutive keys from `k`. -/
def mapRead {α : Type} (d : α) (m : List (Nat × α)) : Nat → Nat → List α
  | _, 0 => []
  | k, n + 1 => mapGet d m k :: mapRead d m (k + 1) n

/-- The table with `f` of every value; one that becomes equal to `d` leaves no entry. -/
def mapAll {α : Type} [DecidableEq α] (d : α) (f : α → α) (m : List (Nat × α)) : List (Nat × α) :=
  (m.map fun e => (e.1, f e.2)).filter fun e => e.2 ≠ d

/-- The first element that passes a test is taken out of a list. -/
def takeFirst {α : Type} (p : α → Bool) : List α → Option (α × List α)
  | [] => none
  | a :: t => if p a then some (a, t) else (takeFirst p t).map fun r => (r.1, a :: r.2)

/-- The list with every element that passes the test replaced. -/
def replaceWhere {α : Type} (p : α → Bool) (f : α → α) (l : List α) : List α := l.map fun a => if p a then f a else a

/-- Element `i` of a list replaced by `f` of it. -/
def listMod {α : Type} (f : α → α) : List α → Nat → List α
  | [], _ => []
  | a :: t, 0 => f a :: t
  | a :: t, i + 1 => a :: listMod f t i

end Sys2Proof.Machine
end

