-- ==== Sys2Proof/Machine/NumFormat.lean ====
section
/-! DEFINITION. Element formats, their values, rounding, conversion and the binary32 arithmetic of the module (R81 to R101,
R105 to R107). A number is held exactly, as sign, magnitude and power of two; every rounding is the one of R93 or R94. -/

namespace Sys2Proof.Machine

/-- The element formats of R81, in code order 0x0 to 0x8. -/
inductive Fmt where
  | e4m3 | e5m2 | e2m1 | int8 | int4 | fp16 | bf16 | fp32 | wide
deriving DecidableEq, Repr

/-- R81: the format a 4-bit code names. -/
def fmtOfCode : Nat → Option Fmt
  | 0 => some .e4m3 | 1 => some .e5m2 | 2 => some .e2m1 | 3 => some .int8 | 4 => some .int4
  | 5 => some .fp16 | 6 => some .bf16 | 7 => some .fp32 | 8 => some .wide | _ => none

/-- R81: element size in bits. -/
def fmtBits : Fmt → Nat
  | .e4m3 | .e5m2 | .int8 => 8
  | .e2m1 | .int4 => 4
  | .fp16 | .bf16 => 16
  | .fp32 => 32
  | .wide => 128

/-- R81, column MMA operand. -/
def fmtMmaOperand : Fmt → Bool
  | .fp32 | .wide => false
  | _ => true

/-- R81, column Scale-finding target. -/
def fmtScaleTarget : Fmt → Bool
  | .bf16 | .fp32 | .wide => false
  | _ => true

/-- R81: Q_max of a scale-finding target (0 where the table shows none). -/
def fmtQmax : Fmt → Nat
  | .e4m3 => 448 | .e5m2 => 57344 | .e2m1 => 6 | .int8 => 127 | .int4 => 7 | .fp16 => 65504
  | _ => 0

/-- R84: mantissa bits, exponent bits and bias of a floating-point format. -/
def fmtFloat : Fmt → Option (Nat × Nat × Nat)
  | .e4m3 => some (3, 4, 7)
  | .e5m2 => some (2, 5, 15)
  | .e2m1 => some (1, 2, 1)
  | .fp16 => some (10, 5, 15)
  | .bf16 => some (7, 8, 127)
  | .fp32 => some (23, 8, 127)
  | _ => none

/-- R84: the code of the largest finite magnitude. -/
def fmtMaxCode : Fmt → Nat
  | .e4m3 => 0x7E | .e5m2 => 0x7B | .e2m1 => 0x7 | .fp16 => 0x7BFF | .bf16 => 0x7F7F | .fp32 => 0x7F7FFFFF
  | .int8 => 127 | .int4 => 7 | .wide => 0

/-- R90: the canonical NaN of a format that has one. -/
def fmtNan : Fmt → Nat
  | .e4m3 => 0x7F | .e5m2 => 0x7E | .fp16 => 0x7E00 | .bf16 => 0x7FC0 | .fp32 => 0x7FC00000
  | _ => 0

/-- R84: whether the format has infinities. -/
def fmtHasInf : Fmt → Bool
  | .e5m2 | .fp16 | .bf16 | .fp32 => true
  | _ => false

/-- A number as it is held between roundings: NaN, an infinity, or `± m × 2^e` exactly. -/
inductive Num where
  | nan
  | inf (neg : Bool)
  | fin (neg : Bool) (m : Nat) (e : Int)
deriving DecidableEq, Repr

def numIsNan : Num → Bool
  | .nan => true
  | _ => false

def numIsZero : Num → Bool
  | .fin _ 0 _ => true
  | _ => false

def numNeg : Num → Bool
  | .nan => false
  | .inf s => s
  | .fin s _ _ => s

/-- R84 to R91: the number an element's code stands for. -/
def decodeFmt (f : Fmt) (code : Nat) : Num :=
  match fmtFloat f with
  | some (mb, eb, bias) =>
    let neg := bit code (mb + eb)
    let E := bits code mb eb
    let M := bits code 0 mb
    if f = .e4m3 ∧ bits code 0 7 = 0x7F then .nan
    else if fmtHasInf f ∧ E = 2 ^ eb - 1 then (if M = 0 then .inf neg else .nan)
    else if E = 0 then .fin neg M (1 - (bias : Int) - mb)
    else .fin neg (2 ^ mb + M) ((E : Int) - bias - mb)
  | none =>
    let w := fmtBits f
    let v := signedOf w code
    .fin (v < 0) v.natAbs 0

/-- `m × 2^e ÷ 2^q`, rounded to the nearest integer, ties to even (R93, R94). -/
def roundTo (m : Nat) (e q : Int) : Nat :=
  if q ≤ e then m <<< (e - q).toNat
  else
    let k := (q - e).toNat
    let d := m >>> k
    let r := m - (d <<< k)
    let h := 1 <<< (k - 1)
    if r > h ∨ (r = h ∧ d % 2 = 1) then d + 1 else d

/-- R93: the magnitude code of `m × 2^e` in a format of `mb` mantissa bits and a bias, where the precision holds above the
largest finite value and the subnormal spacing holds below the smallest normal. -/
def roundCode (mb bias : Nat) (m : Nat) (e : Int) : Nat :=
  if m = 0 then 0
  else
    let low : Int := 1 - (bias : Int) - mb
    let q := max ((Nat.log2 m : Int) + e - mb) low
    (q - low).toNat <<< mb + roundTo m e q

/-- What a conversion gives: the code, and whether R110 counts it as an overflow, an underflow or a NaN turned to zero. -/
structure Conv where
  code : Nat
  overflow : Bool := false
  underflow : Bool := false
  nanToZero : Bool := false
deriving DecidableEq, Repr

/-- R93 to R97: a number converted to a format under a saturation mode (`ieee` false is SATFINITE). -/
def convertFmt (f : Fmt) (ieee : Bool) (x : Num) : Conv :=
  match fmtFloat f with
  | some (mb, eb, bias) =>
    let sign (neg : Bool) : Nat := if neg then 1 <<< (mb + eb) else 0
    let big (neg : Bool) : Nat :=
      if f = .e2m1 then sign neg + fmtMaxCode f
      else if ¬ ieee then sign neg + fmtMaxCode f
      else if fmtHasInf f then sign neg + ((2 ^ eb - 1) <<< mb)
      else fmtNan f
    match x with
    | .nan => { code := fmtNan f, nanToZero := f = .e2m1 }
    | .inf neg => { code := big neg }
    | .fin neg m e =>
      let c := roundCode mb bias m e
      if c > fmtMaxCode f then { code := big neg, overflow := true }
      else { code := sign neg + c, underflow := m ≠ 0 ∧ c = 0 }
  | none =>
    let w := fmtBits f
    let hi : Int := 2 ^ (w - 1) - 1
    let lo : Int := -(2 ^ (w - 1))
    match x with
    | .nan => { code := 0, nanToZero := true }
    | .inf neg => { code := wrapNat w (if neg then lo else hi) }
    | .fin neg m e =>
      let r : Int := if neg then -(roundTo m e 0 : Int) else roundTo m e 0
      if r > hi then { code := wrapNat w hi, overflow := true }
      else if r < lo then { code := wrapNat w lo, overflow := true }
      else { code := wrapNat w r, underflow := m ≠ 0 ∧ r = 0 }

/-- R91: widening to binary32, as a code. -/
def fp32Code (x : Num) : Nat := (convertFmt .fp32 true x).code

/-- The number a binary32 code stands for. -/
def fp32Num (c : Nat) : Num := decodeFmt .fp32 c

/-- A number rounded once to binary32 (R93). -/
def fp32 (x : Num) : Num := fp32Num (fp32Code x)

/-- The exact product (R98, R103: infinity × 0 is NaN). -/
def numMul (a b : Num) : Num :=
  match a, b with
  | .nan, _ => .nan
  | _, .nan => .nan
  | .inf s, y => if numIsZero y then .nan else .inf (s != numNeg y)
  | x, .inf s => if numIsZero x then .nan else .inf (numNeg x != s)
  | .fin s m e, .fin s' m' e' => .fin (s != s') (m * m') (e + e')

/-- The exact sum, with the signs of IEEE 754 for zeros (R99). -/
def numAdd (a b : Num) : Num :=
  match a, b with
  | .nan, _ => .nan
  | _, .nan => .nan
  | .inf s, .inf s' => if s = s' then .inf s else .nan
  | .inf s, _ => .inf s
  | _, .inf s => .inf s
  | .fin s m e, .fin s' m' e' =>
    if m = 0 ∧ m' = 0 then .fin (s && s') 0 e
    else
      let q := min e e'
      let u : Int := m <<< (e - q).toNat
      let v : Int := m' <<< (e' - q).toNat
      let t : Int := (if s then -u else u) + (if s' then -v else v)
      .fin (t < 0) t.natAbs q

/-- Negation flips the sign, of a zero too (R99). -/
def numNegate : Num → Num
  | .nan => .nan
  | .inf s => .inf (!s)
  | .fin s m e => .fin (!s) m e

/-- Absolute value; of ±0 it is +0 (R99). -/
def numAbs : Num → Num
  | .nan => .nan
  | .inf _ => .inf false
  | .fin _ m e => .fin false m e

/-- Order of two numbers that are not NaN; +0 equals −0 (R101). -/
def numLt (a b : Num) : Bool :=
  match a, b with
  | .nan, _ => false
  | _, .nan => false
  | .inf s, .inf s' => s && !s'
  | .inf s, _ => s
  | _, .inf s => !s
  | .fin s m e, .fin s' m' e' =>
    let q := min e e'
    let u : Int := m <<< (e - q).toNat
    let v : Int := m' <<< (e' - q).toNat
    decide ((if s then -u else u) < (if s' then -v else v))

/-- R100: the maximum. -/
def numMax (a b : Num) : Num :=
  if numIsNan a then b
  else if numIsNan b then a
  else if numIsZero a && numIsZero b then (if numNeg a then b else a)
  else if numLt a b then b else a

/-- R100: the minimum. -/
def numMin (a b : Num) : Num :=
  if numIsNan a then b
  else if numIsNan b then a
  else if numIsZero a && numIsZero b then (if numNeg a then a else b)
  else if numLt b a then b else a

/-- R101: comparison code 0 EQ, 1 NE, 2 LT, 3 LE, 4 GT, 5 GE. -/
def numCmp (code : Nat) (a b : Num) : Bool :=
  if numIsNan a || numIsNan b then code == 1
  else
    let lt := numLt a b
    let gt := numLt b a
    match code with
    | 0 => !lt && !gt
    | 1 => lt || gt
    | 2 => lt
    | 3 => !gt
    | 4 => gt
    | _ => !lt

/-- A quotient to 64 bits beyond the point, its last bit set where a remainder is left, so that one rounding to binary32 is
the rounding of the exact quotient. IEEE 754: 0 ÷ 0 and infinity ÷ infinity are NaN, a finite number ÷ 0 is an infinity. -/
def numDiv (a b : Num) : Num :=
  match a, b with
  | .nan, _ => .nan
  | _, .nan => .nan
  | .inf _, .inf _ => .nan
  | .inf s, y => .inf (s != numNeg y)
  | x, .inf s => .fin (numNeg x != s) 0 0
  | .fin s m e, .fin s' m' e' =>
    if m' = 0 then (if m = 0 then .nan else .inf (s != s'))
    else
      let k := 64 + Nat.log2 m'
      let n := m <<< k
      let q := n / m'
      let r := n % m'
      .fin (s != s') (2 * q + (if r = 0 then 0 else 1)) (e - e' - (k : Int) - 1)

/-- `floor(log2 x)` of a finite number above zero (R118). -/
def numExp : Num → Int
  | .fin _ m e => (Nat.log2 m : Int) + e
  | _ => 0

/-- What R105 finds in a tensor. -/
structure ScaleRecord where
  scale : Nat
  amax : Nat
  empty : Bool
  hasNan : Bool
  hasInf : Bool
  clipped : Bool
  scaleClamped : Bool
  target : Nat
  nonfinite : Nat
deriving DecidableEq, Repr

/-- R105: the smallest power of two with at most `allowed` of the magnitudes above it, from exponent `j` up, `n` tries. -/
def clipPower (mags : List Num) (allowed : Nat) : Int → Nat → Option Num
  | _, 0 => none
  | j, n + 1 =>
    if (mags.filter fun x => numLt (.fin false 1 j) x).length ≤ allowed then some (.fin false 1 j)
    else clipPower mags allowed (j + 1) n

/-- R105: scale finding over the elements of a tensor. -/
def findScale (target : Fmt) (targetCode clipPpm : Nat) (xs : List Num) : ScaleRecord :=
  let nans := (xs.filter numIsNan).length
  let infs := (xs.filter fun x => match x with | .inf _ => true | _ => false).length
  let fins := xs.filter fun x => match x with | .fin .. => true | _ => false
  let mags := fins.map numAbs
  let a := mags.foldl numMax (.fin false 0 0)
  let t := if clipPpm > 0 then clipPower mags (fins.length * clipPpm / 1000000) (-149) 277 else none
  let cut := match t with
    | some t => if numLt t a then some t else none
    | none => none
  let used := match cut with
    | some t => t
    | none => a
  let q := fp32 (numDiv used (.fin false (fmtQmax target) 0))
  let small := numLt q (.fin false 1 (-126))
  let empty := numIsZero a
  { scale := if empty then 0x3F800000 else if small then 0x00800000 else fp32Code q
    amax := fp32Code a
    empty := empty
    hasNan := nans > 0
    hasInf := infs > 0
    clipped := !empty && cut.isSome
    scaleClamped := !empty && small
    target := targetCode
    nonfinite := sat32 (nans + infs) }

/-- R106: the scale record's 16 bytes. -/
def scaleRecordBytes (r : ScaleRecord) : List Byte :=
  let b (x : Bool) (i : Nat) : Nat := if x then 1 <<< i else 0
  natBytes 16 (r.scale + r.amax <<< 32 + b r.empty 64 + b r.hasNan 65 + b r.hasInf 66 + b r.clipped 67
    + b r.scaleClamped 68 + r.target <<< 72 + r.nonfinite <<< 96)

end Sys2Proof.Machine
end

