-- ==== Sys2Proof/Machine/Window.lean ====
section
/-! DEFINITION. Windows: the exact 128-bit accumulation of products, WIDE elements and headers, the BF16 anchor pass and the
five-step conversion (R112 to R137). -/

namespace Sys2Proof.Machine

/-- R112: the special state of a window. -/
inductive Spec where
  | none | posInf | negInf | nan
deriving DecidableEq, Repr

/-- R112: a window, its 128-bit integer W and its special state. -/
structure Window where
  w : BitVec 128 := 0
  spec : Spec := .none
deriving DecidableEq, Repr

/-- R112: the code of SPEC. -/
def specCode : Spec → Nat
  | .none => 0 | .posInf => 1 | .negInf => 2 | .nan => 3

/-- R117, table "Special merge". -/
def specMerge : Spec → Spec → Spec
  | .none, y => y
  | x, .none => x
  | .nan, _ => .nan
  | _, .nan => .nan
  | .posInf, .posInf => .posInf
  | .negInf, .negInf => .negInf
  | _, _ => .nan

/-- R113: whether an integer lies in the numeric range of a window. -/
def windowFits (i : Int) : Bool := decide (-(2 ^ 126) ≤ i ∧ i < 2 ^ 126)

/-- R113: a window with the exact value `i`, and whether the value left the numeric range. -/
def windowOf (i : Int) : Window × Bool :=
  if windowFits i then ({ w := BitVec.ofInt 128 i }, false)
  else ({ w := BitVec.ofInt 128 i, spec := if i < 0 then .negInf else .posInf }, true)

/-- R113: an integer added into a window; an addition into a window whose SPEC is not none changes neither. -/
def windowAdd (x : Window) (i : Int) : Window × Bool :=
  if x.spec = .none then windowOf (x.w.toInt + i) else (x, false)

/-- R114: the pair code of two operand formats. -/
def pairOf : Fmt → Fmt → Option Nat
  | .e4m3, .e4m3 => some 1
  | .e4m3, .e5m2 => some 2
  | .e5m2, .e4m3 => some 2
  | .e5m2, .e5m2 => some 3
  | .e2m1, .e2m1 => some 4
  | .e4m3, .e2m1 => some 5
  | .e2m1, .e4m3 => some 5
  | .e5m2, .e2m1 => some 6
  | .e2m1, .e5m2 => some 6
  | .int8, .int8 => some 7
  | .int4, .int4 => some 8
  | .int8, .int4 => some 9
  | .int4, .int8 => some 9
  | .fp16, .fp16 => some 10
  | .bf16, .bf16 => some 11
  | _, _ => none

/-- R114: the static anchor of a pair (0x0B takes its anchor record's). -/
def pairAnchor : Nat → Int
  | 1 => -18 | 2 => -25 | 3 => -32 | 4 => -2 | 5 => -10 | 6 => -17 | 10 => -48 | _ => 0

/-- R114: the longest K of a pair. -/
def pairKmax : Nat → Nat
  | 4 | 8 => 8192
  | 10 | 11 => 2048
  | _ => 4096

/-- R114: B of a pair. The spec gives no B to a PAIR code outside its table, which WADD may find in a header (R128): the model
takes 125, so that `N_max` is 1. DESIGN CHOICE (log entry 89). -/
def pairB : Nat → Nat
  | 1 => 48 | 2 => 62 | 3 => 76 | 4 => 21 | 5 => 34 | 6 => 48 | 7 => 26 | 8 => 19 | 9 => 22 | 10 => 91 | 11 => 93 | _ => 125

/-- R114: `N_max = 2^(125 − B)`. -/
def pairNmax (p : Nat) : Nat := 2 ^ (125 - pairB p)

/-- The special state an exact product brings (R117). -/
def productSpec : Num → Spec
  | .nan => .nan
  | .inf neg => if neg then .negInf else .posInf
  | .fin .. => .none

/-- R115, R122: the integer a finite product adds to a window anchored at `L`, and whether nonzero bits were discarded. -/
def productUnits (L : Int) : Num → Int × Bool
  | .fin neg m e =>
    if L ≤ e then
      let u : Int := m <<< (e - L).toNat
      (if neg then -u else u, false)
    else
      let k := (L - e).toNat
      let q : Int := m >>> k
      (if neg then -q else q, (m >>> k) <<< k ≠ m)
  | _ => (0, false)

/-- What an accumulation has counted beside its window: R113's overflow, R122's truncated products. -/
structure AccStep where
  win : Window
  overflow : Bool := false
  trunc : Nat := 0
deriving DecidableEq, Repr

/-- One product into a window (R113, R117, R122). -/
def accProduct (L : Int) (x : AccStep) (a b : Num) : AccStep :=
  let p := numMul a b
  match productSpec p with
  | .none =>
    let u := productUnits L p
    let r := windowAdd x.win u.1
    { win := r.1, overflow := x.overflow || r.2, trunc := x.trunc + (if u.2 then 1 else 0) }
  | sp => { x with win := { x.win with spec := specMerge x.win.spec sp } }

/-- The products of one element over K, in order of k (R140, R145). The two products that a window takes in one cycle at
r = 2 enter one after the other. DESIGN CHOICE (log entry 89). -/
def accProducts (L : Int) : AccStep → List Num → List Num → AccStep
  | x, a :: as, b :: bs => accProducts L (accProduct L x a b) as bs
  | x, _, _ => x

/-- R124: the 128 bits of a WIDE element. -/
def wideEncode (x : Window) : Nat :=
  match x.spec with
  | .none => x.w.toNat
  | sp => 1 <<< 126 + specCode sp

/-- R124: the window a WIDE element encodes, and whether its pattern was malformed. -/
def wideDecode (n : Nat) : Window × Bool :=
  let top := bits n 126 2
  if top = 0 ∨ top = 3 then ({ w := BitVec.ofNat 128 n }, false)
  else if top = 1 ∧ bits n 2 124 = 0 ∧ bits n 0 2 ≠ 0 then
    ({ spec := if bits n 0 2 = 1 then .posInf else if bits n 0 2 = 2 then .negInf else .nan }, false)
  else ({ spec := .nan }, true)

/-- R125: the header of a WIDE tile. -/
structure WideHeader where
  pair : Nat := 0
  anchor : Int := 0
  partials : Nat := 0
  trunc : Nat := 0
  special : Bool := false
  bound : Bool := false
  realigned : Bool := false
deriving DecidableEq, Repr

/-- R125: the header in 64 bytes, reserved fields zero. -/
def wideHeaderBytes (h : WideHeader) : List Byte :=
  let b (x : Bool) (i : Nat) : Nat := if x then 1 <<< i else 0
  natBytes 64 (h.pair % 256 + wrapNat 16 h.anchor <<< 16 + h.partials <<< 32 + h.trunc <<< 64 + b h.special 96
    + b h.bound 97 + b h.realigned 98)

/-- R125: the header as read from 64 bytes. -/
def wideHeaderOf (bytes : List Byte) : WideHeader :=
  let n := leNat bytes
  { pair := bits n 0 8, anchor := signedOf 16 (bits n 16 16), partials := bits n 32 32, trunc := bits n 64 32
    special := bit n 96, bound := bit n 97, realigned := bit n 98 }

/-- R119: the anchor record. -/
structure AnchorRecord where
  anchor : Int
  ea : Int
  eb : Int
  zeroSide : Bool
  nonfinite : Bool
deriving DecidableEq, Repr

/-- R118: the anchor pass over row and column maxima. -/
def anchorPass (rows cols : List Num) : AnchorRecord :=
  let isFin (x : Num) : Bool := match x with | .fin .. => true | _ => false
  let top (xs : List Num) : Num := (xs.filter isFin).foldl (fun m x => numMax m (numAbs x)) (.fin false 0 0)
  let ma := top rows
  let mb := top cols
  let bad := !((rows ++ cols).all isFin)
  if numIsZero ma || numIsZero mb then { anchor := -266, ea := -133, eb := -133, zeroSide := true, nonfinite := bad }
  else
    let ea := max (numExp ma) (-133)
    let eb := max (numExp mb) (-133)
    { anchor := max (ea + eb - 80) (-266), ea := ea, eb := eb, zeroSide := false, nonfinite := bad }

/-- R119: the anchor record's 16 bytes. -/
def anchorRecordBytes (r : AnchorRecord) : List Byte :=
  natBytes 16 (wrapNat 16 r.anchor + wrapNat 16 r.ea <<< 16 + wrapNat 16 r.eb <<< 32
    + (if r.zeroSide then 1 <<< 48 else 0) + (if r.nonfinite then 1 <<< 49 else 0))

/-- R133, R134: step 1 of conversion, the window's value rounded once to binary32. -/
def windowFp32 (L : Int) (x : Window) : Num :=
  match x.spec with
  | .nan => .nan
  | .posInf => .inf false
  | .negInf => .inf true
  | .none => if x.w.toInt = 0 then .fin false 0 0 else fp32 (.fin (x.w.toInt < 0) x.w.toInt.natAbs L)

/-- R133: the five steps for one element; the scales are binary32 codes. -/
def convertWindow (L : Int) (x : Window) (row col tensor : Nat) (f : Fmt) (ieee : Bool) : Conv :=
  let v := windowFp32 L x
  let v := fp32 (numMul v (fp32Num row))
  let v := fp32 (numMul v (fp32Num col))
  let v := fp32 (numMul v (fp32Num tensor))
  convertFmt f ieee v

/-- R128: one element of WADD, and whether it left the range. -/
def waddElement (x y : Window) : Window × Bool :=
  match specMerge x.spec y.spec with
  | .none => windowOf (x.w.toInt + y.w.toInt)
  | sp => ({ spec := sp }, false)

/-- R128, R130: one element of WALIGN from anchor `a` to `t`: the element, whether a nonzero bit was lost, whether it left
the range. -/
def walignElement (a t : Int) (x : Window) : Window × Bool × Bool :=
  if x.spec ≠ .none then (x, false, false)
  else if a ≤ t then
    let k := (t - a).toNat
    let m := x.w.toInt.natAbs
    let q : Int := m >>> k
    ({ w := BitVec.ofInt 128 (if x.w.toInt < 0 then -q else q) }, (m >>> k) <<< k ≠ m, false)
  else
    let r := windowOf (x.w.toInt * (2 ^ (a - t).toNat : Nat))
    (r.1, false, r.2)

end Sys2Proof.Machine
end

