-- ==== Sys2Proof/Machine/CoreTypes.lean ====
section
/-! DEFINITION. The state of one logical core: core memory with its scoreboard (R166 to R180), four matrix engines (R138 to
R165), the vector unit (R181 to R190), two gather engines and their cache (R191 to R196), the control core with its four
threads, predictors and caches (R198 to R226), and the sample buffer (R555 to R558). -/

namespace Sys2Proof.Machine

/-- A range of core memory (R174). -/
structure Range where
  base : Nat
  rowBytes : Nat
  pitch : Nat
  rows : Nat
deriving DecidableEq, Repr

/-- Who holds a range (R175, R211, R250). A caravan of another module is known by that module's system address and its
own number (R314). -/
inductive Owner where
  | engine (e : EngineId) (serial : Nat)
  | vector
  | gather (g : GatherId)
  | caravan (v : CaravanId)
  | foreign (sys : Nat) (number : Nat)
  | thread (t : ThreadId) (handle : Fin 4)
  | queueManager (r : RingId)
deriving DecidableEq, Repr

/-- Which range of its owner a hold is on. -/
inductive Part where
  | a | b | rowScale | colScale | seed | out | src1 | src2 | aux | dst | index | source | destination | whole
deriving DecidableEq, Repr

/-- One hold of the scoreboard (R175, R177). -/
structure Hold where
  owner : Owner
  write : Bool
  part : Part
  range : Range
deriving DecidableEq, Repr

/-- A hold asked for on behalf of a caravan of another core or module, waiting in the core's pending-hold table (R314). -/
structure PendingHold where
  hold : Hold
  /-- The HOLD_REQ flit that is answered with HOLD_GRANT; none for the core's own caravans. -/
  request : Option Flit
deriving DecidableEq, Repr

/-- The bytes of a foreign caravan's hold that its lines have reached so far. -/
structure ForeignHold where
  owner : Owner
  touched : List (Nat × Bool)
deriving DecidableEq, Repr

/-- Core memory of a core and its scoreboard. A byte or a granule that is not listed is 0, COMPLETE and clean (R171). -/
structure CoreMem where
  bytes : List (Nat × Byte) := []
  incomplete : List (Nat × Bool) := []
  poison : List (Nat × Bool) := []
  holds : List Hold := []
  pendingHolds : List PendingHold := []
  foreign : List ForeignHold := []
deriving DecidableEq, Repr

/-- A descriptor as posted by XGRN.PUSH, with what its sample record needs (R209, R555, R557). -/
structure Posted where
  desc : BitVec 512
  thread : ThreadId
  machine : Bool
  pc : U64
  tagged : Bool
deriving DecidableEq, Repr

/-- Where an issued instruction stands (R153). -/
inductive JobStage where
  | injecting | draining | flushing
deriving DecidableEq, Repr

/-- An issued instruction of an engine. `windows` are the windows of its tile: in the main plane while it is injecting, in
the shadow plane while it drains (R112, R136); a window not listed is zero with SPEC none. -/
structure EngineJob where
  post : Posted
  serial : Nat
  stage : JobStage
  windows : List (Nat × Window)
  anchor : Int
  trunc : Nat
  overflow : Bool
  seedHeader : Option WideHeader
  poisoned : Bool
  room : Nat
  /-- Rows the converter has put in the output buffer: address and bytes. -/
  out : List (Nat × List Byte)
deriving DecidableEq, Repr

/-- The seed stage of an engine (R154). -/
inductive SeedStage where
  | empty
  | loading
  | loaded (header : WideHeader) (windows : List (Nat × Window)) (poisoned : Bool) (malformed : Nat)
deriving DecidableEq, Repr

/-- The dummy-slice phase of an engine (R163): density in sixteenths; `past` once the gap is longer than DUMMY_WINDOW. -/
structure Dummy where
  density : Nat := 0
  past : Bool := false
  warming : Bool := false
  warmed : Bool := false
deriving DecidableEq, Repr

/-- A matrix engine. `freeRoom` is the free room of its output buffer (R156). -/
structure Engine where
  queue : List Posted := []
  halted : Bool := false
  /-- DEPTH of the status word as it stood when the unit halted (R213). -/
  haltDepth : Nat := 0
  status : Nat := 0
  statusTag : Nat := 0
  jobs : List EngineJob := []
  serial : Nat := 0
  freeRoom : Nat := 65600
  seed : SeedStage := .empty
  dummy : Dummy := {}
deriving DecidableEq, Repr

/-- The descriptor the vector unit runs, and what it writes at its end (R181, R186). -/
structure VectorJob where
  post : Posted
  writes : List (Nat × List Byte)
  poisoned : Bool
  status : Nat
deriving DecidableEq, Repr

/-- The vector unit of a core. -/
structure VectorUnit where
  queue : List Posted := []
  running : Option VectorJob := none
  halted : Bool := false
  /-- DEPTH of the status word as it stood when the unit halted (R213). -/
  haltDepth : Nat := 0
  status : Nat := 0
  statusTag : Nat := 0
deriving DecidableEq, Repr

/-- A running or halted gather (R193, R195): the next element to issue, the elements issued and not yet written with the
lines each still waits for, the lines of the newest element that are still to issue (R196), elements above `next` already written
before a halt, the lines being fetched, the granules it has written poisoned bytes to (R180), and how it stopped. -/
structure GatherJob where
  post : Posted
  next : Nat
  waiting : List (Nat × List Nat)
  lines : List Nat := []
  ahead : List Nat
  fetching : List Nat
  poisoned : Bool
  marked : List Nat := []
  stop : Option Nat
deriving DecidableEq, Repr

/-- A line of the gather cache (R194): its module address ÷ 128, the offset of its first byte, its bytes (those inside the
window it was fetched for) and its poison mark. -/
structure GatherLine where
  line : Nat
  lo : Nat
  bytes : List Byte
  poison : Bool
deriving DecidableEq, Repr

/-- A gather engine. -/
structure GatherEngine where
  queue : List Posted := []
  running : Option GatherJob := none
  halted : Bool := false
  /-- DEPTH of the status word as it stood when the unit halted (R213). -/
  haltDepth : Nat := 0
  status : Nat := 0
  statusTag : Nat := 0
  done : Nat := 0
deriving DecidableEq, Repr

/-- A line of a cache: its address divided by its size, its bytes and its poison mark. -/
structure CacheLine where
  line : Nat
  bytes : List Byte
  poison : Bool
deriving DecidableEq, Repr

/-- Thread states (R202). -/
inductive ThreadState where
  | idle | active | ready | taskWait | dataStall
deriving DecidableEq, Repr

/-- Machine-level CSRs of a thread and its custom CSRs (R223). mip here holds MSIP alone: the other bits are computed.
DESIGN CHOICE (log entry 3). -/
structure Csrs where
  mstatus : U64 := 0
  mie : U64 := 0
  msip : Bool := false
  mtvec : U64 := 0
  mepc : U64 := 0
  mcause : U64 := 0
  mtval : U64 := 0
  mscratch : U64 := 0
  mcounteren : U32 := 0
  mcountinhibit : U32 := 0
  minstret : U64 := 0
  pmpcfg0 : U64 := 0
  pmpaddr : List (Nat × U64) := []
  xgtccmp : U64 := 0xFFFFFFFFFFFFFFFF
  xgrnctl : Bool := false
deriving DecidableEq, Repr

/-- A hardware thread (R198, R202, R211, R218). `tagged` marks an issued instruction whose sample is due (R555). `word` is the
waiting command of a thread in TASK_WAIT or DATA_STALL. DESIGN CHOICE (log entry 3). -/
structure Thread where
  pc : U64 := 0
  regs : List (Nat × U64) := []
  machine : Bool := true
  state : ThreadState := .idle
  csr : Csrs := {}
  /-- The instruction at `pc` has issued and not retired (R206). -/
  issued : Bool := false
  word : Nat := 0
  /-- The thread waits in WFI (R202). -/
  wfi : Bool := false
  reservation : Option Nat := none
  history : BitVec 11 := 0
  returns : List U64 := []
  debugHalted : Bool := false
  /-- BD_CORE has the thread run one instruction and halt again (R534). -/
  debugStep : Bool := false
  tagged : Bool := false
  /-- A claim or a post of this thread is in flight at the queue manager (R284, R286). -/
  inFlight : Bool := false
  /-- XGRN.TSTOP named the thread while its command was in flight: it stops when the command retires (R217). -/
  stopping : Bool := false
deriving DecidableEq, Repr

/-- A cache miss the control core stalls on: of the instruction cache or not, the line's address divided by 64, whether the
line is of the program image (R201), and the control-core address that missed. -/
structure Miss where
  inst : Bool
  line : Nat
  image : Bool
  va : Nat
deriving DecidableEq, Repr

/-- The control core (R198, R218, R222): four threads, the last active one, shared predictors and both caches (sets of
lines, most recently used first), and the miss it stalls on. -/
structure ControlCore where
  threads : List (Nat × Thread) := []
  last : ThreadId := 0
  /-- Two-bit counters; an unlisted one is 1 (R221). -/
  counters : List (Nat × Nat) := []
  btb : List (Nat × Option (U64 × U64)) := []
  icache : List (Nat × List CacheLine) := []
  dcache : List (Nat × List CacheLine) := []
  miss : Option Miss := none
deriving DecidableEq, Repr

/-- Sampling state of a core (R555 to R558): the two countdowns, the LFSR, the records and the count of lost samples. -/
structure Sampling where
  insnDown : Nat
  unitDown : Nat
  lfsr : U16
  records : List (List Byte)
  lost : Nat
deriving DecidableEq, Repr

/-- The stream unit of a core (R249, R255): its ARMED caravans, oldest first, those in active slots, oldest first, and
its tolls; R255 has the bucket full at TOLL_BURST, held here as the tolls spent. -/
structure StreamUnit where
  armed : List CaravanId := []
  active : List CaravanId := []
  spent : Nat := 0
deriving DecidableEq, Repr

/-- A logical core. `sampling` is none while it stands as the last reseeding left it (R555): the seed there depends on the
core's number. -/
structure Core where
  mem : CoreMem := {}
  engines : List (Nat × Engine) := []
  vector : VectorUnit := {}
  gathers : List (Nat × GatherEngine) := []
  /-- Sets of the gather cache, most recently used line first. -/
  gatherCache : List (Nat × List GatherLine) := []
  cc : ControlCore := {}
  stream : StreamUnit := {}
  sampling : Option Sampling := none
deriving DecidableEq, Repr

end Sys2Proof.Machine
end

