-- ==== Sys2Proof/Machine/Scoreboard.lean ====
section
/-! DEFINITION. Core memory and its scoreboard: ranges, granules, holds, and reads and writes of bytes with their poison marks
(R166, R173 to R180). -/

namespace Sys2Proof.Machine

/-- R166: core memory spans addresses 0 to 4,194,303. -/
def coreBytes : Nat := 4194304

/-- R174: first and last granule of row `i` of a range. -/
def rowGranules (r : Range) (i : Nat) : Nat × Nat :=
  ((r.base + i * r.pitch) / 64, (r.base + i * r.pitch + r.rowBytes - 1) / 64)

/-- R174: whether a range covers a granule. -/
def rangeCovers (r : Range) (g : Nat) : Bool :=
  r.rowBytes ≠ 0 && (List.range r.rows).any fun i => (rowGranules r i).1 ≤ g && g ≤ (rowGranules r i).2

/-- R174: the granules a range covers, row by row. -/
def rangeGranules (r : Range) : List Nat :=
  if r.rowBytes = 0 then []
  else (List.range r.rows).flatMap fun i =>
    List.range' (rowGranules r i).1 ((rowGranules r i).2 + 1 - (rowGranules r i).1)

/-- R174: two ranges overlap when they cover a common granule. -/
def rangesOverlap (a b : Range) : Bool :=
  a.rowBytes ≠ 0 && b.rowBytes ≠ 0 && (List.range a.rows).any fun i => (List.range b.rows).any fun j =>
    (rowGranules a i).1 ≤ (rowGranules b j).2 && (rowGranules b j).1 ≤ (rowGranules a i).2

/-- R166: whether a range stays inside core memory. -/
def rangeInside (r : Range) : Bool :=
  r.rows = 0 || r.rowBytes = 0 || r.base + (r.rows - 1) * r.pitch + r.rowBytes ≤ coreBytes

/-- Every byte of one row lies in a range: whether the byte at `a` does (R174). -/
def rangeHasByte (r : Range) (a : Nat) : Bool :=
  (List.range r.rows).any fun i => r.base + i * r.pitch ≤ a && a < r.base + i * r.pitch + r.rowBytes

/-- R173: COMPLETE of a granule. -/
def granuleComplete (m : CoreMem) (g : Nat) : Bool := !(mapGet false m.incomplete g)

/-- R173: POISON of a granule. -/
def granulePoison (m : CoreMem) (g : Nat) : Bool := mapGet false m.poison g

/-- R175: every covered granule is COMPLETE. -/
def rangeComplete (m : CoreMem) (r : Range) : Bool := (rangeGranules r).all (granuleComplete m)

/-- Whether some covered granule carries POISON (R161, R190). -/
def rangePoison (m : CoreMem) (r : Range) : Bool := (rangeGranules r).any (granulePoison m)

/-- R175, Begin read: every granule COMPLETE, no other owner's write hold on any. -/
def mayRead (m : CoreMem) (o : Owner) (r : Range) : Bool :=
  rangeComplete m r && m.holds.all fun h => h.owner = o || !h.write || !rangesOverlap h.range r

/-- R175, Begin write: no other owner's hold on any granule. -/
def mayWrite (m : CoreMem) (o : Owner) (r : Range) : Bool :=
  m.holds.all fun h => h.owner = o || !rangesOverlap h.range r

/-- R177: whether `n` more holds are free. -/
def holdsFree (m : CoreMem) (n : Nat) : Bool := m.holds.length + n ≤ 128

/-- R175: a read hold placed. -/
def beginRead (m : CoreMem) (o : Owner) (p : Part) (r : Range) : CoreMem :=
  { m with holds := m.holds ++ [{ owner := o, write := false, part := p, range := r }] }

/-- R175: a write hold placed and COMPLETE cleared on every covered granule. -/
def beginWrite (m : CoreMem) (o : Owner) (p : Part) (r : Range) : CoreMem :=
  { m with
    holds := m.holds ++ [{ owner := o, write := true, part := p, range := r }]
    incomplete := mapSetAll false m.incomplete (rangeGranules r) true }

/-- Holds of an owner on one of its ranges released, no mark changed. -/
def releaseHold (m : CoreMem) (o : Owner) (p : Part) : CoreMem :=
  { m with holds := m.holds.filter fun h => !(h.owner = o && h.part = p) }

/-- Every hold of an owner released, no mark changed. -/
def releaseAll (m : CoreMem) (o : Owner) : CoreMem :=
  { m with holds := m.holds.filter fun h => h.owner ≠ o }

/-- R175, End write: COMPLETE set on every covered granule and the hold released. -/
def endWrite (m : CoreMem) (o : Owner) (p : Part) (r : Range) : CoreMem :=
  { releaseHold m o p with incomplete := mapSetAll false m.incomplete (rangeGranules r) false }

/-- The byte at an address (R166). -/
def coreByte (m : CoreMem) (a : Nat) : Byte := mapGet 0 m.bytes a

/-- `n` bytes from an address. -/
def coreRead (m : CoreMem) (a n : Nat) : List Byte := mapRead 0 m.bytes a n

/-- The granules that bytes written in rows touch, in order, without repeats. -/
def rowsGranules (rows : List (Nat × List Byte)) : List Nat :=
  (rows.flatMap fun r => if r.2.isEmpty then [] else List.range' (r.1 / 64) ((r.1 + r.2.length - 1) / 64 + 1 - r.1 / 64)).dedup

/-- How many bytes of granule `g` the rows cover. DEDUCED (log entry 19). -/
def rowsCover (rows : List (Nat × List Byte)) (g : Nat) : Nat :=
  rows.foldl (fun n r => n + (min (r.1 + r.2.length) (64 * g + 64) - max r.1 (64 * g))) 0

/-- R180: bytes written in rows, with or without a poison mark; also the number of granules marked poisoned. A clean write
that covers all 64 bytes of a granule clears its mark, one that covers a part leaves it. DEDUCED (log entry 19). -/
def writeRows (m : CoreMem) (rows : List (Nat × List Byte)) (poisoned : Bool) : CoreMem × Nat :=
  let bytes := rows.foldl (fun b r => mapWrite 0 b r.1 r.2) m.bytes
  let gs := rowsGranules rows
  if poisoned then ({ m with bytes := bytes, poison := mapSetAll false m.poison gs true }, gs.length)
  else ({ m with bytes := bytes
                 poison := mapSetAll false m.poison (gs.filter fun g => rowsCover rows g = 64) false }, 0)

/-- R179: the data cache drops its copies of the lines a range covers. -/
def dcacheDrop (cc : ControlCore) (r : Range) : ControlCore :=
  { cc with dcache := (cc.dcache.map fun s => (s.1, s.2.filter fun l => !rangeCovers r l.line)).filter fun s => !s.2.isEmpty }

/-- R175, R179: a unit other than the control core begins a write. -/
def coreBeginWrite (c : Core) (o : Owner) (p : Part) (r : Range) : Core :=
  { c with mem := beginWrite c.mem o p r, cc := dcacheDrop c.cc r }

/-- R175, R179: a unit other than the control core ends a write. -/
def coreEndWrite (c : Core) (o : Owner) (p : Part) (r : Range) : Core :=
  { c with mem := endWrite c.mem o p r, cc := dcacheDrop c.cc r }

/-- The number of a field of a descriptor. -/
def fld {w : Nat} (d : BitVec w) (lo n : Nat) : Nat := bits d.toNat lo n

end Sys2Proof.Machine
end

