-- ==== Sys2Proof/Machine/SignalTypes.lean ====
section
/-! DEFINITION. The state of a signal engine (R457 to R475). -/

namespace Sys2Proof.Machine

/-- One bank: the accumulators, the ten pointers (XP0 to XP3, YP0 to YP3, CP0, CP1), SR without its INH bit, and the loop
registers with the ROT bit of the running loop (R457, R461, R462, R468). LC is 0 while no loop runs. -/
structure SeBank where
  acc0 : BitVec 56 := 0
  acc1 : BitVec 56 := 0
  pointers : List (Nat × BitVec 24) := []
  sr : BitVec 24 := 0x000007
  ls : Nat := 0
  le : Nat := 0
  lc : Nat := 0
  rot : Bool := false
deriving DecidableEq, Repr

/-- The halt cause of SE_CAUSE (R472). -/
inductive SeCause where
  | running | halt | illegal | notStarted
deriving DecidableEq, Repr

/-- The loop cache: its tag, LS and LEN, and the words it holds by their place in the body (R469). -/
structure LoopCache where
  tag : Option (Nat × Nat) := none
  words : List (Nat × U32) := []
deriving DecidableEq, Repr

/-- An IN or OUT that waits for its handshake (R473), with its instruction word. -/
inductive SeWait where
  | none
  | input (word : Nat)
  | output (word : Nat)
deriving DecidableEq, Repr

/-- An access of the memory port (R472): 0 X, 1 Y, 2 C; a word address; and the word it writes, if it writes. -/
structure SePort where
  sel : Nat
  addr : Nat
  write : Option U32
deriving DecidableEq, Repr

/-- A signal engine: its three memories, the 32 physical data registers, the shadow copies of D0 to D7, both banks, the program
counter and where the main bank resumes, whether the handler runs (SE_INH), whether a main-bank instruction has issued since the
last RTI (R471), what waits, SE_DOUT, SE_MA_RDATA, and an access of the memory port at the edge of the next instruction (R474). DESIGN CHOICE (log entry 3). -/
structure SigEngine where
  x : List (Nat × U32) := []
  y : List (Nat × U32) := []
  c : List (Nat × U32) := []
  d : List (Nat × BitVec 24) := []
  shadowD : List (Nat × BitVec 24) := []
  main : SeBank := {}
  shadow : SeBank := {}
  pc : Nat := 0
  resume : Nat := 0
  inh : Bool := false
  issued : Bool := false
  cause : SeCause := .notStarted
  cache : LoopCache := {}
  wait : SeWait := .none
  dout : BitVec 24 := 0
  rdata : U32 := 0
  port : Option SePort := none
deriving DecidableEq, Repr

end Sys2Proof.Machine
end

