-- ==== Sys2Proof/Machine/FabricTypes.lean ====
section
/-! DEFINITION. The state of the programmable fabric and of its configuration (R431 to R456, R477 to R501). -/

namespace Sys2Proof.Machine

/-- A block RAM (R444 to R446): its 4,096 lanes of 9 bits, the output latches of ports A and B, and SBERR and DBERR. -/
structure Ram where
  lanes : List (Nat × BitVec 9) := []
  latchA : Nat := 0
  latchB : Nat := 0
  sbErr : Bool := false
  dbErr : Bool := false
deriving DecidableEq, Repr

/-- REGION_STATE codes (R501). -/
inductive RegionCode where
  | blank | draining | loading | scrubbing | running | incomplete | resetting
deriving DecidableEq, Repr

/-- A region: its state; whether it is isolated and the crossings whose signal was 1
when isolation began (R493); whether it has ever
started (R493); the I/O words in force when isolation began, none for a region then BLANK or INCOMPLETE; where the scrub that
runs leaves it, and the outcome and place of the failed frame that it then records (R492, R495). -/
structure Region where
  code : RegionCode := .blank
  isolated : Bool := true
  held : List Nat := []
  started : Bool := false
  pinsHeld : Option (List U32) := none
  scrubTo : RegionCode := .blank
  failed : Option (Nat × Nat) := none
deriving DecidableEq, Repr

/-- The load that runs (R488, R490): a full load of a slot, with the slots tried before it, or a partial load of a region from
its source. -/
inductive LoadKind where
  | full (slot : Nat) (fallback : Bool)
  | region (r : Nat) (source entry : Nat) (addr : U64)
deriving DecidableEq, Repr

/-- A load: its kind, the place of the next frame, the IMAGE_ID of its first frame, the legacy sites it has connected, and
whether its region still drains. -/
structure Load where
  kind : LoadKind
  next : Nat := 0
  imageId : Nat := 0
  sites : List Nat := []
  draining : Bool := false
deriving DecidableEq, Repr

/-- A slot or library entry of the store that a valid directory record names (R478): its frames as supplied, its IMAGE_ID, and
its region. -/
structure StoreImage where
  frames : List (Nat × List Byte) := []
  imageId : Nat := 0
  region : Nat := 0xFF
deriving DecidableEq, Repr

/-- A firmware image (R229, R531): its bytes and its build. The bytes of the image that the factory wrote are not the spec's to give:
it passes its check as shipped. DESIGN CHOICE (log entry 3). -/
structure Firmware where
  image : List Byte := []
  build : U32 := 0
  factory : Bool := false
deriving DecidableEq, Repr

/-- A SLOT_WRITE that runs: its target and the address of its frames. -/
structure SlotJob where
  target : Nat
  addr : U64
deriving DecidableEq, Repr

/-- The configuration store (R477, R478): full slots 0 to 3, library entries at 0x80 + n, firmware slots at 0x10 and 0x11.
DESIGN CHOICE (log entry 3). -/
structure Store where
  images : List (Nat × Option StoreImage) := []
  firmware : List (Nat × Option Firmware) := [(0x10, some { build := 0x4000000, factory := true }), (0x11, some { build := 0x4000000, factory := true })]
  job : Option SlotJob := none
deriving DecidableEq, Repr

/-- TRACE_STATE codes (R456). -/
inductive TraceCode where
  | idle | armed | triggered | done
deriving DecidableEq, Repr

/-- The trace buffer (R455): its state, the number of samples taken in the capture, the trigger sample's number, and the
samples at their places. -/
structure Trace where
  code : TraceCode := .idle
  count : Nat := 0
  trigger : Nat := 0
  samples : List (Nat × U32) := []
deriving DecidableEq, Repr

/-- The fabric: configuration cells by the place of their frame in a full image (R481; an unlisted frame is blank), regions,
block RAMs (60 × region + RAM), signal engines, legacy lines that a contention disconnected (64 × region + line, R443), user
and probe pins held high-Z (R453), the flip-flops (61,440 × region + 2 × cell + 0 or 1, R435), the registers of L16 segments
(2^20 × region + segment, R441) and the keepers of legacy lines (R442) that hold 1, the level of each bank, the load that runs, the scrubber's place, the trace buffer, and the
store. DESIGN CHOICE (log entry 60). -/
structure Fabric where
  cells : List (Nat × List Byte) := []
  regions : List (Nat × Region) := []
  rams : List (Nat × Ram) := []
  engines : List (Nat × SigEngine) := []
  cut : List (Nat × Bool) := []
  pinFault : List (Nat × Bool) := []
  flops : List (Nat × Bool) := []
  segs : List (Nat × Bool) := []
  keepers : List (Nat × Bool) := []
  bankLevel : List (Nat × Nat) := []
  load : Option Load := none
  scrubNext : Nat := 0
  /-- Whether the scrub pass that runs has corrected a word. -/
  scrubFound : Bool := false
  /-- A pass that ended since the governor last decided CFG_SCRUB_INTERVAL, and whether it corrected a word (R523). -/
  scrubEnded : Option Bool := none
  trace : Trace := {}
  store : Store := {}
deriving DecidableEq, Repr

end Sys2Proof.Machine
end

