-- ==== Sys2Proof/Machine/StreamTypes.lean ====
section
/-! DEFINITION. The state of caravans and of the caravanserai (R231 to R271), and the records of reads and writes that units
of the module have sent and not yet finished. -/

namespace Sys2Proof.Machine

/-- Caravan states (R242). -/
inductive CvState where
  | free | armed | running | faultWait | halted | done | failed
deriving DecidableEq, Repr

/-- A source line in the stream unit's buffer (R253): its bytes, its poison mark, whether a prefetch read brought it, and
whether it came before the line was demandable. -/
structure BufLine where
  line : Nat
  /-- Physical line (address ÷ 128) of a stacked-memory source, for the range filter of R258. -/
  phys : Option Nat
  bytes : List Byte
  poison : BitVec 2
  prefetched : Bool
  timely : Bool
deriving DecidableEq, Repr

/-- A source read sent and not yet answered (R253). -/
structure LineRead where
  line : Nat
  prefetch : Bool
  /-- A write to the line was seen while the read was under way (R258). -/
  stale : Bool
deriving DecidableEq, Repr

/-- A line on its way to its destination (R253): whether a prefetch read brought it, and before the line was demandable. -/
structure SentLine where
  line : Nat
  prefetched : Bool
  timely : Bool
deriving DecidableEq, Repr

/-- A receiver of the write side: a destination core, or the one destination of a COPY (R253, R266): its hold, the lowest
line not delivered, the lines above it that are, and the requests of the multicast lines that wait there for the hold. -/
structure Receiver where
  core : Nat
  holdGranted : Bool := false
  low : Nat := 0
  ahead : List Nat := []
  parked : List Nat := []
deriving DecidableEq, Repr

/-- A demand fault (R260): what it was, its side (0 source, 1 destination) and address. -/
structure CvFault where
  status : Nat
  target : CvState
  side : Bool
  addr : U64
deriving DecidableEq, Repr

/-- A caravan context (R236, R242 to R247, R253, R261). -/
structure Caravan where
  state : CvState := .free
  status : Nat := 0
  desc : BitVec 1536 := 0
  core : CoreId := 0
  thread : ThreadId := 0
  machine : Bool := true
  markLimit : Nat := 0
  sourceHeld : Bool := false
  sourceReleased : Bool := false
  receivers : List Receiver := []
  reads : List LineRead := []
  buffer : List BufLine := []
  /-- Lines sent and not yet delivered to every receiver. -/
  sent : List SentLine := []
  /-- Lines whose prefetch read was dropped or whose prefetched copy is void: they are read on demand (R257, R258). -/
  demandOnly : List Nat := []
  fault : Option CvFault := none
  /-- The last page a page request was raised for, and the PRG index of the outstanding one (R243, R304). -/
  page : Option (Nat × Option Nat) := none
  pruned : BitVec 96 := 0
  poisoned : Bool := false
  /-- The end the caravan waits to report: the state and status its report record will carry (R246). -/
  ending : Option (CvState × Nat) := none
  irq : Bool := false
deriving DecidableEq, Repr

/-- One bank of the caravanserai: the contexts on die, most recently touched first, and the fetches under way (R248). -/
structure Bank where
  onDie : List CaravanId := []
  fetching : List CaravanId := []
deriving DecidableEq, Repr

/-- Who waits for a read or a write (the requesters of R192, R201, R241, R248, R283, R301). -/
inductive Requester where
  | caravanLine (v : CaravanId) (line : Nat)
  | caravanWrite (v : CaravanId) (line : Nat)
  | gatherLine (c : CoreId) (g : GatherId) (line : Nat)
  | image (c : CoreId) (line : Nat)
  | context (v : CaravanId)
  | ringFetch (r : RingId)
  | ringPost (r : RingId)
  /-- A discarded entry read for its COOKIE (R275). -/
  | ringDiscard (r : RingId)
  /-- TAIL on its way to TAILWB_ADDR (R287). -/
  | ringTail (r : RingId)
  | forward (r : RingId) (index : Nat)
  | border (p : BorderId) (tag : Nat)
  | bar2 (offset len : Nat)
  | corner (east : Bool)
  | holdReq (v : CaravanId) (core : Nat)
  /-- A reset or a stop has taken the requester away; what still comes is dropped. -/
  | nobody
deriving DecidableEq, Repr

/-- What a read or write has come to: waiting for its translation, on its way, awaiting the host's completion at the PCIe port,
refused with RETRY, or answered. -/
inductive ReqState where
  | translating
  | sent
  | host
  | retrying
  | answered (a : ReadAnswer)
deriving DecidableEq, Repr

/-- A request under way for one aligned 128-byte line: its number, which is the tag of its flits, who waits for it, the
line's module address, and the bytes of it that are named. `bytes` is empty for a read. -/
structure Request where
  id : Nat
  who : Requester
  write : Bool
  addr : U64
  /-- The physical stacked address, once translated. -/
  phys : Option Nat
  be : BitVec 128
  bytes : List Byte
  poison : BitVec 2
  prefetch : Bool
  pasid : Option (BitVec 20)
  /-- The flit sent for it, kept for a resend (R314, R323). -/
  flit : Option Flit
  /-- Receivers of a multicast line that have not taken their copy. -/
  left : List Nat
  state : ReqState
deriving DecidableEq, Repr

end Sys2Proof.Machine
end

