-- ==== Sys2Proof/Machine/HostTypes.lean ====
section
/-! DEFINITION. The state of the hardware queues, BAR0 and the PCIe endpoint (R272 to R305, R592), of the packet network and
the border ports (R306 to R326), of the towers (R327 to R352), of the counters (R544 to R554) and of the ledger
(R559 to R567). -/

namespace Sys2Proof.Machine

/-- A fetched entry of a ring in the queue manager's pool (R283): its index, its bytes and its poison mark. -/
structure PoolEntry where
  index : Nat
  bytes : List Byte
  poison : Bool
deriving DecidableEq, Repr

/-- A claim whose copy is under way (R284): the claimer, the destination, the register that takes the slot number, the entry, and
whether the ring has been enabled anew since (R275). -/
structure Claim where
  core : CoreId
  thread : ThreadId
  dest : Nat
  rd : Nat
  entry : PoolEntry
  stale : Bool := false
deriving DecidableEq, Repr

/-- A post accepted and not yet delivered (R286, R290, R591): the thread that posted it, none for the queue manager's own, the
forwarded write it acknowledges, its bytes, their poison mark, and whether the ring has been enabled anew since (R275). -/
structure Post where
  poster : Option (CoreId × ThreadId × Nat)
  ack : Option Flit
  bytes : List Byte
  poison : Bool
  stale : Bool := false
deriving DecidableEq, Repr

/-- A ring: its context of R273, and what the queue manager keeps for it beside the context: fetched entries, the index whose
fetch is under way (R283), claims and posts in flight, entries written since the last interrupt, whether the interrupt and the
write-back are due (R287, R288), entries forwarded and not acknowledged (R290), and the newest indices taken from a peer:
sender, its ring, index (R291). -/
structure Ring where
  ctx : BitVec 512 := 0
  pool : List PoolEntry := []
  fetching : Option Nat := none
  claims : List Claim := []
  posts : List Post := []
  unsignalled : Nat := 0
  due : Bool := false
  writebackDue : Bool := false
  forwarded : List PoolEntry := []
  taken : List (Nat × Nat × Nat) := []
deriving DecidableEq, Repr

/-- An MSI-X table entry of the PCIe specification; its mask bit is 1 after reset. PRESUMED (log entry 79). -/
structure MsixEntry where
  addr : U64 := 0
  data : U32 := 0
  control : U32 := 1
  pending : Bool := false
deriving DecidableEq, Repr

/-- A cached stacked-memory translation (R592): page address, page size, the entries its walk read, and its leaf. -/
structure TtLeaf where
  page : Nat
  sizeLog2 : Nat
  walked : List Nat
  target : Nat
  writable : Bool
  noPrefetch : Bool
deriving DecidableEq, Repr

/-- A cached host translation (R303): the page, and the address it translates to. -/
structure AtsLeaf where
  pasid : Option (BitVec 20)
  page : Nat
  sizeLog2 : Nat
  target : Nat
  readable : Bool
  writable : Bool
  noPrefetch : Bool
deriving DecidableEq, Repr

/-- An ATS invalidation that waits for the requests that used its translation (R303). -/
structure Invalidation where
  pasid : Option (BitVec 20)
  iova : Nat
  sizeLog2 : Nat
deriving DecidableEq, Repr

/-- The global registers of R294, the translation-table window of R299 and the MSI-X table of R289. -/
structure Bar0 where
  modEvent : BitVec 6 := 0
  modEventEn : BitVec 6 := 0
  ringErrFirst : BitVec 14 := 0
  bar2Base : BitVec 63 := 0
  barErrors : Nat := 0
  dbIgnored : Nat := 0
  qmDropped : Nat := 0
  ttIndex : U64 := 0
  ttLow : U32 := 0
  msix : List (Nat × MsixEntry) := []
deriving DecidableEq, Repr

/-- The PCIe endpoint (R295 to R304, R517). Max Payload Size is 128 B and Max Read Request Size 512 B after reset. PRESUMED (log
entry 79). -/
structure Pcie where
  msixEnable : Bool := false
  functionMask : Bool := false
  maxPayload : Nat := 128
  maxReadRequest : Nat := 512
  ltr : Bool := false
  /-- AER: the uncorrectable error status. -/
  aerStatus : BitVec 32 := 0
  perstN : Bool := false
  linkUp : Bool := true
  d3hot : Bool := false
  bar2Log : Nat := 30
  ats : Bool := false
  pri : Bool := false
  priStopped : Bool := false
  priAllocation : Nat := 0
  /-- Page requests outstanding: PRG index and caravan; and caravans that have missed and raised no request yet, in the order of
  their misses (R304). -/
  outstanding : List (Nat × CaravanId) := []
  waiting : List CaravanId := []
  atsCache : List AtsLeaf := []
  invalidations : List Invalidation := []
  /-- BAR2 failures in the current ms that wrote no ledger entry (R301), and the GTC of the last entry. -/
  bar2Suppressed : Nat := 0
  bar2LastEntry : Option Nat := none
deriving DecidableEq, Repr

/-- An entry discarded in ring memory, whose COOKIE is still to be read (R275): its ring, its slot's address, and the ring's PASID. -/
structure Discard where
  ring : RingId
  slot : Nat
  pasid : Option (BitVec 20)
deriving DecidableEq, Repr

/-- A completion or response of the queue manager itself that waits to be written (R591): target ring, entry, and the discarded
entry whose COOKIE it still lacks. -/
structure QmWrite where
  ring : Nat
  entry : List Byte
  source : Option Discard := none
deriving DecidableEq, Repr

/-- The queue manager and its neighbour the translation block, at node (7, 0). -/
structure Queues where
  /-- Ring contexts; the bindings of rings 0 and 1 and the vector of ring 1 are fixed at reset (R272, R273). -/
  rings : List (Nat × Ring) := [(0, { ctx := 3 <<< 4 }), (1, { ctx := 3 <<< 2 + 1 <<< 34 })]
  qmWrites : List QmWrite := []
  ttCache : List TtLeaf := []
  /-- Rings in the order in which their doorbells came, or entries arrived from a peer (R283). -/
  roomOrder : List RingId := []
  /-- Requests that wait for their translation, in the order of their arrival (R592). -/
  translating : List Nat := []
deriving DecidableEq, Repr

/-- A border port (R322 to R324): its network-side queue, and the requests the design has taken and not answered.
DESIGN CHOICE (log entry 60). -/
structure BorderPort where
  queue : List Flit := []
  taken : List (Nat × Flit) := []
  nextTag : Nat := 0
deriving DecidableEq, Repr

/-- Where a flit stands (R311, R313): in the local-port queue of its source, in a buffer of its class at an input channel of the
waystation (x, y) (port 1 north, 2 east, 3 south, 4 west, 5 local), or in the local-port queue of its destination, which it
entered on a channel. -/
inductive Spot where
  | queue
  | buffer (x y port channel : Nat)
  | port (x y channel : Nat)
deriving DecidableEq, Repr

/-- A flit on its way, or one copy of a multicast flit. `left` are the receivers this copy is for (R320); it moves on no earlier
than network cycle `since` (R316). -/
structure Flight where
  flit : Flit
  left : List Nat := []
  spot : Spot := .queue
  since : Nat := 0
deriving DecidableEq, Repr

/-- A credit on its way back (R313): the input channel and the class whose buffer is free again from a network cycle on. -/
structure NetCredit where
  spot : Spot
  cls : Fin 8
  due : Nat
deriving DecidableEq, Repr

/-- A packet whose head has passed into an input channel and whose last flit has not (R308, R315): channel, class, packet. -/
structure OpenPacket where
  spot : Spot
  cls : Fin 8
  src : Nat × Nat × Nat
  tag : BitVec 14
deriving DecidableEq, Repr

/-- The packet network: flits on their way, those of one place in the order they came to it; the network cycle; credits on their
way back (R313); the last winner of each channel (R315); packets under way; requests not yet finished; STR receive entries in use
(sender core × 128 + receiver core; a listed value is how many of its entries a sender has spent, R314); the border ports; and
whether the run has floor padding (R428). -/
structure Net where
  flits : List Flight := []
  cycle : Nat := 0
  credits : List NetCredit := []
  winners : List (Spot × Nat) := []
  packets : List OpenPacket := []
  requests : List Request := []
  nextId : Nat := 0
  spent : List (Nat × Nat) := []
  border : List (Nat × BorderPort) := []
  floor : Bool := false
deriving DecidableEq, Repr

/-- TOWER_STATE codes (R351). -/
inductive TowerCode where
  | off | training | filling | ready | selfRefresh | failed
deriving DecidableEq, Repr

/-- A request in a pseudo-channel's queue (R331 to R333): the flit, its controller port, and whether AGE_LIMIT has promoted
it. -/
structure SmRequest where
  flit : Flit
  port : Nat
  aged : Bool
  /-- An ACTIVATE was issued for it. -/
  opened : Bool
deriving DecidableEq, Repr

/-- A pseudo-channel: its queue in arrival order, the reads whose data is on its way (of a read-modify-write too), the open row of each bank (bank number
16 × stack ID + bank), the scrub pointer, and the number of its next refresh stop (R332 to R343). -/
structure PseudoChannel where
  queue : List SmRequest := []
  reading : List SmRequest := []
  openRows : List (Nat × Option Nat) := []
  scrub : Nat := 0
  wraps : Nat := 0
  stops : Nat := 0
deriving DecidableEq, Repr

/-- A tower (R327 to R351). `high` is its bit in REFRESH_RATE_HIGH. `lastUe` and `suppressed` serve the limit of one
ledger entry per ms (R339). -/
structure Tower where
  state : TowerCode := .off
  temp : U32 := 0
  high : Bool := false
  pcs : List (Nat × PseudoChannel) := []
  lastUe : Option Nat := none
  suppressed : Nat := 0
  failedPins : Nat := 0
  repairs : Nat := 0
deriving DecidableEq, Repr

/-- Stacked memory: its bytes and its halves that store poison (by physical address and by physical address ÷ 64), and the
towers. The counts of R351 are dictionary entries. -/
structure Stacked where
  bytes : List (Nat × Byte) := []
  poison : List (Nat × Bool) := []
  towers : List (Nat × Tower) := []
  /-- The coordinated low rate of R345. -/
  lowRate : Bool := false
deriving DecidableEq, Repr

/-- An event counter (R544). -/
structure Counter where
  value : BitVec 48 := 0
  ovf : Bool := false
deriving DecidableEq, Repr

/-- A select word or an address window written and not yet in effect (R546, R549). -/
structure PendingSelect where
  index : Nat
  sub : Nat
  value : Nat
  tick : Nat
deriving DecidableEq, Repr

/-- The counters: values by counter number, the select words and windows in effect (index × 256 + sub), and what waits for
its tick (R546, R553). -/
structure Counters where
  values : List (Nat × Counter) := []
  selects : List (Nat × Nat) := []
  pending : List PendingSelect := []
  clearAt : Option Nat := none
deriving DecidableEq, Repr

/-- A ledger entry (R559). -/
structure LedgerEntry where
  seq : Nat
  time : U64
  sev : Fin 4
  copied : Bool
  calSet : Bool
  srcKind : Nat
  srcUnit : Nat
  code : Nat
  data : Nat
deriving DecidableEq, Repr

/-- The ledger (R559 to R567). -/
structure Ledger where
  held : List LedgerEntry := []
  queue : List LedgerEntry := []
  nextSeq : Nat := 0
  freeze : Option U32 := none
  uncopied : List LedgerEntry := []
  critRing : List LedgerEntry := []
  critTotal : Nat := 0
deriving DecidableEq, Repr

end Sys2Proof.Machine
end

