-- ==== Sys2Proof/Machine/LinkTypes.lean ====
section
/-! DEFINITION. The state of the Askua ports and their two corners (R353 to R388). -/

namespace Sys2Proof.Machine

/-- Port states (R376). -/
inductive PortState where
  | disabled | down | training | up | elecIdle | recovery | miswired
deriving DecidableEq, Repr

/-- An Askua packet (R363): its header fields, its byte enables where they are explicit, and its data. -/
structure Packet where
  opcode : Byte
  dstSys : Nat
  srcSys : Nat
  srcEp : Nat
  dstEp : Nat
  rspace : Nat
  vc : Nat
  tag : Nat
  poison : BitVec 2
  err : Bool
  ackReq : Bool
  be : Option (BitVec 128)
  lenM1 : Nat
  addr : Nat
  data : List Byte
deriving DecidableEq, Repr

/-- A sequenced frame in the replay buffer (R374): its SEQ, its packet blocks and the tick in which it was first sent. -/
structure SentFrame where
  seq : Byte
  blocks : List U64
  tick : Nat
deriving DecidableEq, Repr

/-- An accepted frame whose packets wait for their release tick (R381): the packets that end in it. -/
structure HeldFrame where
  release : Nat
  packets : List Packet
deriving DecidableEq, Repr

/-- An outbound request a corner keeps until its response returns (R373). -/
structure OutRecord where
  port : PortId
  srcEp : Nat
  tag : Nat
  cls : Nat
  opcode : Byte
deriving DecidableEq, Repr

/-- An inbound request a corner has put into the mesh: the tag it gave it, where its response goes, and whether one comes. -/
structure InRecord where
  tag : Nat
  sys : Nat
  ep : Nat
  remoteTag : Nat
  opcode : Byte
  acked : Bool := true
deriving DecidableEq, Repr

/-- The receiver of a lane (R354): the taps of its decision-feedback equaliser, its gain, and its tap weights. DESIGN CHOICE (log
entry 91). -/
structure LaneEq where
  dfeTaps : Nat := 1
  gain : Nat := 0
  weights : List Nat := []
deriving DecidableEq, Repr

/-- A lock-step message that waits at a port (R406): its LOCKSTEP blocks, how many control frames are still to carry it, and whether it
is a SLIP or a FAULT. -/
structure PortMessage where
  blocks : List U64
  copies : Nat
  urgent : Bool
deriving DecidableEq, Repr

/-- A port. Credits are receive units by 2 × class + VC: `used` are the units the sender has spent of the partner's 192,
`returning` the units this receiver has freed and not yet returned (R366). `expect` is the SEQ accepted next (R374).
DEDUCED (log entry 51). -/
structure Port where
  state : PortState := .down
  locked : BitVec 16 := 0
  queue : List Packet := []
  used : List (Nat × Nat) := []
  txSeq : Byte := 0
  unacked : List SentFrame := []
  replays : Nat := 0
  lastClass : Nat := 0
  expect : Byte := 0
  accepted : Bool := false
  nakSent : Bool := false
  spanning : List U64 := []
  held : List HeldFrame := []
  returning : List (Nat × Nat) := []
  idleTx : Bool := false
  idleRx : Bool := false
  trainStep : Nat := 0
  taps : List (Nat × (Int × Int × Int)) := []
  margins : List (Nat × U32) := []
  eqWindow : Bool := false
  /-- CBL_PRSNT_N is low: a cable is present (R575). -/
  cable : Bool := false
  /-- The partner's frame-slot count, and the number of this port's next frame slot (R359). -/
  slots : U32 := 0
  slot : U32 := 0
  /-- The lanes' receivers (R354), whether the lanes are wired in reverse order (R356), and which of a lane's last 64 blocks were block
  errors (R357). -/
  equaliser : List (Nat × LaneEq) := []
  reversed : Bool := false
  errors : List (Nat × List Bool) := []
  /-- Discovery has told the partner's system address (R378). -/
  partnerKnown : Bool := false
  /-- Its own LAT_FIXED exceeds LINK_LAT_SET (R380). -/
  latExceeded : Bool := false
  /-- The training under way began in RECOVERY (R375). -/
  fromRecovery : Bool := false
  /-- HOPS and ALIGNED of the partner's last GTC block (R393). -/
  gtcHops : Nat := 63
  gtcAligned : Bool := false
  /-- What the partner's STATUS and EQ blocks say (R358). -/
  partnerState : Nat := 0
  partnerRtt : Nat := 0
  partnerMargins : List (Nat × Nat) := []
  /-- An acknowledgement waits at an idle transmitter (R384). -/
  ackDue : Bool := false
  /-- Lock-step messages that its control frames carry, oldest first (R406). -/
  messages : List PortMessage := []
  /-- The acknowledgement that waits is a NAK (R374). -/
  nakDue : Bool := false
  /-- Slips whose quantum this port adds (R421, R422): the slip tick S and the first release tick it moves. -/
  moves : List (Nat × Nat) := []
deriving DecidableEq, Repr

/-- A corner: the records of R373 and the inbound requests. -/
structure Corner where
  records : List OutRecord := []
  inbound : List InRecord := []
deriving DecidableEq, Repr

/-- The Askua node: eight ports, the west corner (number 0) and the east corner (number 1). -/
structure Links where
  ports : List (Nat × Port) := []
  corners : List (Nat × Corner) := []
deriving DecidableEq, Repr

end Sys2Proof.Machine
end

