-- ==== Sys2Proof/Machine/LockTypes.lean ====
section
/-! DEFINITION. The state of the lock-step controller (R389 to R430). -/

namespace Sys2Proof.Machine

/-- An agreed change that waits for its tick (R419): its code, value, tick, and the SEQ of its message. -/
structure Agreement where
  code : Nat
  value : Nat
  tick : Nat
  seq : Nat
deriving DecidableEq, Repr

/-- A schedule slip that waits for its tick (R421 to R423): S, and the port the message names. -/
structure Slip where
  tick : Nat
  port : Nat
deriving DecidableEq, Repr

/-- A launch agreed and under way (R417): its tick, its FLOOR, and how many rows of the table "Launch sequence" are done. -/
structure LaunchPlan where
  tick : Nat
  floor : Bool
  done : Nat
deriving DecidableEq, Repr

/-- A neighbour check (R410): DISC with DIM 3 as it came by a port. -/
structure CheckSeen where
  port : Nat
  orig : Nat
deriving DecidableEq, Repr

/-- The lock-step controller. `mode` is LS_MODE as the last start-up took it (R389). `coords` are the coordinates of discovery,
in the layout of R231, and `addressed` says that SHAPE has made them SYS_ADDR (R410). -/
structure Lockstep where
  mode : Bool := false
  coords : Option Nat := none
  addressed : Bool := false
  /-- The walk parent's port (R409); torus sizes learned or received, by dimension, 0 while unknown. -/
  walkParent : Option Nat := none
  sizes : List (Nat × Nat) := []
  /-- Ports whose DISC is not answered, and DISCs (port, DIM) that wait until their port is UP. -/
  discOut : List Nat := []
  discWait : List (Nat × Nat) := []
  /-- COUNT, MAX_LAT and ERR of the children's DISC_DONE, and whether this module has sent its own (R409). -/
  walkCount : Nat := 0
  walkLat : Nat := 0
  walkErr : Nat := 0
  walkSent : Bool := false
  /-- Neighbour checks that came before SHAPE. -/
  checks : List CheckSeen := []
  quantum : Nat := 128
  /-- The alignment (R395): under way by a port; done. -/
  aligning : Option Nat := none
  aligned : Bool := false
  /-- GTC counts by which alignments have moved the counter. -/
  gtcMoved : U64 := 0
  /-- COUNT, ERR and MAX_HOPS of the children's ALIGN_DONE by port, and whether this module has sent its own (R411). -/
  alignDone : List (Nat × (Nat × Nat × Nat)) := []
  alignSent : Bool := false
  /-- READY: the children's counts by port, and this module (R416). -/
  readyCounts : List (Nat × Nat) := []
  ready : Bool := false
  buildFloor : Bool := false
  imageHash : List Byte := []
  /-- The last SEQ seen, by originator and, for a message that is no flood, by port; and this module's next SEQ (R406). -/
  seen : List (Nat × Option Nat) := []
  seq : Byte := 0
  launch : Option LaunchPlan := none
  agreements : List Agreement := []
  slips : List Slip := []
  /-- The tick in which a schedule stall ends (R422). -/
  stalled : Option Nat := none
  /-- Governor wishes (R524), by code × 16 + port, port 8 for this module's own. -/
  wishes : List (Nat × Option Nat) := []
deriving DecidableEq, Repr

end Sys2Proof.Machine
end

