-- ==== Sys2Proof/Machine/ModuleTypes.lean ====
section
/-! DEFINITION. The state of the management complex and its sessions (R63 to R75, R227 to R229), of the key store, the unseal
sequence and the TAP (R526 to R541), and of the power stage, the clock references and the governor (R502 to R524). -/

namespace Sys2Proof.Machine

/-- A pending handshake (R63, R70): what its HELLO and CHALLENGE fixed. -/
structure Handshake where
  sid : U32
  role : Nat
  via : Via
  clientNonce : List Byte
  deviceNonce : List Byte
deriving DecidableEq, Repr

/-- A session's open DOMAIN write (R75): the entry, its TOTAL, and the bytes received. -/
structure DomainWrite where
  key : Nat
  total : Nat
  received : List Byte
deriving DecidableEq, Repr

/-- A session (R63 to R69): its role and transport, K_TAG and K_WRAP, the SEQ of the last request executed with the stored
response, tag failures in a row, its open DOMAIN write, and the NONCE of the last key blob applied (R529). -/
structure Session where
  sid : U32
  role : Nat
  via : Via
  kTag : List Byte
  kWrap : List Byte
  lastSeq : U64 := 0
  response : Option (List Byte) := none
  tagFails : Nat := 0
  writing : Option DomainWrite := none
  lastNonce : Option Nat := none
deriving DecidableEq, Repr

/-- What serves the dictionary: the dictionary server on the management complex; the standby responder (R52), also while
neither firmware slot passes (R229); or nothing, while the complex reloads (R228). -/
inductive MgmtCode where
  | serving | standby | reloading
deriving DecidableEq, Repr

/-- A core of the management complex (R227): its pc and its registers, an unlisted one 0. -/
structure MgmtCore where
  pc : U64 := 0
  regs : List (Nat × U64) := []
deriving DecidableEq, Repr

/-- The management complex (R227, R228): its private memory, which holds the firmware it copied, none before it has copied any; its two
cores; and whether they run. DESIGN CHOICE (log entry 75). -/
structure Complex where
  memory : Option Firmware := none
  first : MgmtCore := {}
  second : MgmtCore := {}
  running : Bool := false
deriving DecidableEq, Repr

/-- The sessions: pending handshakes, open sessions, DISCOVER requests not yet answered (R59), AUTH_FAILED results in a row and
the lockout of each role (R71). -/
structure Sessions where
  handshakes : List Handshake := []
  sessions : List Session := []
  discovers : List Via := []
  authFails : List (Nat × Nat) := []
  locked : List (Nat × Bool) := []
deriving DecidableEq, Repr

/-- The key store and the TAP: the keys by slot code (R526), the standby copy of the role keys (R72), the holding register
(R536), the step of the unseal sequence that runs, 1 to 6, whether it runs without a new key (R539), the writes
and the module reset that wait for its end (R538), the result of the last BD_OWNER_KEY (R534), the bypass register, the boundary-scan register, and what it captured last.
DESIGN CHOICE (log entry 3). DEDUCED (log entry 70). -/
structure Security where
  keys : List (Nat × Option (List Byte)) := [(3, some (List.replicate 32 0))]
  standbyKeys : List (Nat × Option (List Byte)) := []
  holding : Option (List Byte) := none
  step : Nat := 0
  interrupted : Bool := false
  deferred : Option ResetTrigger := none
  /-- CORE_RESET, WARM_RESET and POWER_REQ written while it ran, with their values, oldest first. -/
  asked : List (Nat × Nat) := []
  ownerResult : Nat := 0
  bypass : Bool := false
  boundary : BitVec 352 := 0
  captured : BitVec 352 := 0
  /-- Whether EXTEST drives the pins from the boundary cells (R534). -/
  extest : Bool := false
deriving DecidableEq, Repr

/-- Whether input power holds the module in S0 to S2, S3 or S4, or every rail is off (R502, R507). -/
inductive PowerMode where
  | on | s3 | s4 | off
deriving DecidableEq, Repr

/-- The power stage and the governor: the mode; domains off and domains that power up, by their bits (R504, R509); towers on
their way to self-refresh for a domain that is to switch off (R349); whether S1 gates the clocks (R508); whether a trip's
release is still awaited (R521); WAKE_AT as taken at entry to S3 or S4 (R510); the calm of R522 and the governor's own step
(R521); the upward step whose rail settles (R520); whether SYSREF and GTC_REF_IN are lost (R517, R583).
DESIGN CHOICE (log entry 10). -/
structure Power where
  mode : PowerMode := .on
  off : BitVec 24 := 0
  waking : BitVec 24 := 0
  toSelfRefresh : BitVec 8 := 0
  gated : Bool := false
  tripped : Bool := false
  wakeAt : U64 := 0
  calm : Nat := 0
  step : Nat := 0
  railTo : Option Nat := none
  sysrefLost : Bool := false
  gtcRefLost : Bool := false
  /-- Whether this stay in S4 follows a trip (R574). -/
  afterTrip : Bool := false
deriving DecidableEq, Repr

end Sys2Proof.Machine
end

