-- ==== Sys2Proof/Machine/State.lean ====
section
/-! DEFINITION. The state of the module: every register, memory, queue, counter, mode and pin the spec names, and the queue of
commands that wait. -/

namespace Sys2Proof.Machine

/-- Why the block stops. No command of the spec stops it: a command that is refused, ignored or answered with an error leaves the
module in a next state that says so, and an event whose condition does not hold leaves it as it is. The type has no constructor,
and no command can fault. -/
inductive Fault where
deriving DecidableEq, Repr

/-- What the model refuses. -/
inductive Refusal where
  /-- Raised by `exec` for a row that has no meaning yet. Safe: the machine goes no further. -/
  | notModelled (mnemonic : String)
deriving DecidableEq, Repr

/-- What leaves the module, in the order it left. -/
inductive Out where
  /-- A Reolo frame, to the client a request came from (R53, R57). -/
  | frame (via : Via) (bytes : List Byte)
  /-- The neighbour advertisement that answers a solicitation (R57): the MAC address at the module's address. -/
  | neighbourAdvertisement (dst target : BitVec 128) (mac : BitVec 48)
  /-- The ICMPv6 echo reply (R57), with the data of the request. -/
  | echoReply (dst : BitVec 128) (payload : List Byte)
  /-- A write to host memory, with its PASID, whether its address is translated (R303), and its bytes enabled (R302). -/
  | hostWrite (pasid : Option (BitVec 20)) (translated : Bool) (addr : U64) (be : BitVec 128) (bytes : List Byte) (poison : Bool)
  /-- A read of host memory, with the number of the request it answers (R302, R303). -/
  | hostRead (request : Nat) (pasid : Option (BitVec 20)) (translated : Bool) (addr : U64) (be : BitVec 128)
  /-- An ATS translation request (R303). -/
  | atsRequest (pasid : Option (BitVec 20)) (addr : U64)
  /-- An MSI-X message (R289). -/
  | msix (vector : Nat) (addr : U64) (data : U32)
  /-- A PRI page request, with its Last bit (R304). -/
  | pageRequest (pasid : Option (BitVec 20)) (addr : U64) (prg : Nat) (last : Bool)
  /-- The completion of an ATS invalidation (R303). -/
  | invalidationComplete (pasid : Option (BitVec 20)) (addr : U64)
  /-- The data that answers a BAR read (R298). -/
  | barData (bytes : List Byte) (poison : Bool)
  /-- A Completer Abort in answer to a BAR access (R298). -/
  | completerAbort
  /-- A request on a border port of the fabric (R323). -/
  | borderRequest (port : Nat) (write : Bool) (addr : U32) (tag : Nat) (be : BitVec 128) (data : List Byte) (poison : BitVec 2)
  /-- A data frame on an Askua port: its blocks and its trailer (R359). -/
  | askuaFrame (port : Nat) (blocks : List U64) (trailer : U64)
  /-- A control block on an Askua port (R358). -/
  | askuaControl (port : Nat) (block : U64)
  /-- A training burst on an Askua port (R376). -/
  | trainBurst (port : Nat)
  /-- What the TAP shifted out: a register of `width` bits (R534). -/
  | tdo (width : Nat) (bits : Nat)
  /-- A rising edge of GTC_REF_OUT (R392). -/
  | gtcRefOut
deriving DecidableEq, Repr

/-- Values fused at test (R25, R79). DESIGN CHOICE (log entry 3). -/
structure Fuses where
  duMap : BitVec 32 := 0xCCCCCCCC
  /-- FW_PUBLIC_KEY, x then y (R542). -/
  fwKey : List Byte := List.replicate 96 0
deriving DecidableEq, Repr

/-- The straps of P0 (R571, R572), true while asserted: ANCHOR_N and FIO_PULLDOWN_N as sampled at power-up, DBG_ENABLE_N as it
stands. -/
structure Straps where
  anchor : Bool := false
  pulldown : Bool := false
  debug : Bool := false
deriving DecidableEq, Repr

/-- What the last reseeding of the sample units took from the dictionary (R555). -/
structure SampleInit where
  seed : U16 := 1
  period : Nat := 65536
  jitter : Nat := 0
deriving DecidableEq, Repr

/-- The module. -/
structure State where
  /-- The commands that wait, first in, first out. -/
  pending : List Instr
  /-- What has left the module since reset, oldest first. -/
  out : List Out
  /-- The model's own: how many free values have been drawn. A value the spec leaves open is an opaque constant of Config at this
  count. -/
  free : Nat
  /-- The global tick counter (R391). -/
  gtc : U64
  fuses : Fuses
  straps : Straps
  /-- The dictionary: the values that entries hold, by 256 times index plus subindex; an unlisted entry holds its default
  (R39, R47). -/
  dict : List (Nat × Nat)
  /-- The compute cores: memory, matrix engines, vector unit, gather engines, stream engine and control core (R4); an unlisted core
  is as after reset. -/
  cores : List (Nat × Core)
  /-- What the sample units were last seeded with (R555). -/
  sampleInit : SampleInit
  /-- Caravan contexts by number; an unlisted one is FREE (R243, R247). -/
  caravans : List (Nat × Caravan)
  /-- The banks that hold contexts on die (R248). -/
  banks : List (Nat × Bank)
  /-- The queue manager: ring contexts, pools, posts, and the caches of translations (R272 to R303, R591). -/
  queues : Queues
  /-- The host registers of BAR0 (R294 to R299). -/
  bar0 : Bar0
  /-- The PCIe function: link, configuration, power state (R295 to R305). -/
  pcie : Pcie
  /-- The packet network: flits in flight, requests under way, credits (R306 to R335). -/
  net : Net
  /-- The Askua ports and their corners (R355 to R387). -/
  links : Links
  /-- Lock-step: discovery, alignment, agreement, launch (R389 to R430). -/
  lockstep : Lockstep
  /-- Stacked memory: its lines and their check state, and the towers (R336 to R351). -/
  stacked : Stacked
  /-- Counters, their windows and selections (R544 to R554). -/
  counters : Counters
  /-- The ledger: its queue, memory, critical ring and freeze (R559 to R568). -/
  ledger : Ledger
  /-- EPOCH_OFFSET (R560). -/
  epoch : U64
  /-- Whether calendar time is valid (R560). -/
  calendarValid : Bool
  /-- Power state, domains, clocks, governor and resets (R502 to R526). -/
  power : Power
  /-- The fabric: regions, signal engines, memories, pins, probe, configuration, the slots of the flash (R431 to R501). -/
  fabric : Fabric
  /-- Sessions, handshakes, lockouts, and DISCOVER answers that wait (R63 to R72). -/
  sessions : Sessions
  /-- Which code of the management complex answers: the dictionary server, the standby responder, or none while it reloads
  (R52, R228, R229). -/
  mgmt : MgmtCode
  /-- The management complex: its private memory and its two cores (R227, R228). -/
  complex : Complex
  /-- Keys, seals, the unseal sequence and the TAP (R527 to R543). -/
  security : Security
deriving DecidableEq, Repr

/-- The module right after a power-on reset: the management complex starts up, every domain is on, the towers have not trained, and
every entry of the dictionary holds its default (R505, R513, R515). DESIGN CHOICE (log entry 3). -/
def State.reset : State :=
  { pending := [], out := [], free := 0, gtc := 0, fuses := {}, straps := {}, dict := [], cores := [], sampleInit := {}, caravans := []
    banks := [], queues := {}, bar0 := {}, pcie := {}, net := {}, links := {}, lockstep := {}, stacked := {}, counters := {}, ledger := {}, epoch := 0
    calendarValid := false, power := {}, fabric := {}, sessions := {}, mgmt := .standby, complex := {}, security := {} }

end Sys2Proof.Machine
end

