-- ==== Sys2Proof/Machine/Ops.lean ====
section
/-! DEFINITION. Operations every family shares: dictionary values, free values, the ledger's generation of an entry (R561),
module events (R294), MSI-X (R289), and event counting (R544 to R549). -/

namespace Sys2Proof.Machine

/-- The value an entry holds (R47, R49). -/
def dictGet (s : State) (key : Nat) : Nat := mapGet (entryDefault key) s.dict key

/-- The dictionary with a value at an entry. -/
def dictPut (d : List (Nat × Nat)) (key v : Nat) : List (Nat × Nat) := mapSet (entryDefault key) d key v

/-- The state with a value at an entry. -/
def dictSet (s : State) (key v : Nat) : State := { s with dict := dictPut s.dict key v }

/-- A U32 count of the dictionary raised by `n`; it stays at its greatest value. DESIGN CHOICE (log entry 88). -/
def dictBump (s : State) (key n : Nat) : State := dictSet s key (sat32 (dictGet s key + n))

/-- `n` undefined bytes: free values, the counter advanced by `n`. DESIGN CHOICE (log entry 11). -/
def freshBytes (s : State) (n : Nat) : List Byte := (List.range n).map fun i => Config.freeByte (s.free + i)

/-- The state after `n` free values were used. DESIGN CHOICE (log entry 11). -/
def useFree (s : State) (n : Nat) : State := { s with free := s.free + n }

/-- A free number. DESIGN CHOICE (log entry 12). -/
def freshNat (s : State) : Nat := Config.freeNat s.free

def getCore (s : State) (c : CoreId) : Core := mapGet {} s.cores c.val

def setCore (s : State) (c : CoreId) (k : Core) : State := { s with cores := mapSet {} s.cores c.val k }

/-- R231: the module's system address, once discovery has assigned it. -/
def sysAddr (s : State) : Option Nat := if s.lockstep.addressed then some (dictGet s keySysAddr) else none

/-- R389, R517: whether the module runs in lock-step mode: the mode of its last start-up, from the alignment of its GTC on. -/
def lockstepMode (s : State) : Bool := s.lockstep.mode && s.lockstep.aligned

/-- R426: a breach of a cycle-match condition: RUN_CM falls, and the first breach is recorded. -/
def breachCm (s : State) (cause : Nat) : State :=
  if dictGet s keyRunCm = 1 then dictSet (dictSet s keyRunCm 0) keyRunCmCause cause else s

/-- R426: host traffic after the module has become READY in lock-step mode, or during a run (LS_STATE ARMED and RUNNING are 4
and 5). -/
def hostTraffic (s : State) : State :=
  let st := dictGet s keyLsState
  let r := dictGet s keyReadyStatus
  if st = 5 ∨ (st = 4 ∧ (r = 1 ∨ r = 2 ∨ r = 7)) then breachCm s 6 else s

/-- R508: a doorbell, a BAR access, an Askua packet or a pending interrupt ends S1. DESIGN CHOICE (log entry 10). -/
def wakeS1 (s : State) : State := { s with power := { s.power with gated := false } }

/-- R538: the unseal sequence runs (DEBUG_STATE UNSEALING). -/
def isUnsealing (s : State) : Bool := dictGet s keyDebugState = 1

/-- R560: calendar time. -/
def calendar (s : State) : U64 := s.gtc + s.epoch

/-- R289: an MSI-X vector sent, or its pending bit set while it is masked: by its own mask bit, by Function Mask, or while MSI-X is
not enabled. PRESUMED (log entry 79). -/
def sendVector (s : State) (v : Nat) : State :=
  let e := mapGet {} s.bar0.msix v
  if e.control.getLsbD 0 || s.pcie.functionMask || !s.pcie.msixEnable then { s with bar0 := { s.bar0 with msix := mapSet {} s.bar0.msix v { e with pending := true } } }
  else { s with out := s.out ++ [.msix v e.addr e.data] }

/-- R294: bits of MOD_EVENT set; vector 0 is sent when the set of bits both set and enabled becomes not empty. -/
def raiseModEvent (s : State) (m : BitVec 6) : State :=
  let old := s.bar0.modEvent
  let s' := { s with bar0 := { s.bar0 with modEvent := old ||| m } }
  if old &&& s.bar0.modEventEn = 0 ∧ (old ||| m) &&& s.bar0.modEventEn ≠ 0 then sendVector s' 0 else s'

/-- R559, R561, R564: an entry generated. Below LEDGER_MIN_SEV nothing is generated; an entry that finds the input queue
full is discarded and counted; during a freeze it takes its number and counts as missed. DEDUCED (log entry 25). -/
def logEntry (s : State) (sev : Fin 4) (code srcKind srcUnit data : Nat) : State :=
  if sev.val < dictGet s keyLedgerMinSev then s
  else if s.ledger.freeze = none ∧ 256 ≤ s.ledger.queue.length then dictBump s keyLedgerDropped 1
  else
    let e : LedgerEntry :=
      { seq := s.ledger.nextSeq, time := calendar s, sev := sev, copied := false, calSet := s.calendarValid
        srcKind := srcKind, srcUnit := srcUnit % 65536, code := code, data := data % 2 ^ 128 }
    let frozen := s.ledger.freeze.isSome
    let l := { s.ledger with
      nextSeq := s.ledger.nextSeq + 1
      queue := if frozen then s.ledger.queue else s.ledger.queue ++ [e]
      uncopied := if sev = 3 then s.ledger.uncopied ++ [e] else s.ledger.uncopied }
    let s' := { s with ledger := l, dict := if frozen then dictPut s.dict keyLedgerMissed (sat32 (dictGet s keyLedgerMissed + 1)) else s.dict }
    if sev = 2 then raiseModEvent s' 2 else if sev = 3 then raiseModEvent s' 4 else s'

/-- The attributes an event carries (R548): the unit of its block, the mode and number of the thread behind it or the
master of a flit, its class, its address. -/
structure EvAttr where
  unit : Nat := 0
  machine : Option Bool := none
  master : Option Nat := none
  cls : Option Nat := none
  addr : Option Nat := none
deriving DecidableEq, Repr

/-- The counter sets of R544. -/
inductive CounterSet where
  | core | controller | link | waystation
deriving DecidableEq, Repr

/-- R544: select index of block 0, counters per block, and the number of counter 0 of a block in the order of the records
of R550. A waystation's block is named 16y + x in its select index and 15y + x in its records. -/
def counterBase : CounterSet → Nat
  | .core => 0x8100 | .controller => 0x8200 | .link => 0x8300 | .waystation => 0x8400

def counterCount : CounterSet → Nat
  | .core => 16 | .controller => 8 | .link => 8 | .waystation => 4

def counterNumber (set : CounterSet) (block i : Nat) : Nat :=
  match set with
  | .core => 16 * block + i
  | .controller => 1536 + 8 * block + i
  | .link => 2560 + 8 * block + i
  | .waystation => 2624 + 4 * (15 * (block / 16) + block % 16) + i

/-- R548, R549: whether a select word counts an event, with the block's address window. DEDUCED (log entry 27). -/
def selectCounts (set : CounterSet) (word lo hi ev : Nat) (a : EvAttr) : Bool :=
  let priv := bits word 12 2
  bits word 0 8 = ev && (bits word 8 4 = 0 || bits word 8 4 = a.unit)
    && (set ≠ .core || priv = 0 || a.machine = some (priv == 1))
    && (!bit word 14 || a.master = some (bits word 20 4))
    && (!bit word 15 || (match a.addr with | some x => lo ≤ x && x < hi | none => false))
    && (!bit word 16 || a.cls = some (bits word 17 3))

/-- R544: a counter that adds `n` events; passing 2^48 − 1 sets OVF. -/
def counterAdd (c : Counter) (n : Nat) : Counter :=
  { value := c.value + BitVec.ofNat 48 n, ovf := c.ovf || 2 ^ 48 ≤ c.value.toNat + n }

/-- The subindexes of the address window of a block (R568). -/
def windowSubs : CounterSet → Nat × Nat
  | .core => (0x11, 0x12)
  | _ => (0x09, 0x0A)

/-- `n` events of one kind at a block, counted by each counter of the block that selects them (R544, R548). -/
def countIn (c : Counters) (set : CounterSet) (block ev : Nat) (a : EvAttr) (n : Nat) : Counters :=
  if n = 0 then c
  else
    let index := counterBase set + block
    let lo := mapGet 0 c.selects (keyOf index (windowSubs set).1)
    let hi := mapGet 0 c.selects (keyOf index (windowSubs set).2)
    { c with values := (List.range (counterCount set)).foldl (fun v i =>
        if selectCounts set (mapGet 0 c.selects (keyOf index (i + 1))) lo hi ev a
        then mapMod {} v (counterNumber set block i) fun k => counterAdd k n else v) c.values }

def countEvent (s : State) (set : CounterSet) (block ev : Nat) (a : EvAttr) (n : Nat) : State :=
  { s with counters := countIn s.counters set block ev a n }

/-- Events that count cycles, or frame slots, of waiting or of work (R158, R197, R230, R271, R326, R352, R388, R547): the model
keeps no cycles, so a counter that selects one reads as a free value. DESIGN CHOICE (log entry 7). -/
def cycleEvent (set : CounterSet) (ev : Nat) : Bool :=
  match set with
  | .core => ev = 1 || (0x10 ≤ ev && ev ≤ 0x1C) || ev = 0x30 || ev = 0x31 || ev = 0x33 || ev = 0x34 || (0x41 ≤ ev && ev ≤ 0x48)
      || ev = 0x4A || (0x57 ≤ ev && ev ≤ 0x5B)
  | .controller => ev = 1 || ev = 0x17 || ev = 0x18
  | .link => ev = 1 || ev = 0x16 || ev = 0x17
  | .waystation => ev = 1 || ev = 0x11 || ev = 0x12 || ev = 0x18

/-- R550, R552: what a counter reads as. DESIGN CHOICE (log entry 7). -/
def counterValue (s : State) (set : CounterSet) (block i : Nat) : Nat :=
  if cycleEvent set (bits (mapGet 0 s.counters.selects (keyOf (counterBase set + block) (i + 1))) 0 8) then freshNat s % 2 ^ 48
  else (mapGet {} s.counters.values (counterNumber set block i)).value.toNat

/-- R555: one step of the LFSR of polynomial x^16 + x^14 + x^13 + x^11 + 1. PRESUMED (log entry 22). -/
def lfsrStep (r : U16) : U16 :=
  let b := r.getLsbD 0 ^^ r.getLsbD 2 ^^ r.getLsbD 3 ^^ r.getLsbD 5
  (r >>> 1) ||| (if b then 0x8000 else 0)

/-- R555: what a countdown reloads with, for LFSR value `r`. PRESUMED (log entry 22). -/
def sampleReload (period jitter : Nat) (r : U16) : Nat := period + r.toNat % 2 ^ jitter

/-- R555: the sampling state right after a reseeding: the LFSR seeded with SAMPLE_SEED XOR n, or 0xFFFF where that is 0,
then both countdowns reloaded, INSN first. PRESUMED (log entry 22). -/
def seededSampling (i : SampleInit) (n : Nat) : Sampling :=
  let x := i.seed ^^^ BitVec.ofNat 16 n
  let r := if x = 0 then 0xFFFF else x
  { insnDown := sampleReload i.period i.jitter r, unitDown := sampleReload i.period i.jitter (lfsrStep r)
    lfsr := lfsrStep (lfsrStep r), records := [], lost := 0 }

/-- The sampling state of core `n`. -/
def samplingOf (i : SampleInit) (n : Nat) (c : Core) : Sampling :=
  match c.sampling with
  | some x => x
  | none => seededSampling i n

/-- R558: a record appended, or lost where the buffer holds 1,024. -/
def sampleAppend (x : Sampling) (r : List Byte) : Sampling :=
  if x.records.length < 1024 then { x with records := x.records ++ [r] } else { x with lost := sat32 (x.lost + 1) }

/-- What a sample record holds beside its latency and its time (R557). -/
structure SampleData where
  kind : Nat
  thread : Nat
  machine : Bool
  unit : Nat
  opclass : Nat
  tag : Nat
  status : Nat
  pc : U64
  daddr : Nat
deriving DecidableEq, Repr

/-- R557: the 32 bytes of a sample record. -/
def sampleBytes (x : SampleData) (latency : Nat) (gtc : U64) : List Byte :=
  natBytes 32 (x.kind % 4 + (x.thread % 4) <<< 2 + (if x.machine then 1 <<< 4 else 0) + (x.unit % 8) <<< 5
    + (x.opclass % 256) <<< 8 + (x.tag % 65536) <<< 16 + (min latency 16777215) <<< 32 + (x.status % 256) <<< 56
    + x.pc.toNat <<< 64 + (x.daddr % 2 ^ 64) <<< 128 + gtc.toNat <<< 192)

/-- R557: a record written for core `c`. Its latency in cycles is a free value: the model keeps no cycles.
DESIGN CHOICE (log entry 8). -/
def writeSample (s : State) (c : CoreId) (x : SampleData) : State :=
  let k := getCore s c
  let r := sampleBytes x (freshNat s) s.gtc
  useFree (setCore s c { k with sampling := some (sampleAppend (samplingOf s.sampleInit c.val k) r) }) 1

/-- What an operation on one core reports beside the core's new state: events counted (R110, R137, R158, R197, R230, R271),
ledger entries (R567), and module events (R294). -/
inductive Note where
  | event (ev : Nat) (a : EvAttr) (n : Nat)
  | log (sev : Fin 4) (code data : Nat)
  | modEvent (m : BitVec 6)
  | sample (x : SampleData)
deriving DecidableEq, Repr

/-- One note of core `c` takes effect. -/
def applyNote (c : CoreId) (s : State) : Note → State
  | .event ev a n => countEvent s .core c.val ev a n
  | .log sev code data => logEntry s sev code 1 c.val data
  | .modEvent m => raiseModEvent s m
  | .sample x => writeSample s c x

/-- The notes of core `c` take effect in order. -/
def applyNotes (c : CoreId) (s : State) (ns : List Note) : State := ns.foldl (applyNote c) s

/-- R567: DATA fields packed upward from bit 0 at their widths. -/
def packData : List (Nat × Nat) → Nat
  | [] => 0
  | (w, v) :: t => v % 2 ^ w + (packData t) <<< w

/-- R152, R189, R195: the entry of a unit that halts, and the module event. -/
def unitHaltNotes (unit status tag done : Nat) : List Note :=
  [.log 2 0x6002 (packData [(8, unit), (8, status), (16, tag), (32, done)]), .modEvent 8]

/-- R161, R190, R194: the entry of a unit that read poison. -/
def unitPoisonNotes (unit tag : Nat) : List Note := [.log 2 0x6003 (packData [(8, unit), (16, tag)])]

/-- Whether a tile sector is powered: sector TSk holds logical cores 12k to 12k + 11 (R26, R504). -/
def coreOff (s : State) (n : Nat) : Bool := s.power.off.getLsbD (n / 12)

/-- R29: the entry of what names a core that is not powered: 0 a caravan, 1 a ring entry, 2 a command. -/
def logTargetOff (s : State) (c requester : Nat) : State := logEntry s 2 0x6001 1 c (packData [(8, requester)])

end Sys2Proof.Machine
end

