-- ==== Sys2Proof/Machine/NetOps.lean ====
section
/-! DEFINITION. Places on the mesh (R18 to R20, R306), the physical address map of stacked memory (R328, R329), flits and the
records of requests (R307 to R314), stacked-memory bytes and their poison (R336, R338), and translation of stacked-memory
addresses (R299, R592). -/

namespace Sys2Proof.Machine

/-- R25, R28: the disabled physical column of a row. -/
def disabledColumn (f : Fuses) (r : Nat) : Nat := bits f.duMap.toNat (4 * r) 4

/-- R18, R26: the mesh node of logical core `n`. -/
def coreNode (f : Fuses) (n : Nat) : Nat × Nat :=
  let r := n / 12
  let x := n % 12
  let c := if x < disabledColumn f r then x else x + 1
  (c + 1, r + 1)

/-- R26: the logical core at an interior node, none at the disabled one. -/
def nodeCore (f : Fuses) (x y : Nat) : Option CoreId :=
  let r := y - 1
  let c := x - 1
  let d := disabledColumn f r
  if 1 ≤ x ∧ x ≤ 13 ∧ 1 ≤ y ∧ y ≤ 8 ∧ c ≠ d then some (Fin.ofNat 96 (12 * r + (if c < d then c else c - 1))) else none

/-- What a node serves (R19, R306). -/
inductive NodeKind where
  | core | tower | caravanserai | fabric | management | pcie | askua
deriving DecidableEq, Repr

/-- R18, R19: the kind of a node. -/
def nodeKind (x y : Nat) : NodeKind :=
  if 1 ≤ x ∧ x ≤ 13 ∧ 1 ≤ y ∧ y ≤ 8 then .core
  else if x = 7 ∧ (y = 0 ∨ y = 9) then .caravanserai
  else if 1 ≤ x ∧ x ≤ 13 then .tower
  else if 1 ≤ y ∧ y ≤ 8 then .fabric
  else if y = 9 then .askua
  else if x = 0 then .management
  else .pcie

/-- R19: the tower of a border node. -/
def nodeTower (x y : Nat) : Nat :=
  let base := if y = 0 then 0 else 4
  base + (if x ≤ 3 then 0 else if x ≤ 6 then 1 else if x ≤ 10 then 2 else 3)

/-- R19: the node that serves a tower's channel controller. -/
def towerNode (tower ctl : Nat) : Nat × Nat :=
  let first := match tower % 4 with | 0 => 1 | 1 => 4 | 2 => 8 | _ => 11
  (first + (if ctl ≤ 5 then 0 else if ctl ≤ 10 then 1 else 2), if tower < 4 then 0 else 9)

/-- R20: the node and SUB of a border port. -/
def borderNode (p : Nat) : Nat × Nat × Nat := if p < 16 then (0, 1 + p / 2, p % 2) else (14, 1 + (p - 16) / 2, p % 2)

/-- R20: the border port at a fabric node and SUB. -/
def nodeBorder (x y sub : Nat) : Nat := (if x = 0 then 0 else 16) + 2 * (y - 1) + sub % 2

/-- R328: where a physical stacked address lies. -/
structure Place where
  tower : Nat
  ctl : Nat
  pc : Nat
  sid : Nat
  bank : Nat
  row : Nat
  col : Nat
deriving DecidableEq, Repr

/-- R328: bytes of one half. -/
def halfBytes : Nat := 0x2400000000

/-- Physical stacked memory ends here (R328). -/
def stackedBytes : Nat := 2 * halfBytes

/-- R328: the map from physical addresses to places. -/
def placeOf (pa : Nat) : Place :=
  let h := pa / halfBytes
  let l := pa % halfBytes / 128
  let v := l / 128
  let p := (l % 128) ^^^ (v % 128)
  let tw := p / 32
  { tower := if h = 0 then (if tw < 2 then tw else tw + 2) else (if tw < 2 then tw + 2 else tw + 4)
    ctl := p / 2 % 16, pc := p % 2, col := v % 8, bank := v / 8 % 16, sid := v / 128 / 24576, row := v / 128 % 24576 }

/-- R328, inverted: the physical address of the line at a place. -/
def lineOf (q : Place) : Nat :=
  let h := if q.tower % 4 < 2 then 0 else 1
  let tw := q.tower % 2 + (if q.tower < 4 then 0 else 2)
  let v := (24576 * q.sid + q.row) * 128 + 8 * q.bank + q.col
  let p := 32 * tw + 2 * q.ctl + q.pc
  h * halfBytes + 128 * (128 * v + (p ^^^ (v % 128)))

/-- R329: whether a physical address lies in the caravanserai's reserved region. -/
def isReserved (pa : Nat) : Bool :=
  (0x23FF000000 ≤ pa && pa ≤ 0x23FFFFFFFF) || (0x47FF000000 ≤ pa && pa ≤ 0x47FFFFFFFF)

/-- The classes of R307. -/
def clsReq : Fin 8 := 0
def clsRsp : Fin 8 := 1
def clsWr : Fin 8 := 2
def clsStr : Fin 8 := 3
def clsMgt : Fin 8 := 4

/-- A byte mask with `n` ones from place `lo` (R307 BYTE_EN). -/
def byteMask (lo n : Nat) : BitVec 128 := BitVec.ofNat 128 ((2 ^ n - 1) <<< lo)

/-- A one-flit packet. -/
def mkFlit (src dst : Nat × Nat × Nat) (cls : Fin 8) (op : Byte) (tag addr : Nat) (be : BitVec 128) (payload : List Byte)
    (poison : BitVec 2) (ack : Bool) : Flit :=
  { dstX := Fin.ofNat 15 dst.1, dstY := Fin.ofNat 10 dst.2.1, dstSub := Fin.ofNat 32 dst.2.2, cls := cls
    srcX := Fin.ofNat 15 src.1, srcY := Fin.ofNat 10 src.2.1, srcSub := Fin.ofNat 32 src.2.2, mcast := false, lenM1 := 0
    flitIdx := 0, urgency := 0, opcode := op, poison := poison, err := false, ackReq := ack, tag := BitVec.ofNat 14 tag
    addr := BitVec.ofNat 64 addr, byteEn := be, payload := payload }

/-- R309: the response to a request flit. -/
def mkResponse (f : Flit) (op : Byte) (payload : List Byte) (poison : BitVec 2) (err : Bool) : Flit :=
  { f with dstX := f.srcX, dstY := f.srcY, dstSub := f.srcSub, srcX := f.dstX, srcY := f.dstY, srcSub := f.dstSub
           cls := if f.cls = clsMgt then clsMgt else clsRsp, mcast := false, lenM1 := 0, flitIdx := 0, urgency := 0
           opcode := op, poison := poison, err := err, ackReq := false, payload := payload }

/-- R309: the error response of a request: RD_DATA, WR_ACK, HOLD_GRANT or MGT_RSP with ERR. -/
def errResponse (f : Flit) : Flit :=
  mkResponse f (if f.cls = clsMgt then 0x90 else if f.opcode = 0x01 then 0x81 else if f.opcode = 0x05 then 0x85 else 0x82) [] 0 true

/-- R307: the header of a flit, at the bits of its field map. -/
def flitHeader (f : Flit) : BitVec 256 :=
  BitVec.ofNat 256 (f.dstX.val + f.dstY.val <<< 4 + f.dstSub.val <<< 8 + f.cls.val <<< 13 + f.srcX.val <<< 16 + f.srcY.val <<< 20
    + f.srcSub.val <<< 24 + f.mcast.toNat <<< 29 + f.lenM1.val <<< 30 + f.flitIdx.val <<< 32 + f.urgency.val <<< 34
    + f.opcode.toNat <<< 38 + f.poison.toNat <<< 46 + f.err.toNat <<< 48 + f.ackReq.toNat <<< 49 + f.tag.toNat <<< 50
    + f.addr.toNat <<< 64 + f.byteEn.toNat <<< 128)

/-- R307: the 160 bytes of a flit: its header and 128 bytes of payload. -/
def flitBytes (f : Flit) : List Byte := natBytes 32 (flitHeader f).toNat ++ (f.payload ++ List.replicate 128 0).take 128

/-- R307: a flit read from its 160 bytes. -/
def flitOfBytes (b : List Byte) : Flit :=
  let h := leNat (b.take 32)
  { dstX := Fin.ofNat 15 (bits h 0 4), dstY := Fin.ofNat 10 (bits h 4 4), dstSub := Fin.ofNat 32 (bits h 8 5), cls := Fin.ofNat 8 (bits h 13 3)
    srcX := Fin.ofNat 15 (bits h 16 4), srcY := Fin.ofNat 10 (bits h 20 4), srcSub := Fin.ofNat 32 (bits h 24 5), mcast := bit h 29
    lenM1 := Fin.ofNat 4 (bits h 30 2), flitIdx := Fin.ofNat 4 (bits h 32 2), urgency := Fin.ofNat 16 (bits h 34 4)
    opcode := BitVec.ofNat 8 (bits h 38 8), poison := BitVec.ofNat 2 (bits h 46 2), err := bit h 48, ackReq := bit h 49
    tag := BitVec.ofNat 14 (bits h 50 14), addr := BitVec.ofNat 64 (bits h 64 64), byteEn := BitVec.ofNat 128 (bits h 128 128)
    payload := (b.drop 32).take 128 }

/-- A flit injected into the network (R312). -/
def inject (n : Net) (f : Flit) : Net := { n with flits := n.flits ++ [{ flit := f }] }

/-- R306: the source and the destination endpoint of a flit. -/
def flitSrc (f : Flit) : Nat × Nat × Nat := (f.srcX.val, f.srcY.val, f.srcSub.val)

def flitDst (f : Flit) : Nat × Nat × Nat := (f.dstX.val, f.dstY.val, f.dstSub.val)

/-- R306: whether the endpoint table lists a SUB at a node. -/
def endpointListed (x y sub : Nat) : Bool :=
  match nodeKind x y with
  | .core | .management | .pcie => sub = 0
  | .tower => decide (sub < 16) && towerNode (nodeTower x y) sub = (x, y)
  | .caravanserai => sub = 0 || (y = 0 && sub = 1)
  | .fabric => decide (sub < 2)
  | .askua => decide (sub < 4)

/-! The mesh (R310 to R313, R315, R316, R320). -/

/-- R21: the mesh-port channels of a node. -/
def meshChannels (x y : Nat) : Nat :=
  match nodeKind x y with
  | .pcie | .askua => 2
  | _ => 1

/-- R21: the local-port channels of a node. -/
def localChannels (x y : Nat) : Nat :=
  match nodeKind x y with
  | .tower | .askua => 4
  | .caravanserai | .fabric | .pcie => 2
  | .core | .management => 1

/-- R18: the node beyond a mesh port. -/
def neighbour (x y port : Nat) : Nat × Nat :=
  match port with
  | 1 => (x, y - 1)
  | 2 => (x + 1, y)
  | 3 => (x, y + 1)
  | _ => (x - 1, y)

/-- The port of the neighbour at which a link through `port` arrives. -/
def facing (port : Nat) : Nat := (port + 1) % 4 + 1

/-- R311: the channel of a mesh link from (x, y) through `port` that a flit enters. -/
def linkChannel (f : Flit) (x y port : Nat) : Nat :=
  let b := neighbour x y port
  if f.mcast then 0
  else (f.srcX.val + f.srcY.val + f.dstX.val + f.dstY.val + f.dstSub.val) % max (meshChannels x y) (meshChannels b.1 b.2)

/-- R310: the port by which a flit for a node leaves (x, y): along the row, then along the column, then the local port. -/
def turn (x y : Nat) (dst : Nat × Nat) : Nat :=
  if x < dst.1 then 2 else if dst.1 < x then 4 else if y < dst.2 then 3 else if dst.2 < y then 1 else 5

/-- R311: where a flit stands that has left (x, y) through a port. -/
def spotBeyond (f : Flit) (x y port : Nat) : Spot :=
  if port = 5 then .port x y (if f.mcast then 0 else f.dstSub.val % localChannels x y)
  else .buffer (neighbour x y port).1 (neighbour x y port).2 (facing port) (linkChannel f x y port)

/-- R310, R311, R320: where a flight goes next, with the receivers that each copy is for. A flit that waits in its source's queue
enters the injection channel; a multicast flit forks where its receivers part. -/
def onward (fu : Fuses) (g : Flight) : List (Spot × List Nat) :=
  match g.spot with
  | .queue => [(.buffer g.flit.srcX.val g.flit.srcY.val 5 (g.flit.srcSub.val % localChannels g.flit.srcX.val g.flit.srcY.val), g.left)]
  | .port _ _ _ => []
  | .buffer x y _ _ =>
    if g.flit.mcast then
      [1, 2, 3, 4, 5].filterMap fun p =>
        match g.left.filter fun c => turn x y (coreNode fu c) = p with
        | [] => none
        | l => some (spotBeyond g.flit x y p, l)
    else [(spotBeyond g.flit x y (turn x y (g.flit.dstX.val, g.flit.dstY.val)), [])]

/-- R313: whether two flights wait in one buffer queue: one place and class, and in a source's queue one source. -/
def sameLane (a b : Flight) : Bool := a.spot = b.spot && a.flit.cls = b.flit.cls && (a.spot ≠ .queue || flitSrc a.flit = flitSrc b.flit)

/-- R313, R314: whether a flit of a class finds a free buffer at a place: of the 4 of its class there, those taken and those whose
credit is not yet back are not free. RSP, STR and MGT flits are taken at once at their destination; a REQ or WR flit leaves the last
buffer only as its endpoint takes it. -/
def hasBuffer (n : Net) (cls : Fin 8) (p : Spot) : Bool :=
  match p with
  | .queue => true
  | .port _ _ _ => cls ≠ clsReq && cls ≠ clsWr
  | .buffer _ _ _ _ =>
    (n.flits.filter fun h => h.spot = p && h.flit.cls = cls).length + (n.credits.filter fun c => c.spot = p && c.cls = cls).length < 4

/-- R308, R315: the packet whose flits a channel is passing, in a class. -/
def openPacket (n : Net) (cls : Fin 8) (p : Spot) : Option OpenPacket := n.packets.find? fun k => k.spot = p && k.cls = cls

/-- R308: whether a packet's head and not yet its last flit has passed into a channel, and this flit is not of that packet. -/
def shutOut (n : Net) (g : Flight) (p : Spot) : Bool :=
  match openPacket n g.flit.cls p with
  | some k => k.src ≠ flitSrc g.flit || k.tag ≠ g.flit.tag
  | none => false

/-- R315: whether a flight stands for a channel of its own at the head of its buffer: the candidates of this network cycle. -/
def isCandidate (fu : Fuses) (n : Net) (e : Flight × Nat) : Bool :=
  !(n.flits.zipIdx.any fun h => h.2 < e.2 && sameLane h.1 e.1) && e.1.since ≤ n.cycle && !(onward fu e.1).isEmpty
    && (onward fu e.1).all fun o => hasBuffer n e.1.flit.cls o.1 && !shutOut n e.1 o.1

/-- The number of an (input, class) pair of a waystation. -/
def pairIndex (g : Flight) : Nat :=
  match g.spot with
  | .buffer _ _ p c => 8 * (4 * p + c) + g.flit.cls.val
  | _ => g.flit.cls.val

/-- R315: the rank of a candidate at a channel; the lowest wins: the next flit of a packet under way, then the highest URGENCY,
then the pair that follows the last winner. DESIGN CHOICE (log entry 85). -/
def candidateRank (n : Net) (p : Spot) (e : Flight × Nat) : Nat :=
  let last := ((n.winners.find? fun w => w.1 = p).map (·.2)).getD 0
  (if (openPacket n e.1.flit.cls p).isSome then 0 else 1000000) + 10000 * (15 - e.1.flit.urgency.val) + (pairIndex e.1 + 255 - last) % 256

/-- R315: whether a candidate wins every channel it needs, against the others of this cycle. -/
def wins (fu : Fuses) (n : Net) (all : List (Flight × Nat)) (e : Flight × Nat) : Bool :=
  (onward fu e.1).all fun o => all.all fun h =>
    h.2 = e.2 || !((onward fu h.1).any fun q => q.1 = o.1)
      || decide (candidateRank n o.1 e < candidateRank n o.1 h ∨ (candidateRank n o.1 e = candidateRank n o.1 h ∧ e.2 < h.2))

/-- R313: the credits of a flight that leaves its place. -/
def creditOf (n : Net) (g : Flight) : List NetCredit :=
  match g.spot with
  | .buffer _ _ _ _ => [{ spot := g.spot, cls := g.flit.cls, due := n.cycle + 2 }]
  | _ => []

/-- R308: the packets under way after a flit has passed into a channel. -/
def notePacket (k : List OpenPacket) (f : Flit) (p : Spot) : List OpenPacket :=
  let rest := k.filter fun x => !(x.spot = p && x.cls = f.cls)
  if f.flitIdx.val < f.lenM1.val then rest ++ [{ spot := p, cls := f.cls, src := flitSrc f, tag := f.tag }] else rest

/-- One network cycle (R313, R315, R316, R320): every channel passes its winner, credits come back 2 cycles after their buffers
free, and a flit is 2 cycles on each part of its way. -/
def netCycle (fu : Fuses) (n : Net) : Net :=
  let all := n.flits.zipIdx.filter (isCandidate fu n)
  let won := all.filter (wins fu n all)
  let stay := (n.flits.zipIdx.filter fun e => !(won.any fun w => w.2 = e.2)).map (·.1)
  let moved := won.flatMap fun e => (onward fu e.1).map fun o => { e.1 with spot := o.1, left := o.2, since := n.cycle + 2 }
  let passed := won.flatMap fun e => (onward fu e.1).map fun o => (o.1, e.1)
  { n with
    flits := stay ++ moved
    cycle := n.cycle + 1
    credits := (n.credits ++ won.flatMap fun e => creditOf n e.1).filter fun c => n.cycle + 1 < c.due
    winners := passed.foldl (fun w o => (w.filter fun x => x.1 ≠ o.1) ++ [(o.1, pairIndex o.2)]) n.winners
    packets := passed.foldl (fun k o => notePacket k o.2.flit o.1) n.packets }

/-- R428: the columns in which the endpoints at a node may lie, over every disabled-unit map. -/
def mayLie (fu : Fuses) (x y : Nat) : List Nat :=
  match nodeCore fu x y with
  | some c => [c.val % 12 + 1, c.val % 12 + 2]
  | none => [x]

/-- The distance between two numbers. -/
def gap (a b : Nat) : Nat := max a b - min a b

/-- R428: the padding of a flit at a destination: 2 network cycles for each hop by which its way is shorter than on any other map. -/
def floorPadding (fu : Fuses) (g : Flight) : Nat :=
  let pad (x y : Nat) : Nat :=
    let far := ((mayLie fu g.flit.srcX.val g.flit.srcY.val).flatMap fun a => (mayLie fu x y).map (gap a)).foldl max 0
    2 * (far - gap g.flit.srcX.val x)
  match g.spot with
  | .port x y _ => pad x y
  | .buffer x y _ _ => pad x y
  | .queue => 0

/-- R316, R428: the network cycle from which an endpoint may take a flit. -/
def readyAt (fu : Fuses) (n : Net) (g : Flight) : Nat := g.since + (if n.floor then floorPadding fu g else 0)

/-- Whether no flit moves, in this network cycle or any later one, until an endpoint takes one. -/
def isQuiet (fu : Fuses) (n : Net) : Bool :=
  n.credits.isEmpty && n.flits.all (fun g => readyAt fu n g ≤ n.cycle) && (n.flits.zipIdx.filter (isCandidate fu n)).isEmpty

/-- Network cycles until a condition holds, at most `k`. -/
def netUntil (fu : Fuses) (done : Net → Bool) : Nat → Net → Net
  | 0, n => n
  | k + 1, n => if done n then n else netUntil fu done k (netCycle fu n)

/-- R315: a flit as it arrives may have gained urgency on its way, so flits are compared without it. -/
def sameFlit (a b : Flit) : Bool := { a with urgency := 0 } = { b with urgency := 0 }

/-- R312: whether a flight is of the stream of a class from `src` to `dst`. -/
def sameStream (f g : Flit) : Bool := f.cls = g.cls && flitSrc f = flitSrc g && flitDst f = flitDst g

/-- R314: whether a flight has reached its destination node, where its endpoint can take it: in the local-port queue, or, of class
REQ or WR, in a buffer there. -/
def atDestination (g : Flight) : Bool :=
  match g.spot with
  | .port _ _ _ => true
  | .buffer x y _ _ => !g.flit.mcast && (g.flit.cls = clsReq || g.flit.cls = clsWr) && (x, y) = (g.flit.dstX.val, g.flit.dstY.val)
  | .queue => false

/-- R312: the place among the flits of flit `f` where its endpoint can take it, for receiver `c` of a multicast flit: none of its
stream stands before it, and none in its buffer. -/
def standing (fu : Fuses) (n : Net) (f : Flit) (c : Option Nat) : Option Nat :=
  let ahead (e h : Flight × Nat) : Bool :=
    h.2 < e.2 && (match e.1.spot with | .port _ _ _ => h.1.spot = e.1.spot && sameStream h.1.flit e.1.flit | _ => sameLane h.1 e.1)
  (n.flits.zipIdx.find? fun e =>
    sameFlit e.1.flit f && atDestination e.1 && readyAt fu n e.1 ≤ n.cycle && f.mcast = c.isSome && (match c with | some k => e.1.left = [k] | none => true)
      && !(n.flits.zipIdx.any (ahead e))).map (·.2)

/-- The network after the cycles that bring a flit to its endpoint, where nothing holds it up; a hop is 2 cycles, and waiting at most
some thousand. DESIGN CHOICE (log entry 85). -/
def bringFlit (fu : Fuses) (n : Net) (f : Flit) (c : Option Nat) : Net :=
  netUntil fu (fun n => (standing fu n f c).isSome || !(n.flits.any fun g => sameFlit g.flit f) || isQuiet fu n) 4096 n

/-- A flit taken off the network where it stands. -/
def takeStanding (fu : Fuses) (n : Net) (f : Flit) (c : Option Nat) : Option Net :=
  let m := bringFlit fu n f c
  match standing fu m f c with
  | some i => some { m with flits := m.flits.eraseIdx i, credits := m.credits ++ ((m.flits[i]?).map (creditOf m)).getD [] }
  | none => none

/-- R312: a unicast flit taken off the network at its destination. -/
def takeFlit (fu : Fuses) (n : Net) (f : Flit) : Option Net := takeStanding fu n f none

/-- R312, R320: the copy of a multicast flit for core `c` taken off the network there. -/
def takeCopy (fu : Fuses) (n : Net) (f : Flit) (c : CoreId) : Option Net := takeStanding fu n f (some c.val)

/-- A request record by its tag. -/
def findRequest (n : Net) (id : Nat) : Option Request := n.requests.find? fun r => r.id = id

/-- A request record of a requester. -/
def requestOf (n : Net) (w : Requester) : Option Request := n.requests.find? fun r => r.who = w

def setRequest (n : Net) (id : Nat) (f : Request → Request) : Net :=
  { n with requests := replaceWhere (fun r => r.id = id) f n.requests }

def dropRequest (n : Net) (id : Nat) : Net := { n with requests := n.requests.filter fun r => r.id ≠ id }

/-! Stacked memory. -/

def getTower (s : Stacked) (t : Nat) : Tower := mapGet {} s.towers t

def setTower (s : Stacked) (t : Nat) (x : Tower) : Stacked := { s with towers := mapSet {} s.towers t x }

def getPc (s : Stacked) (t pc : Nat) : PseudoChannel := mapGet {} (getTower s t).pcs pc

def setPc (s : Stacked) (t pc : Nat) (x : PseudoChannel) : Stacked :=
  setTower s t { getTower s t with pcs := mapSet {} (getTower s t).pcs pc x }

/-- Bytes of a flit's payload that BYTE_EN names, merged over old bytes from place `i` (R336). -/
def mergeBytes (be : BitVec 128) : Nat → List Byte → List Byte → List Byte
  | _, [], _ => []
  | i, o :: os, p => (if be.getLsbD i then p.headD 0 else o) :: mergeBytes be (i + 1) os (p.drop 1)

/-- R336: whether the enables of half `h` cover it whole, and whether they cover none of it. -/
def halfEnables (be : BitVec 128) (h : Nat) : Bool × Bool :=
  let l := (List.range 64).map fun i => be.getLsbD (64 * h + i)
  (l.all id, !(l.any id))

/-- R321: the poison marks of the halves of a line in which `be` names a byte. -/
def touchedPoison (p : BitVec 2) (be : BitVec 128) : BitVec 2 :=
  p &&& ((if (halfEnables be 0).2 then 0 else 1) + (if (halfEnables be 1).2 then 0 else 2))

/-- R336, R338: a write to a line takes effect. A half written whole takes the mark of the write; one written in part keeps
its mark or gains the write's. -/
def stackApply (s : Stacked) (f : Flit) : Stacked :=
  let line := f.addr.toNat / 128 * 128
  let new := mergeBytes f.byteEn 0 (mapRead 0 s.bytes line 128) f.payload
  let mark (p : List (Nat × Bool)) (h : Nat) : List (Nat × Bool) :=
    let e := halfEnables f.byteEn h
    let k := line / 64 + h
    if e.2 then p
    else if e.1 then mapSet false p k (f.poison.getLsbD h)
    else mapSet false p k (mapGet false p k || f.poison.getLsbD h)
  { s with bytes := mapWrite 0 s.bytes line new, poison := mark (mark s.poison 0) 1 }

/-- R336: whether a write needs a read-modify-write. DEDUCED (log entry 48). -/
def needsRmw (f : Flit) : Bool :=
  let e0 := halfEnables f.byteEn 0
  let e1 := halfEnables f.byteEn 1
  !(e0.1 || e0.2) || !(e1.1 || e1.2)

/-- R309, R331: whether a request of a controller writes: WR, or MGT_WR. -/
def isWriteFlit (f : Flit) : Bool := f.opcode = 0x02 || f.opcode = 0x11

/-- The writes of a pseudo-channel that are accepted and not yet made, the oldest first. -/
def acceptedWrites (p : PseudoChannel) : List Flit := ((p.reading ++ p.queue).filter fun r => isWriteFlit r.flit).map (·.flit)

/-- Stacked memory as every write accepted so far leaves it: the accepted writes of the line's pseudo-channel applied (R241,
R332, R333). DEDUCED (log entry 48). -/
def settled (s : Stacked) (pa : Nat) : Stacked :=
  let q := placeOf pa
  (acceptedWrites (getPc s q.tower (2 * q.ctl + q.pc))).foldl (fun s f => if f.addr.toNat / 128 = pa / 128 then stackApply s f else s) s

/-- Bytes of stacked memory within one line, after every accepted write. DEDUCED (log entry 48). -/
def stackRead (s : Stacked) (pa n : Nat) : List Byte := mapRead 0 (settled s pa).bytes pa n

/-- R338: whether the half that holds a physical address stores poison. -/
def stackPoison (s : Stacked) (pa : Nat) : Bool := mapGet false (settled s pa).poison (pa / 64)

/-- A write made outside the queues (the translation block's entries, the debug unit): the queued writes of the line land
first. -/
def stackWrite (s : Stacked) (pa : Nat) (bytes : List Byte) (poison : Bool) : Stacked :=
  let q := placeOf pa
  let k := 2 * q.ctl + q.pc
  let s1 := settled s pa
  let pc := getPc s1 q.tower k
  let mine (r : SmRequest) : Bool := isWriteFlit r.flit && r.flit.addr.toNat / 128 = pa / 128
  let s2 := setPc s1 q.tower k { pc with queue := pc.queue.filter fun r => !mine r, reading := pc.reading.filter fun r => !mine r }
  stackApply s2 (mkFlit (0, 0, 0) (0, 0, 0) clsWr 0x02 0 pa (byteMask (pa % 128) bytes.length)
    (List.replicate (pa % 128) 0 ++ bytes) (if poison then 3 else 0) false)

/-! Translation of stacked-memory addresses. -/

/-- What a translation comes to (R233). -/
inductive Walk where
  | hit (pa : Nat) (leaf : TtLeaf)
  | miss
  | denial
deriving DecidableEq, Repr

/-- R299: TT_PHYS_BASE and TT_ENTRIES. -/
structure TtShape where
  base : Nat
  entries : Nat
deriving DecidableEq, Repr

def ttShape (s : State) : TtShape := { base := dictGet s keyTtPhysBase, entries := dictGet s keyTtEntries }

/-- R299: entry `i` of the table, 0 beyond its end. -/
def ttEntry (m : Stacked) (t : TtShape) (i : Nat) : Nat :=
  if t.entries ≤ i then 0 else leNat (stackRead m (t.base + 8 * i) 8)

/-- R299: whether a page overlaps the table, the reserved region or the end of physical memory. -/
def pageForbidden (t : TtShape) (pa size : Nat) : Bool :=
  stackedBytes < pa + size
    || (pa < t.base + 8 * t.entries && t.base < pa + size)
    || (pa ≤ 0x23FFFFFFFF && 0x23FF000000 < pa + size) || (pa ≤ 0x47FFFFFFFF && 0x47FF000000 < pa + size)

/-- R299: whether a present entry met at a level (1 to 3) is malformed. -/
def ttMalformed (t : TtShape) (level e : Nat) : Bool :=
  let kind := bits e 3 2
  let target := bits e 12 33
  let size := 2 ^ (39 - 9 * level)
  kind ≥ 2 || bits e 5 7 ≠ 0 || bits e 45 19 ≠ 0
    || (kind = 1 && (level = 3 || t.entries < target + 512))
    || (kind = 0 && (target ≥ 2 ^ 27 || (target * 4096) % size ≠ 0 || pageForbidden t (target * 4096) size))

/-- R299: a leaf entry that maps an address: the physical address, and the leaf with the entries its walk read. -/
def leafOf (va shift : Nat) (walked : List Nat) (e : Nat) : Walk :=
  let pa := bits e 12 27 * 4096
  .hit (pa + va % 2 ^ shift)
    { page := va / 2 ^ shift, sizeLog2 := shift, walked := walked, target := pa, writable := bit e 1, noPrefetch := bit e 2 }

/-- R299: the walk from entry `i` at a level, `n` levels left. -/
def ttWalk (m : Stacked) (t : TtShape) (va : Nat) : Nat → Nat → Nat → List Nat → Walk
  | 0, _, _, _ => .denial
  | n + 1, level, i, seen =>
    let e := ttEntry m t i
    let shift := 39 - 9 * level
    if stackPoison m (t.base + 8 * i) && decide (i < t.entries) then .denial
    else if e % 2 = 0 then .miss
    else if ttMalformed t level e then .denial
    else if bits e 3 2 = 1 then ttWalk m t va n (level + 1) (bits e 12 33 + bits va (shift - 9) 9) (seen ++ [i])
    else leafOf va shift (seen ++ [i]) e

/-- R592: the leaf of a cached translation, moved to the front. -/
def ttCached (cache : List TtLeaf) (va : Nat) : Option (TtLeaf × List TtLeaf) :=
  (takeFirst (fun l => va / 2 ^ l.sizeLog2 = l.page) cache).map fun r => (r.1, r.1 :: r.2)

/-- R233, R592: a translation, from the cache or by a walk; the cache after it. An address beyond 39 bits misses. -/
def translate (s : State) (va : Nat) : Walk × List TtLeaf :=
  if 2 ^ 39 ≤ va then (.miss, s.queues.ttCache)
  else
    match ttCached s.queues.ttCache va with
    | some (l, cache) => (.hit (l.target + va % 2 ^ l.sizeLog2) l, cache)
    | none =>
      match ttWalk s.stacked (ttShape s) va 3 1 (bits va 30 9) [] with
      | .hit pa l => (.hit pa l, (l :: s.queues.ttCache).take 8192)
      | w => (w, s.queues.ttCache)

/-- R299: whether an entry write is refused. -/
def ttRefused (t : TtShape) (i e : Nat) : Bool :=
  t.entries ≤ i || bits e 5 7 ≠ 0 || bits e 45 19 ≠ 0
    || (e % 2 = 1 && (bits e 3 2 ≥ 2
      || (bits e 3 2 = 0 && (bits e 12 33 ≥ 2 ^ 27 || pageForbidden t (bits e 12 33 * 4096) 4096))
      || (bits e 3 2 = 1 && (bits e 12 33 % 512 ≠ 0 || t.entries < bits e 12 33 + 512))))

/-- R299: an accepted entry written, and every cached translation whose walk read the entry dropped. -/
def ttWrite (s : State) (i e : Nat) : State :=
  let t := ttShape s
  { s with
    stacked := stackWrite s.stacked (t.base + 8 * i) (natBytes 8 e) false
    queues := { s.queues with ttCache := s.queues.ttCache.filter fun l => !l.walked.contains i } }

end Sys2Proof.Machine
end

