-- ==== Sys2Proof/Machine/FabricOps.lean ====
section
/-! DEFINITION. The fabric's geometry (R432 to R434), its configuration cells (R481 to R484), the pins and their banks (R450 to
R453), block RAM words (R444, R446), isolation (R493), and how a region starts (R437, R475, R496). -/

namespace Sys2Proof.Machine

/-- A binary32 of a number of thousandths, rounded once. -/
def f32Milli (m : Nat) : Nat := fp32Code (numDiv (.fin false m 0) (.fin false 1000 0))

/-- The region of a border port (R434). -/
def portRegion (p : Nat) : Nat := 16 * (p / 8) + 4 * (p % 8 / 2) + 3

/-- The border ports of a region (R434). -/
def regionPorts (r : Nat) : List Nat := (List.range 32).filter fun p => portRegion p = r

/-- The region of a user pin (R434). -/
def pinRegion (n : Nat) : Nat := 16 * (n / 80) + 4 * (n % 80 / 20)

/-- The user pins of a region (R434): 20, or none. -/
def regionPins (r : Nat) : List Nat := if r % 4 = 0 then (List.range 20).map fun k => 80 * (r / 16) + 20 * (r % 16 / 4) + k else []

def getRegion (s : State) (r : Nat) : Region := mapGet {} s.fabric.regions r

def modRegion (s : State) (r : Nat) (f : Region → Region) : State :=
  { s with fabric := { s.fabric with regions := mapMod {} s.fabric.regions r f } }

/-- REGION_STATE codes (R501). -/
def regionCode : RegionCode → Nat
  | .blank => 0 | .draining => 1 | .loading => 2 | .scrubbing => 3 | .running => 4 | .incomplete => 5 | .resetting => 6

/-- R324, R493: whether a border port's region is isolated. -/
def portIsolated (s : State) (p : Nat) : Bool := (getRegion s (portRegion p)).isolated

/-- R491: whether a border port's region drains. -/
def portDraining (s : State) (p : Nat) : Bool := (getRegion s (portRegion p)).code = .draining

/-- R448, R493: whether a region's spine clocks run. DEDUCED (log entry 59). -/
def regionClocked (s : State) (r : Nat) : Bool :=
  let x := getRegion s r
  !x.isolated && (x.code = .running || x.code = .draining) && s.power.mode = .on && !s.power.off.getLsbD (8 + r / 16)

/-- The place of a region's frame in a full image (R481). -/
def framePlace (r f : Nat) : Nat := 5120 + 4608 * r + f

/-- The data bytes that configuration cells hold; a blank frame holds zeros (R492). -/
def cellBytes (s : State) (place : Nat) : List Byte :=
  match mapGet [] s.fabric.cells place with
  | [] => List.replicate 512 0
  | l => l

/-- A field of the region control frame (R483). -/
def controlField (s : State) (r lo n : Nat) : Nat := bits (leNat (cellBytes s (framePlace r 4596))) lo n

/-- The logic frames of a region, 0 to 3,671 (R482). -/
def logicFrames (s : State) (r : Nat) : List (List Byte) := (List.range 3672).map fun f => mapGet [] s.fabric.cells (framePlace r f)

/-- The frames of the fabric PLLs and the global clock sources (R482). -/
def clockFrames (s : State) : List (List Byte) := (List.range 16).map fun f => mapGet [] s.fabric.cells (256 + f)

/-- R449: GCLK_TICK_LOCKED. -/
def gclkTickLocked (s : State) : Nat := if dictGet s keyFpllLocked = 0 then 0 else Config.tickLocked (clockFrames s) % 2 ^ 32

/-- R322, R449, R483: whether the BP_CLK of a border port is tick-locked: the global clock of its spine slot is. -/
def portTickLocked (s : State) (p : Nat) : Bool :=
  let r := portRegion p
  let slot := Config.portClock (logicFrames s r) (p % 2) % 12
  (gclkTickLocked s).testBit (controlField s r (8 + 5 * slot) 5)

/-- R484: the isolation code of a crossing. -/
def crossingCode (s : State) (r n : Nat) : Nat :=
  bits ((cellBytes s (4 * r + n / 2048)).getD (n % 2048 / 4) 0).toNat (2 * (n % 4)) 2

/-- R493: the value outside a region of a crossing while the region is isolated. -/
def crossingValue (s : State) (r n : Nat) : Bool :=
  match crossingCode s r n with
  | 1 => false
  | 2 => true
  | _ => (getRegion s r).started && (getRegion s r).held.contains n

/-- The I/O word of a user pin (R451, R483). -/
def pinWord (s : State) (n : Nat) : Nat :=
  bits (leNat (cellBytes s (framePlace (pinRegion n) 4597))) (32 * (n % 20)) 32

/-- R453: the level code that a bank's supply lies within 5% of, 0 for none. -/
def vccoLevel (milli : Nat) : Nat :=
  if 1140 ≤ milli ∧ milli ≤ 1260 then 1 else if 1425 ≤ milli ∧ milli ≤ 1575 then 2 else if 1710 ≤ milli ∧ milli ≤ 1890 then 3 else 0

/-- The bank of a pin: user pins 0 to 319, probe pins 320 to 351 (R450). -/
def pinBank (n : Nat) : Nat := n / 40

/-- R451, R454: the level a pin's design expects, 0 for an unused pin. A probe pin is in use while PROBE_PINS_EN is 1, and takes
the level of its bank. -/
def pinLevel (s : State) (n : Nat) : Nat :=
  if n < 320 then bits (pinWord s n) 0 2
  else if dictGet s keyProbePinsEn = 1 then (if mapGet 0 s.fabric.bankLevel 8 = 0 then 4 else mapGet 0 s.fabric.bankLevel 8) else 0

/-- R453: the level of a bank set against the pins of a list: a used pin of another level is held high-Z and counted, the others
are freed; one ledger entry says how many are held. DEDUCED (log entry 62). -/
def checkPins (s : State) (bank : Nat) (reading : Nat) (pins : List Nat) : State :=
  let level := mapGet 0 s.fabric.bankLevel bank
  let bad := pins.filter fun n => pinLevel s n ≠ 0 && pinLevel s n ≠ level
  let fault := pins.foldl (fun m n => mapSet false m n (bad.contains n)) s.fabric.pinFault
  let s1 := { s with fabric := { s.fabric with pinFault := fault } }
  if bad.isEmpty then s1
  else logEntry (dictBump s1 keyPinLevelFaults bad.length) 2 0x5006 7 bank (packData [(32, reading), (8, bad.length)])

/-- R453: a bank's supply measured at a start: its level taken, and the pins of a list checked. -/
def measureBank (s : State) (bank milli : Nat) (pins : List Nat) : State :=
  let s1 := dictSet s (keyBankVcco0 + bank) (f32Milli milli)
  checkPins { s1 with fabric := { s1.fabric with bankLevel := mapSet 0 s1.fabric.bankLevel bank (vccoLevel milli) } } bank (f32Milli milli) pins

/-- What drives or holds a user pin (R451, R453, R488, R493). -/
inductive PinDrive where
  | design | held | pull (p : Nat) | highZ | boundary (high : Bool)
deriving DecidableEq, Repr

/-- R451: high-Z with the pull of a word's PULL field. -/
def pinPull (word : Nat) : PinDrive := if bits word 7 2 = 0 then .highZ else .pull (bits word 7 2)

/-- R488: the pull of a pin before the global start: up, or down while FIO_PULLDOWN_N was asserted. -/
def blankPull (s : State) : PinDrive := .pull (if s.straps.pulldown then 3 else 2)

/-- How a user pin stands (R453, R488, R492, R493, R509). -/
def pinDrive (s : State) (n : Nat) : PinDrive :=
  let x := getRegion s (pinRegion n)
  if s.power.off.getLsbD 12 ∨ s.power.mode = .off then .highZ
  else if s.security.extest then .boundary (s.security.boundary.getLsbD n)
  else if s.power.mode ≠ .on ∨ dictGet s keyFabricState ≠ 2 then blankPull s
  else if x.isolated then
    match x.pinsHeld with
    | none => blankPull s
    | some ws => if bit (ws.getD (n % 20) 0).toNat 11 then pinPull (ws.getD (n % 20) 0).toNat else .held
  else if mapGet false s.fabric.pinFault n then .highZ
  else if bits (pinWord s n) 0 2 = 0 then blankPull s
  else if bits (pinWord s n) 2 2 = 0 then pinPull (pinWord s n)
  else .design

/-- The lanes of 9 bits that the nine frames of a block RAM hold (R482). -/
def ramLanes (s : State) (r b : Nat) : List (Nat × BitVec 9) :=
  let cells := (List.range 9).map fun j => mapGet [] s.fabric.cells (framePlace r (3672 + 9 * b + j))
  if cells.all (·.isEmpty) then []
  else
    let all := leNat (cells.flatMap fun c => if c.isEmpty then List.replicate 512 0 else c)
    (List.range 4096).filterMap fun n => if bits all (9 * n) 9 = 0 then none else some (n, BitVec.ofNat 9 (bits all (9 * n) 9))

/-- The words that the frames of a signal engine's memory hold (R482): `n` frames from frame `f`. -/
def engineWords (s : State) (r f n : Nat) : List (Nat × U32) :=
  (List.range n).flatMap fun j =>
    match mapGet [] s.fabric.cells (framePlace r (f + j)) with
    | [] => []
    | c => (List.range 128).filterMap fun k =>
        let w := leNat ((c.drop (4 * k)).take 4)
        if w = 0 then none else some (128 * j + k, BitVec.ofNat 32 w)

def getSe (s : State) (e : Nat) : SigEngine := mapGet {} s.fabric.engines e

def setSe (s : State) (e : Nat) (x : SigEngine) : State := { s with fabric := { s.fabric with engines := mapSet {} s.fabric.engines e x } }

/-- R475: an engine as a region start or reset leaves it over memories: every register at its reset value, running from C
address 0 or halted with cause 3. -/
def engineBegin (x y c : List (Nat × U32)) (autostart : Bool) (old : SigEngine) : SigEngine :=
  { x := x, y := y, c := c, cause := if autostart then .running else .notStarted, rdata := old.rdata }

/-- The L16 segments of a region, below 2^20 (R441). DESIGN CHOICE (log entry 14). -/
def segmentTotal : Nat := min Config.segmentCount (2 ^ 20)

/-- R437, R441, R496: every flip-flop and segment register of a region at INIT. -/
def regionFlops (s : State) (r : Nat) : State :=
  let frames := logicFrames s r
  let flops := (List.range 30720).foldl (fun m c =>
    let x := Config.cellDesign frames c
    mapSet false (mapSet false m (61440 * r + 2 * c) x.first.init) (61440 * r + 2 * c + 1) x.second.init) s.fabric.flops
  let segs := (List.range segmentTotal).foldl (fun m n =>
    mapSet false m (2 ^ 20 * r + n) (Config.segmentDesign frames n).init) s.fabric.segs
  { s with fabric := { s.fabric with flops := flops, segs := segs } }

/-- R437, R475: the block RAMs and signal engines of a region as it starts: contents from the frames after a load, and kept
after a reset; latches and engine registers at their INIT and reset values. -/
def regionMemories (s : State) (r : Nat) (load : Bool) : State :=
  let auto := controlField s r 80 24
  let rams := (List.range 60).foldl (fun m b => mapMod {} m (60 * r + b) fun x =>
    { lanes := if load then ramLanes s r b else x.lanes
      latchA := Config.latchInit (logicFrames s r) (2 * b), latchB := Config.latchInit (logicFrames s r) (2 * b + 1) }) s.fabric.rams
  let engines := (List.range 24).foldl (fun m e => mapMod {} m (24 * r + e) fun x =>
    if load then engineBegin (engineWords s r (4212 + 16 * e) 4) (engineWords s r (4216 + 16 * e) 4) (engineWords s r (4220 + 16 * e) 8)
      (auto.testBit e) x
    else engineBegin x.x x.y x.c (auto.testBit e) x) s.fabric.engines
  { s with fabric := { s.fabric with rams := rams, engines := engines } }

/-- R496: a region starts: flip-flops, memories, latches and engines as R437 and R475 give, its isolation released. -/
def beginRegion (s : State) (r : Nat) (load : Bool) : State :=
  modRegion (regionMemories (regionFlops s r) r load) r fun x => { x with code := .running, isolated := false, started := true, pinsHeld := none }

/-- R492: a region blank: its cells, block RAMs and flip-flops 0, its engines halted with cause 3. -/
def blankRegion (s : State) (r : Nat) : State :=
  { s with fabric := { s.fabric with
      cells := s.fabric.cells.filter fun c => !(framePlace r 0 ≤ c.1 && c.1 < framePlace r 4608)
      rams := s.fabric.rams.filter fun x => x.1 / 60 ≠ r
      flops := s.fabric.flops.filter fun x => x.1 / 61440 ≠ r
      segs := s.fabric.segs.filter fun x => x.1 / 2 ^ 20 ≠ r
      keepers := s.fabric.keepers.filter fun x => x.1 / 64 ≠ r
      engines := s.fabric.engines.filter fun x => x.1 / 24 ≠ r } }

end Sys2Proof.Machine
end

