-- ==== Sys2Proof/Machine/Engine.lean ====
section
/-! DEFINITION. The matrix engines: descriptors, checks at posting, issue, injection, drain, output, seeds and dummy slices
(R138 to R165). -/

namespace Sys2Proof.Machine

/-- The fields of an MMA or convolution descriptor (R141, R144). -/
structure EngineDesc where
  conv : Bool
  aFmt : Nat
  bFmt : Nat
  outFmt : Nat
  ieee : Bool
  rowEn : Bool
  colEn : Bool
  seedEn : Bool
  k : Nat
  tag : Nat
  aAddr : Nat
  aPitch : Nat
  bAddr : Nat
  bPitch : Nat
  outAddr : Nat
  outPitch : Nat
  rowAddr : Nat
  colAddr : Nat
  scale : Nat
  anchorAddr : Nat
  seedAddr : Nat
  cIn : Nat
  rowPitch64 : Nat
  iyBase : Nat
  ih : Nat
  iw : Nat
  kh : Nat
  kw : Nat
  sh : Nat
  sw : Nat
  dh : Nat
  dw : Nat
  pt : Nat
  pb : Nat
  pl : Nat
  pr : Nat
  p0 : Nat
deriving DecidableEq, Repr

/-- R141, R144: the fields as the descriptor's bits give them. For a convolution K is KH × KW × C_IN. -/
def engineDesc (d : BitVec 512) : EngineDesc :=
  let f := fld d
  let conv := f 0 8 = 2
  { conv := conv, aFmt := f 8 4, bFmt := f 12 4, outFmt := f 16 4, ieee := f 20 1 = 1, rowEn := f 21 1 = 1, colEn := f 22 1 = 1
    seedEn := f 23 1 = 1, k := if conv then f 440 4 * f 444 4 * f 32 16 else f 32 16, tag := f 48 16
    aAddr := f 64 32, aPitch := f 96 32, bAddr := f 128 32, bPitch := f 160 32, outAddr := f 192 32, outPitch := f 224 32
    rowAddr := f 256 32, colAddr := f 288 32, scale := f 320 32, anchorAddr := f 352 32, seedAddr := f 384 32
    cIn := f 32 16, rowPitch64 := f 96 16, iyBase := f 112 12, ih := f 416 12, iw := f 428 12, kh := f 440 4, kw := f 444 4
    sh := f 448 3 + 1, sw := f 451 3 + 1, dh := f 454 3 + 1, dw := f 457 3 + 1, pt := f 460 3, pb := f 463 3, pl := f 466 3
    pr := f 469 3, p0 := f 480 24 }

/-- Bytes of `n` elements of a format code. -/
def elemBytes (code n : Nat) : Nat :=
  match fmtOfCode code with
  | some f => (n * fmtBits f + 7) / 8
  | none => 0

/-- The pair code of the descriptor's operand formats (R114). -/
def descPair (d : EngineDesc) : Option Nat :=
  match fmtOfCode d.aFmt, fmtOfCode d.bFmt with
  | some a, some b => pairOf a b
  | _, _ => none

/-- R143: the dividends of the output plane's size. -/
def convDividends (d : EngineDesc) : Int × Int :=
  ((d.ih + d.pt + d.pb : Nat) - (d.dh * (d.kh - 1) + 1 : Nat), (d.iw + d.pl + d.pr : Nat) - (d.dw * (d.kw - 1) + 1 : Nat))

/-- R143: OH and OW. -/
def convPlane (d : EngineDesc) : Nat × Nat :=
  ((convDividends d).1.toNat / d.sh + 1, (convDividends d).2.toNat / d.sw + 1)

/-- R146: the band's first and last input row. -/
def bandRows (d : EngineDesc) : Int × Int :=
  let ow := (convPlane d).2
  let last := min (d.p0 + 63) ((convPlane d).1 * ow - 1)
  (max 0 ((d.p0 / ow * d.sh : Nat) - (d.pt : Int)),
   min ((d.ih : Int) - 1) ((last / ow * d.sh + (d.kh - 1) * d.dh : Nat) - (d.pt : Int)))

/-- R146: the band as a range; an empty band has no rows. -/
def bandRange (d : EngineDesc) : Range :=
  let b := bandRows d
  { base := (d.aAddr + (b.1 - d.iyBase) * 64 * d.rowPitch64 : Int).toNat, rowBytes := elemBytes d.aFmt (d.iw * d.cIn)
    pitch := 64 * d.rowPitch64, rows := (b.2 - b.1 + 1).toNat }

/-- The A operand of an instruction: the block, or the band (R140, R146). In a convolution A_ADDR and A_PITCH stand for
IN_ADDR and IN_ROW_PITCH. -/
def aRange (d : EngineDesc) : Range :=
  if d.conv then bandRange d
  else { base := d.aAddr, rowBytes := elemBytes d.aFmt d.k, pitch := d.aPitch, rows := 64 }

def bRange (d : EngineDesc) : Range :=
  { base := d.bAddr, rowBytes := elemBytes d.bFmt d.k, pitch := d.bPitch, rows := 64 }

def vectorRange (a : Nat) : Range := { base := a, rowBytes := 256, pitch := 0, rows := 1 }

def anchorRange (a : Nat) : Range := { base := a, rowBytes := 16, pitch := 0, rows := 1 }

/-- R125: a WIDE tile. -/
def wideRange (a : Nat) : Range := { base := a, rowBytes := 65600, pitch := 0, rows := 1 }

def outRange (d : EngineDesc) : Range :=
  if d.outFmt = 8 then wideRange d.outAddr
  else { base := d.outAddr, rowBytes := elemBytes d.outFmt 64, pitch := d.outPitch, rows := 64 }

/-- The enabled auxiliary ranges of an instruction, without the seed (R148, R150). -/
def auxRanges (d : EngineDesc) : List (Part × Range) :=
  (if d.rowEn then [(.rowScale, vectorRange d.rowAddr)] else [])
    ++ (if d.colEn then [(.colScale, vectorRange d.colAddr)] else [])

def anchorRanges (d : EngineDesc) : List Range :=
  if descPair d = some 11 then [anchorRange d.anchorAddr] else []

def seedRanges (d : EngineDesc) : List Range := if d.seedEn then [wideRange d.seedAddr] else []

/-- The operand ranges held from the issue, with their parts (R151). An empty band is not held (R146). -/
def heldRanges (d : EngineDesc) : List (Part × Range) :=
  (if (aRange d).rows = 0 then [] else [(.a, aRange d)]) ++ (.b, bRange d) :: auxRanges d

/-- Every range the instruction reads (R148). -/
def inputRanges (d : EngineDesc) : List Range :=
  [aRange d, bRange d] ++ (auxRanges d).map (·.2) ++ anchorRanges d ++ seedRanges d

/-- R148: the first check at posting that fails, or 0. -/
def checkEngine (desc : BitVec 512) : Nat :=
  let d := engineDesc desc
  let f := fld desc
  let op := f 0 8
  let rsv := f 24 8 ≠ 0 ∨ (if d.conv then f 124 4 ≠ 0 ∨ f 472 8 ≠ 0 ∨ f 504 8 ≠ 0 else f 416 96 ≠ 0)
  let operand (c : Nat) : Bool := match fmtOfCode c with | some x => fmtMmaOperand x | none => false
  let band := bandRows d
  let bandEmpty := d.conv ∧ band.2 < band.1
  if (op ≠ 1 ∧ op ≠ 2) ∨ rsv then 0x01
  else if ¬ operand d.aFmt ∨ ¬ operand d.bFmt ∨ d.outFmt > 8 then 0x02
  else
    match descPair d with
    | none => 0x03
    | some pair =>
      let kField := f 32 16
      if kField = 0 ∨ kField % 16 ≠ 0 ∨ d.k > pairKmax pair then 0x04
      else if d.conv ∧ (d.ih = 0 ∨ d.iw = 0 ∨ d.kh = 0 ∨ d.kw = 0 ∨ (convDividends d).1 < 0 ∨ (convDividends d).2 < 0
          ∨ (convPlane d).1 * (convPlane d).2 ≤ d.p0) then 0x05
      else if d.aAddr % 64 ≠ 0 ∨ (¬ d.conv ∧ d.aPitch % 64 ≠ 0) ∨ d.bAddr % 64 ≠ 0 ∨ d.bPitch % 64 ≠ 0 ∨ d.outAddr % 64 ≠ 0
          ∨ (d.outFmt ≠ 8 ∧ d.outPitch % 64 ≠ 0) ∨ (d.rowEn ∧ d.rowAddr % 4 ≠ 0) ∨ (d.colEn ∧ d.colAddr % 4 ≠ 0)
          ∨ (pair = 11 ∧ d.anchorAddr % 16 ≠ 0) ∨ (d.seedEn ∧ d.seedAddr % 64 ≠ 0) then 0x06
      else if (¬ d.conv ∧ d.aPitch < elemBytes d.aFmt d.k) ∨ d.bPitch < elemBytes d.bFmt d.k
          ∨ (d.outFmt ≠ 8 ∧ d.outPitch < elemBytes d.outFmt 64)
          ∨ (d.conv ∧ (aRange d).rows ≠ 1 ∧ 64 * d.rowPitch64 < elemBytes d.aFmt (d.iw * d.cIn))
          ∨ (d.conv ∧ d.ih ≤ d.iyBase) ∨ (d.conv ∧ ¬ bandEmpty ∧ band.1 < d.iyBase)
          ∨ ¬ rangeInside (outRange d) ∨ ¬ (inputRanges d).all rangeInside then 0x07
      else if d.outFmt = 8 ∧ (d.rowEn ∨ d.colEn ∨ d.scale ≠ 0x3F800000) then 0x08
      else if (inputRanges d).any (rangesOverlap (outRange d)) then 0x09
      else 0

/-- R82: the elements of a row of bytes. -/
def decodeRow (f : Fmt) (bytes : List Byte) : List Num :=
  match fmtBits f with
  | 4 => bytes.flatMap fun b => [decodeFmt f (b.toNat % 16), decodeFmt f (b.toNat / 16)]
  | 16 => pairs bytes
  | 32 => quads bytes
  | _ => bytes.map fun b => decodeFmt f b.toNat
where
  pairs : List Byte → List Num
    | a :: b :: t => decodeFmt f (leNat [a, b]) :: pairs t
    | _ => []
  quads : List Byte → List Num
    | a :: b :: c :: d :: t => decodeFmt f (leNat [a, b, c, d]) :: quads t
    | _ => []

/-- R82: codes of a row packed into bytes; an odd 4-bit row ends in a pad nibble of 0 (R83). -/
def packRow (f : Fmt) (codes : List Nat) : List Byte :=
  match fmtBits f with
  | 4 => nibbles codes
  | w => codes.flatMap (natBytes (w / 8))
where
  nibbles : List Nat → List Byte
    | a :: b :: t => BitVec.ofNat 8 (a % 16 + 16 * (b % 16)) :: nibbles t
    | [a] => [BitVec.ofNat 8 (a % 16)]
    | [] => []

/-- One element of a format at a byte address and an element place after it. -/
def elemAt (m : CoreMem) (f : Fmt) (base place : Nat) : Num :=
  match fmtBits f with
  | 4 =>
    let b := (coreByte m (base + place / 2)).toNat
    decodeFmt f (if place % 2 = 0 then b % 16 else b / 16)
  | w => decodeFmt f (leNat (coreRead m (base + place * (w / 8)) (w / 8)))

/-- How many rows of the tile are not masked (R143: a masked row's position lies past the output plane). -/
def liveRows (d : EngineDesc) : Nat :=
  if d.conv then min 64 ((convPlane d).1 * (convPlane d).2 - d.p0) else 64

/-- R145: the pixel that output row i and kernel place (ky, kx) read: the address of its input row and its column, or none
where the row is masked or the place is zero fill. -/
def convPixel (d : EngineDesc) (i ky kx : Nat) : Option (Nat × Nat) :=
  let plane := convPlane d
  let p := d.p0 + i
  let iy : Int := (p / plane.2 * d.sh + ky * d.dh : Nat) - (d.pt : Int)
  let ix : Int := (p % plane.2 * d.sw + kx * d.dw : Nat) - (d.pl : Int)
  if plane.1 * plane.2 ≤ p ∨ iy < 0 ∨ (d.ih : Int) ≤ iy ∨ ix < 0 ∨ (d.iw : Int) ≤ ix then none
  else some ((d.aAddr + (iy - d.iyBase) * 64 * d.rowPitch64 : Int).toNat, ix.toNat)

/-- R145: element (i, k) of the implicit A. -/
def convElement (m : CoreMem) (d : EngineDesc) (f : Fmt) (i k : Nat) : Num :=
  match convPixel d i (k / (d.cIn * d.kw)) (k / d.cIn % d.kw) with
  | none => .fin false 0 0
  | some (row, x) => elemAt m f row (x * d.cIn + k % d.cIn)

/-- R161: the bytes of the A operand that enter the array: the block, or the pixels the tile reads of its band. -/
def aBytes (d : EngineDesc) : List Range :=
  if d.conv then
    (List.range (liveRows d)).flatMap fun i => (List.range d.kh).flatMap fun ky => (List.range d.kw).filterMap fun kx =>
      (convPixel d i ky kx).map fun q =>
        { base := q.1 + elemBytes d.aFmt (q.2 * d.cIn), rowBytes := elemBytes d.aFmt d.cIn, pitch := 0, rows := 1 }
  else [aRange d]

/-- Row i of A over K (R140, R145). A masked row brings no product, whatever B holds: its window is zero or the seed's
element (R143). -/
def aRow (m : CoreMem) (d : EngineDesc) (f : Fmt) (i : Nat) : List Num :=
  if liveRows d ≤ i then []
  else if d.conv then (List.range d.k).map (convElement m d f i)
  else decodeRow f (coreRead m (d.aAddr + i * d.aPitch) (elemBytes d.aFmt d.k))

/-- Column j of B over K (R140). -/
def bColumn (m : CoreMem) (d : EngineDesc) (f : Fmt) (j : Nat) : List Num :=
  decodeRow f (coreRead m (d.bAddr + j * d.bPitch) (elemBytes d.bFmt d.k))

/-- What a tile's accumulation gives: its windows that are not the zero window, and its counts (R113, R122). -/
structure TileResult where
  windows : List (Nat × Window)
  trunc : Nat
  overflows : Nat
deriving DecidableEq, Repr

/-- R140: the windows of a tile from the operands and the seed. DEDUCED (log entry 17). -/
def tileWindows (L : Int) (seed : List (Nat × Window)) (rows cols : List (List Num)) : TileResult :=
  let one (i : Nat) (a : List Num) (j : Nat) (b : List Num) : Nat × AccStep :=
    (64 * i + j, accProducts L { win := mapGet {} seed (64 * i + j) } a b)
  let all := (rows.zipIdx.flatMap fun a => cols.zipIdx.map fun b => one a.2 a.1 b.2 b.1)
  { windows := (all.map fun x => (x.1, x.2.win)).filter fun x => x.2 ≠ {}
    trunc := (all.map fun x => x.2.trunc).sum
    overflows := (all.filter fun x => x.2.overflow).length }

/-- R125: the windows of a WIDE tile in core memory that are not the zero window, and how many elements are malformed. -/
def wideTile (m : CoreMem) (a : Nat) : WideHeader × List (Nat × Window) × Nat :=
  let elems := (List.range 4096).map fun e => (e, wideDecode (leNat (coreRead m (a + 64 + 16 * e) 16)))
  (wideHeaderOf (coreRead m a 64), (elems.map fun x => (x.1, x.2.1)).filter (fun x => x.2 ≠ {}),
    (elems.filter fun x => x.2.2).length)

/-- R156: the output tile's size. -/
def tileSize (outFmt : Nat) : Nat := if outFmt = 8 then 65600 else elemBytes outFmt 4096

/-- The scale vector at an address, or 1.0 in every entry (R102). -/
def scaleVector (m : CoreMem) (en : Bool) (a : Nat) : List Nat :=
  if en then (List.range 64).map fun i => leNat (coreRead m (a + 4 * i) 4) else List.replicate 64 0x3F800000

/-- The counts of a batch of conversions as events (R110). DEDUCED (log entry 20). -/
def convNotes (a : EvAttr) (cs : List Conv) : List Note :=
  [ .event 0x20 a (cs.filter (·.underflow)).length, .event 0x21 a (cs.filter (·.overflow)).length
  , .event 0x22 a (cs.filter (·.nanToZero)).length ]

/-- Attributes of an event of a posted descriptor at a unit (R548). -/
def postAttr (p : Posted) (unit : Nat) : EvAttr := { unit := unit, machine := some p.machine, master := some p.thread.val }

/-- R133: one row of a tile converted. -/
def convertRow (L : Int) (windows : List (Nat × Window)) (i row : Nat) (cols : List Nat) (tensor : Nat) (f : Fmt)
    (ieee : Bool) : List Conv :=
  cols.zipIdx.map fun c => convertWindow L (mapGet {} windows (64 * i + c.2)) row c.1 tensor f ieee

/-- R125, R126: header and elements of a WIDE output. -/
def wideOutput (d : EngineDesc) (j : EngineJob) : List Byte :=
  let sh := j.seedHeader.getD {}
  let pair := (descPair d).getD 0
  let partials := sat32 (1 + (if j.seedHeader.isSome then sh.partials else 0))
  let h : WideHeader :=
    { pair := pair, anchor := j.anchor, partials := partials
      trunc := sat32 (j.trunc + (if j.seedHeader.isSome then sh.trunc else 0))
      special := j.windows.any fun x => x.2.spec ≠ .none
      bound := j.overflow || decide (pairNmax pair < partials) || (j.seedHeader.isSome && sh.bound)
      realigned := j.seedHeader.isSome && sh.realigned }
  wideHeaderBytes h ++ (List.range 4096).flatMap fun e => natBytes 16 (wideEncode (mapGet {} j.windows e))

/-- R157: a WIDE tile in the order in which it leaves the output buffer: the 16,128 bytes that have left at 256 a cycle by the
last drain shift, then the rest. -/
def wideParts (a : Nat) (bytes : List Byte) : List (Nat × List Byte) := [(a, bytes.take 16128), (a + 16128, bytes.drop 16128)]

/-- R133, R153: what the converter writes for a job, in the order in which it leaves, row 63 first and the last row alone at the
end, with the counts of R110. DEDUCED (log entry 17). -/
def drainJob (m : CoreMem) (e : EngineId) (j : EngineJob) : List (Nat × List Byte) × List Note :=
  let d := engineDesc j.post.desc
  match fmtOfCode d.outFmt with
  | some .wide => (wideParts d.outAddr (wideOutput d j), [])
  | some f =>
    let rows := scaleVector m d.rowEn d.rowAddr
    let cols := scaleVector m d.colEn d.colAddr
    let conv := ((rows.take (liveRows d)).zipIdx).map fun r =>
      (r.2, convertRow j.anchor j.windows r.2 r.1 cols d.scale f d.ieee)
    (conv.reverse.map fun r => (d.outAddr + r.1 * d.outPitch, packRow f (r.2.map (·.code))),
      convNotes (postAttr j.post (1 + e.val)) (conv.flatMap (·.2)))
  | none => ([], [])

def getEngine (c : Core) (e : EngineId) : Engine := mapGet {} c.engines e.val

def setEngine (c : Core) (e : EngineId) (x : Engine) : Core := { c with engines := mapSet {} c.engines e.val x }

/-- R127: whether the engine's seed stage serves the descriptor: loaded where it asks for a seed. -/
def seedReady (x : Engine) (d : EngineDesc) : Bool :=
  !d.seedEn || (match x.seed with | .loaded .. => true | _ => false)

/-- R163: whether dummy operation lets an instruction issue: off, at a density above 0, or after the warm-up. -/
def dummyReady (window warmup : Nat) (x : Engine) : Bool :=
  window = 0 || warmup = 0 || x.dummy.density ≠ 0 || x.dummy.warmed

/-- R150: every condition of issue but those of time: operands and output range free, room, seed and plane, not halted, not
warming up, and enough holds (R177). -/
def mayIssue (window warmup : Nat) (c : Core) (e : EngineId) (d : EngineDesc) : Bool :=
  let x := getEngine c e
  let o := Owner.engine e x.serial
  (inputRanges d).all (mayRead c.mem o) && mayWrite c.mem o (outRange d)
    && decide (tileSize d.outFmt ≤ x.freeRoom)
    && !(x.jobs.any fun j => j.stage = .injecting)
    && seedReady x d && !x.halted && !x.dummy.warming && dummyReady window warmup x
    && holdsFree c.mem (1 + (heldRanges d).length + (anchorRanges d).length)

/-- R151, R152: the checks marked Issue, on the anchor record's ANCHOR and the seed's header. -/
def issueStatus (x : Engine) (pair : Nat) (anchor : Int) : Nat :=
  match x.seed with
  | .loaded h _ _ _ => if h.pair ≠ pair ∨ h.anchor ≠ anchor then 0x0A else if pair = 11 ∧ (anchor < -266 ∨ 174 < anchor) then 0x0B else 0
  | _ => if pair = 11 ∧ (anchor < -266 ∨ 174 < anchor) then 0x0B else 0

/-- R120: the anchor of an instruction: its pair's, or its anchor record's. -/
def instrAnchor (m : CoreMem) (d : EngineDesc) (pair : Nat) : Int :=
  if pair = 11 then signedOf 16 (leNat (coreRead m d.anchorAddr 2)) else pairAnchor pair

/-- R152: an engine records a status and halts; its seed stage is emptied, so that a retry loads the seed again.
DEDUCED (log entry 18). -/
def haltEngine (x : Engine) (status tag : Nat) : Engine :=
  { x with status := status, statusTag := tag, halted := true, haltDepth := x.queue.length + x.jobs.length, seed := .empty
           dummy := { x.dummy with warmed := false } }

/-- R150 to R152: the head of an engine's queue issues, with the operation code `op`; or nothing happens where a condition
fails. DEDUCED (log entry 17). ANCHOR_MISMATCH (R137) counts the instructions of that status, 0x0A: neither ANCHOR_RANGE nor a
post refused with BAD_PAIR counts. DESIGN CHOICE (log entry 89). -/
def issueEngine (window warmup density : Nat) (op : Nat) (c : Core) (e : EngineId) : Core × List Note :=
  let x := getEngine c e
  match x.queue with
  | [] => (c, [])
  | p :: rest =>
    let d := engineDesc p.desc
    match descPair d, fmtOfCode d.aFmt, fmtOfCode d.bFmt with
    | some pair, some fa, some fb =>
      if fld p.desc 0 8 = op ∧ mayIssue window warmup c e d then
        let anchor := instrAnchor c.mem d pair
        let status := issueStatus (if d.seedEn then x else { x with seed := .empty }) pair anchor
        if status ≠ 0 then
          (setEngine c e (haltEngine x status d.tag),
            unitHaltNotes e.val status d.tag 0 ++ (if status = 0x0A then [.event 0x26 (postAttr p (1 + e.val)) 1] else []))
        else
          let seed : Option WideHeader × List (Nat × Window) × Bool :=
            match d.seedEn, x.seed with
            | true, .loaded h w po _ => (some h, w, po)
            | _, _ => (none, [], false)
          let t := tileWindows anchor seed.2.1 ((List.range 64).map (aRow c.mem d fa)) ((List.range 64).map (bColumn c.mem d fb))
          let o := Owner.engine e x.serial
          let j : EngineJob :=
            { post := p, serial := x.serial, stage := .injecting, windows := t.windows, anchor := anchor, trunc := t.trunc
              overflow := t.overflows ≠ 0, seedHeader := seed.1
              poisoned := seed.2.2 || ((aBytes d ++ bRange d :: (auxRanges d).map (·.2) ++ anchorRanges d).any (rangePoison c.mem))
              room := tileSize d.outFmt, out := [] }
          let m := (heldRanges d).foldl (fun m r => beginRead m o r.1 r.2) c.mem
          let c' := coreBeginWrite { c with mem := m } o .out (outRange d)
          let x' := { x with queue := rest, jobs := x.jobs ++ [j], serial := x.serial + 1, freeRoom := x.freeRoom - tileSize d.outFmt
                             seed := if d.seedEn then .empty else x.seed, dummy := { density := density } }
          (setEngine c' e x', [.event 0x23 (postAttr p (1 + e.val)) t.trunc, .event 0x24 (postAttr p (1 + e.val)) t.overflows])
      else (c, [])
    | _, _, _ => (c, [])

/-- The first job in a stage, changed by `f`. -/
def stepJob (st : JobStage) (f : EngineJob → EngineJob) : List EngineJob → List EngineJob
  | [] => []
  | j :: t => if j.stage = st then f j :: t else j :: stepJob st f t

/-- R151, R153: the last slice injected: A and B released, the windows in the shadow plane. -/
def injectEnd (c : Core) (e : EngineId) : Core × List Note :=
  let x := getEngine c e
  match x.jobs.find? fun j => j.stage = .injecting with
  | none => (c, [])
  | some j =>
    let o := Owner.engine e j.serial
    (setEngine { c with mem := releaseHold (releaseHold c.mem o .a) o .b } e
      { x with jobs := stepJob .injecting (fun j => { j with stage := .draining }) x.jobs }, [])

/-- R161: the rows of a poisoned tile, whole and in the order in which they leave, with the undefined bytes `junk`. -/
def junkRows (d : EngineDesc) (junk : Nat → Byte) : List (Nat × List Byte) :=
  let r := outRange d
  let row (i : Nat) : List Byte := (List.range r.rowBytes).map fun b => junk (i * r.rowBytes + b)
  if d.outFmt = 8 then wideParts r.base (row 0)
  else (List.range r.rows).reverse.map fun i => (r.base + i * r.pitch, row i)

/-- R156, R157: of the rows in the order in which they leave, those that have reached core memory by the last drain shift: all
but the last, or none while an earlier tile still leaves the buffer. Bank contention is timing. DEDUCED (log entry 17). -/
def reachedRows (jobs : List EngineJob) (rows : List (Nat × List Byte)) : List (Nat × List Byte) :=
  if jobs.any fun j => j.stage = .flushing then [] else rows.dropLast

/-- The bytes of rows. -/
def rowsLength (rows : List (Nat × List Byte)) : Nat := (rows.map (·.2.length)).sum

/-- R133, R153: the last drain shift: the tile converted into the output buffer, the scale holds released. The rows that have
reached core memory by now stand there, and their room is free again (R156, R162). -/
def drainEnd (c : Core) (e : EngineId) (junk : Nat → Byte) : Core × List Note :=
  let x := getEngine c e
  match x.jobs.find? fun j => j.stage = .draining with
  | none => (c, [])
  | some j =>
    let o := Owner.engine e j.serial
    let r := drainJob c.mem e j
    let rows := if j.poisoned then junkRows (engineDesc j.post.desc) junk else r.1
    let reached := reachedRows x.jobs rows
    let w := writeRows (releaseHold (releaseHold c.mem o .rowScale) o .colScale) reached j.poisoned
    let jobs := stepJob .draining (fun j => { j with stage := .flushing, windows := [], out := rows.drop reached.length
                                                     room := j.room - rowsLength reached }) x.jobs
    (setEngine { c with mem := w.1 } e { x with jobs := jobs, freeRoom := x.freeRoom + rowsLength reached },
      r.2 ++ [.event 0x32 (postAttr j.post (1 + e.val)) w.2])

/-- R161: a status recorded without a halt; a halted unit's status word stays (R213). -/
def recordStatus (halted : Bool) (old new : Nat × Nat) : Nat × Nat := if halted then old else new

/-- R556: the sample record of a descriptor that ends. -/
def unitSample (p : Posted) (unit status daddr tag : Nat) : List Note :=
  if p.tagged then
    [.sample { kind := 2, thread := p.thread.val, machine := p.machine, unit := unit, opclass := fld p.desc 0 8, tag := tag
               status := status, pc := p.pc, daddr := daddr }]
  else []

/-- R157, R161: the last output bytes reach core memory and the range is marked complete. -/
def outputMark (c : Core) (e : EngineId) : Core × List Note :=
  let x := getEngine c e
  match x.jobs with
  | j :: rest =>
    if j.stage = .flushing then
      let d := engineDesc j.post.desc
      let o := Owner.engine e j.serial
      let w := writeRows c.mem j.out j.poisoned
      let c' := coreEndWrite { c with mem := w.1 } o .out (outRange d)
      let st := if j.poisoned then recordStatus x.halted (x.status, x.statusTag) (0x0C, d.tag) else (x.status, x.statusTag)
      let x' := { x with jobs := rest, freeRoom := x.freeRoom + j.room, status := st.1, statusTag := st.2 }
      (setEngine c' e x',
        [.event 0x32 (postAttr j.post (1 + e.val)) w.2] ++ (if j.poisoned then unitPoisonNotes e.val d.tag else [])
          ++ unitSample j.post e.val (if j.poisoned then 0x0C else 0) d.outAddr d.tag)
    else (c, [])
  | [] => (c, [])

/-- How many free values `drainEnd` uses. -/
def drainJunk (c : Core) (e : EngineId) : Nat :=
  match (getEngine c e).jobs.find? fun j => j.stage = .draining with
  | some j => if j.poisoned then (outRange (engineDesc j.post.desc)).rows * (outRange (engineDesc j.post.desc)).rowBytes else 0
  | none => 0

/-- R154: the seed load of a seeded head starts; a halted engine loads none until its halt is cleared (DEDUCED from R152).
DEDUCED (log entry 18). -/
def seedStart (c : Core) (e : EngineId) : Core × List Note :=
  let x := getEngine c e
  match x.queue with
  | [] => (c, [])
  | p :: _ =>
    let d := engineDesc p.desc
    let r := wideRange d.seedAddr
    let o := Owner.engine e x.serial
    if d.seedEn ∧ ¬ x.halted ∧ x.seed = .empty ∧ mayRead c.mem o r ∧ holdsFree c.mem 1 then
      (setEngine { c with mem := beginRead c.mem o .seed r } e { x with seed := .loading }, [])
    else (c, [])

/-- R154: the seed load ends: the tile is in the seed stage and its hold released. -/
def seedEnd (c : Core) (e : EngineId) : Core × List Note :=
  let x := getEngine c e
  match x.queue, x.seed with
  | p :: _, .loading =>
    let d := engineDesc p.desc
    let t := wideTile c.mem d.seedAddr
    (setEngine { c with mem := releaseHold c.mem (.engine e x.serial) .seed } e
      { x with seed := .loaded t.1 t.2.1 (rangePoison c.mem (wideRange d.seedAddr)) t.2.2 },
      [.event 0x25 (postAttr p (1 + e.val)) t.2.2])
  | _, _ => (c, [])

/-- Whether the engine is in a gap: it injects nothing (R158). -/
def inGap (x : Engine) : Bool := !(x.jobs.any fun j => j.stage = .injecting)

/-- R163 rule 2: the gap passes DUMMY_WINDOW. -/
def dummyExpire (window : Nat) (x : Engine) : Engine :=
  if window ≠ 0 ∧ inGap x ∧ x.dummy.density ≠ 0 ∧ ¬ x.dummy.warming then { x with dummy := { x.dummy with past := true } } else x

/-- R163 rules 2 and 3: the density falls by one sixteenth; once it is 0, an earlier warm-up counts no more. -/
def dummyStep (x : Engine) : Engine :=
  if inGap x ∧ x.dummy.past then
    { x with dummy := { x.dummy with density := x.dummy.density - 1, warmed := x.dummy.warmed && decide (1 < x.dummy.density) } }
  else x

/-- R163 rule 4: an instruction is ready at density 0 and the warm-up starts. -/
def warmupBegin (window warmup : Nat) (c : Core) (e : EngineId) : Engine :=
  let x := getEngine c e
  match x.queue with
  | p :: _ =>
    if window ≠ 0 ∧ x.dummy.density = 0 ∧ ¬ x.dummy.warming ∧ ¬ x.dummy.warmed
        ∧ mayIssue 0 warmup c e (engineDesc p.desc) then { x with dummy := { x.dummy with warming := true } } else x
  | [] => x

/-- R163 rule 4: the warm-up ends at full density. -/
def warmupFinish (density : Nat) (x : Engine) : Engine :=
  if x.dummy.warming then { x with dummy := { density := density, past := false, warming := false, warmed := true } } else x

end Sys2Proof.Machine
end

