-- ==== Sys2Proof/Machine/Vector.lean ====
section
/-! DEFINITION. The vector unit: descriptor, checks at posting and at start, every operation's result, and the end of a
descriptor (R181 to R190). -/

namespace Sys2Proof.Machine

/-- The fields of a vector descriptor (R182). -/
structure VectorDesc where
  op : Nat
  srcFmt : Nat
  dstFmt : Nat
  ieee : Bool
  rowEn : Bool
  colEn : Bool
  rows : Nat
  tag : Nat
  n : Nat
  src1 : Nat
  pitch1 : Nat
  src2 : Nat
  pitch2 : Nat
  dst : Nat
  pitchD : Nat
  aux : Nat
  pitchA : Nat
  imm : Nat
  imm2 : Int
deriving DecidableEq, Repr

def vectorDesc (d : BitVec 512) : VectorDesc :=
  let f := fld d
  { op := f 0 8, srcFmt := f 8 4, dstFmt := f 12 4, ieee := f 16 1 = 1, rowEn := f 17 1 = 1, colEn := f 18 1 = 1
    rows := f 32 16, tag := f 48 16, n := f 64 32, src1 := f 96 32, pitch1 := f 128 32, src2 := f 160 32, pitch2 := f 192 32
    dst := f 224 32, pitchD := f 256 32, aux := f 288 32, pitchA := f 320 32, imm := f 352 32
    imm2 := signedOf 16 (f 384 16) }

/-- The operation codes of R183. -/
def vectorOps : List Nat :=
  [1, 2, 3, 4, 5, 6, 7, 8, 9, 10, 11, 12, 13, 14, 15, 16, 17, 0x20, 0x21, 0x22, 0x23, 0x30, 0x31, 0x40, 0x41, 0x42, 0x43]

/-- R183: operations on WIDE tiles. -/
def isWideOp (op : Nat) : Bool := 0x40 ≤ op && op ≤ 0x43

/-- R188: element-wise operations. -/
def isElementOp (op : Nat) : Bool := 1 ≤ op && op ≤ 0x11

/-- R183: reductions with one element per row. -/
def isRowOp (op : Nat) : Bool := 0x20 ≤ op && op ≤ 0x23

/-- R182, R183: the range of SRC1, where the operation reads one. -/
def src1Range (d : VectorDesc) : List Range :=
  if d.op = 0x11 then []
  else if isWideOp d.op then [{ base := d.src1, rowBytes := 65600, pitch := d.pitch1, rows := d.rows }]
  else [{ base := d.src1, rowBytes := elemBytes d.srcFmt d.n, pitch := d.pitch1, rows := d.rows }]

/-- R183: the range of SRC2. -/
def src2Range (d : VectorDesc) : List Range :=
  if d.op ∈ [1, 2, 3, 4, 5, 6, 0x0E, 0x0F, 0x31] then
    [{ base := d.src2, rowBytes := elemBytes d.srcFmt d.n, pitch := d.pitch2, rows := d.rows }]
  else if d.op = 0x40 then [{ base := d.src2, rowBytes := 65600, pitch := d.pitch2, rows := d.rows }]
  else if d.op = 0x43 ∧ d.rowEn then [vectorRange d.src2]
  else []

/-- R183, R184: the range of AUX. -/
def auxRange (d : VectorDesc) : List Range :=
  if d.op = 4 then [{ base := d.aux, rowBytes := elemBytes d.srcFmt d.n, pitch := d.pitchA, rows := d.rows }]
  else if d.op = 0x0D then [anchorRange d.aux]
  else if d.op = 0x0F then [{ base := d.aux, rowBytes := (d.n + 7) / 8, pitch := d.pitchA, rows := d.rows }]
  else if d.op = 0x43 ∧ d.colEn then [vectorRange d.aux]
  else []

/-- R183, R184: the range of DST. -/
def dstRange (d : VectorDesc) : Range :=
  if d.op = 0x0E then { base := d.dst, rowBytes := (d.n + 7) / 8, pitch := d.pitchD, rows := d.rows }
  else if isRowOp d.op then { base := d.dst, rowBytes := elemBytes d.dstFmt 1, pitch := d.pitchD, rows := d.rows }
  else if d.op = 0x30 ∨ d.op = 0x31 then anchorRange d.dst
  else if d.op = 0x43 then { base := d.dst, rowBytes := elemBytes d.dstFmt 64, pitch := d.pitchD, rows := 64 * d.rows }
  else if isWideOp d.op then { base := d.dst, rowBytes := 65600, pitch := d.pitchD, rows := d.rows }
  else { base := d.dst, rowBytes := elemBytes d.dstFmt d.n, pitch := d.pitchD, rows := d.rows }

/-- R183: whether the formats are those of the operation. -/
def vectorFormatsOk (d : VectorDesc) : Bool :=
  let tgt := d.dstFmt ≤ 5
  let lane := d.srcFmt = 6 || d.srcFmt = 7
  if d.op = 0x0D || d.op = 0x30 then lane && tgt
  else if d.op = 0x0E then d.srcFmt ≤ 7
  else if d.op = 0x10 then d.srcFmt = d.dstFmt && d.srcFmt ≤ 8
  else if d.op = 0x11 then d.dstFmt ≤ 7
  else if d.op = 0x31 then d.srcFmt = 7
  else if d.op = 0x43 then d.srcFmt = 8 && d.dstFmt ≤ 7
  else if isWideOp d.op then d.srcFmt = 8 && d.dstFmt = 8
  else d.srcFmt ≤ 7 && d.dstFmt ≤ 7

/-- Element size in bytes for alignment; a 4-bit row starts on a byte (R182). -/
def alignBytes (code : Nat) : Nat := elemBytes code 1

/-- Base aligned, and the pitch too where there is more than one row (R174, R182). -/
def rangeAligned (r : Range) (a : Nat) : Bool := r.base % a = 0 && (r.rows = 1 || r.pitch % a = 0)

/-- R182: the alignment of every operand. -/
def vectorAligned (d : VectorDesc) : Bool :=
  let srcA := if isWideOp d.op then 64 else alignBytes d.srcFmt
  let auxA := if d.op = 0x0D then 16 else if d.op = 0x0F then 1 else if d.op = 0x43 then 4 else alignBytes d.srcFmt
  let src2A := if d.op = 0x43 then 4 else srcA
  let dstA := if d.op = 0x0E then 1 else if d.op = 0x30 || d.op = 0x31 then 16
    else if d.op = 0x43 then alignBytes d.dstFmt else if isWideOp d.op then 64 else alignBytes d.dstFmt
  (src1Range d).all (rangeAligned · srcA) && (src2Range d).all (rangeAligned · src2A)
    && (auxRange d).all (rangeAligned · auxA) && rangeAligned (dstRange d) dstA

/-- R182, R187: counts, pitches and ranges. -/
def vectorCountsOk (d : VectorDesc) : Bool :=
  let four (c : Nat) : Bool := c = 2 || c = 4
  let pitchOk (r : Range) : Bool := r.rows ≤ 1 || r.rowBytes ≤ r.pitch
  let rs := src1Range d ++ src2Range d ++ auxRange d ++ [dstRange d]
  1 ≤ d.rows && d.rows ≤ 4096
    && (if isWideOp d.op then d.n = 0 else 1 ≤ d.n && d.n ≤ 1048576)
    && (isWideOp d.op || d.n % 2 = 0
        || !((d.op ≠ 0x11 && four d.srcFmt) || (isElementOp d.op && d.op ≠ 0x0E && four d.dstFmt)))
    && (d.op ≠ 0x31 || (d.rows = 1 && d.n = 64))
    && (d.op ≠ 0x0E || (0 ≤ d.imm2 && d.imm2 ≤ 5))
    && rs.all pitchOk && rs.all rangeInside

/-- R188: whether two ranges are exactly the same: address, pitch where it counts, row count and element size. -/
def sameRange (a b : Range) : Bool :=
  a.base = b.base && a.rows = b.rows && a.rowBytes = b.rowBytes && (a.rows ≤ 1 || a.pitch = b.pitch)

/-- R188: whether DST overlaps a source or AUX where that is not allowed. -/
def vectorOverlap (d : VectorDesc) : Bool :=
  let dst := dstRange d
  let inPlace (r : Range) : Bool :=
    (isElementOp d.op || isWideOp d.op) && d.op ≠ 0x0E && sameRange r dst
      && (isWideOp d.op || (fmtOfCode d.srcFmt).map fmtBits = (fmtOfCode d.dstFmt).map fmtBits)
  (src1Range d ++ (if d.op = 0x43 then [] else src2Range d)).any (fun r => rangesOverlap r dst && !inPlace r)
    || (auxRange d ++ (if d.op = 0x43 then src2Range d else [])).any (rangesOverlap dst)

/-- R187: the first check at posting that fails, or 0. DEDUCED (log entry 21). -/
def checkVector (desc : BitVec 512) : Nat :=
  let d := vectorDesc desc
  if ¬ vectorOps.contains d.op ∨ fld desc 19 13 ≠ 0 ∨ fld desc 400 112 ≠ 0 then 0x01
  else if ¬ vectorFormatsOk d then 0x02
  else if ¬ vectorAligned d then 0x06
  else if ¬ vectorCountsOk d then 0x07
  else if vectorOverlap d then 0x09
  else 0

/-- What an operation gives: the rows it writes and its counts. -/
structure VectorResult where
  rows : List (Nat × List Byte)
  notes : List Note
deriving DecidableEq, Repr

/-- The elements of row `i` of an operand, widened (R91). -/
def operandRow (m : CoreMem) (code base pitch n i : Nat) : List Num :=
  match fmtOfCode code with
  | some f => (decodeRow f (coreRead m (base + i * pitch) (elemBytes code n))).take n
  | none => []

/-- The counts that any conversion raises (R110): overflows and NaN turned to zero. DEDUCED (log entry 20). -/
def plainNotes (a : EvAttr) (cs : List Conv) : List Note :=
  [.event 0x21 a (cs.filter (·.overflow)).length, .event 0x22 a (cs.filter (·.nanToZero)).length]

/-- Rows of converted elements packed at the destination's pitch. -/
def packedRows (d : VectorDesc) (rows : List (List Conv)) : List (Nat × List Byte) :=
  match fmtOfCode d.dstFmt with
  | some f => rows.zipIdx.map fun r => (d.dst + r.2 * d.pitchD, packRow f (r.1.map (·.code)))
  | none => []

/-- R183: an element-wise operation given as a function of the row's operands; each result rounded to binary32, then
converted to DST_FMT under SAT. -/
def elementwise (m : CoreMem) (d : VectorDesc) (a : EvAttr) (f : Num → Num → Num → Num) : VectorResult :=
  match fmtOfCode d.dstFmt with
  | none => { rows := [], notes := [] }
  | some df =>
    let zero (n : Nat) : List Num := List.replicate n (.fin false 0 0)
    let rows := (List.range d.rows).map fun i =>
      let x := if (src1Range d).isEmpty then zero d.n else operandRow m d.srcFmt d.src1 d.pitch1 d.n i
      let y := if (src2Range d).isEmpty then zero d.n else operandRow m d.srcFmt d.src2 d.pitch2 d.n i
      let z := if d.op = 4 then operandRow m d.srcFmt d.aux d.pitchA d.n i else zero d.n
      ((x.zip y).zip z).map fun t => convertFmt df d.ieee (fp32 (f t.1.1 t.1.2 t.2))
    { rows := packedRows d rows, notes := plainNotes a rows.flatten }

/-- R107: quantisation by the scale record at AUX. -/
def quantise (m : CoreMem) (d : VectorDesc) (a : EvAttr) : VectorResult :=
  match fmtOfCode d.dstFmt with
  | none => { rows := [], notes := [] }
  | some df =>
    let scale := fp32Num (leNat (coreRead m d.aux 4))
    let rows := (List.range d.rows).map fun i => (operandRow m d.srcFmt d.src1 d.pitch1 d.n i).map fun x =>
      let q := fp32 (numDiv x scale)
      let c := convertFmt df d.ieee q
      let finite := match x with | .fin _ k _ => k ≠ 0 | _ => false
      let zero := match decodeFmt df c.code with | .fin _ 0 _ => true | _ => false
      { c with underflow := finite && zero }
    { rows := packedRows d rows, notes := convNotes a rows.flatten }

/-- Bits packed into bytes, bit e mod 8 of byte e div 8 (R184). -/
def packMask (l : List Bool) : List Byte :=
  (List.range ((l.length + 7) / 8)).map fun k =>
    BitVec.ofNat 8 (((List.range 8).map fun i => if l.getD (8 * k + i) false then 2 ^ i else 0).sum)

/-- R184: a comparison mask. -/
def compareRows (m : CoreMem) (d : VectorDesc) : VectorResult :=
  { rows := (List.range d.rows).map fun i =>
      let x := operandRow m d.srcFmt d.src1 d.pitch1 d.n i
      let y := operandRow m d.srcFmt d.src2 d.pitch2 d.n i
      (d.dst + i * d.pitchD, packMask ((x.zip y).map fun t => numCmp d.imm2.toNat t.1 t.2))
    notes := [] }

/-- R184: selection by the mask at AUX. -/
def selectRows (m : CoreMem) (d : VectorDesc) (a : EvAttr) : VectorResult :=
  match fmtOfCode d.dstFmt with
  | none => { rows := [], notes := [] }
  | some df =>
    let rows := (List.range d.rows).map fun i =>
      let x := operandRow m d.srcFmt d.src1 d.pitch1 d.n i
      let y := operandRow m d.srcFmt d.src2 d.pitch2 d.n i
      (x.zip y).zipIdx.map fun t =>
        let b := (coreByte m (d.aux + i * d.pitchA + t.2 / 8)).getLsbD (t.2 % 8)
        convertFmt df d.ieee (if b then t.1.1 else t.1.2)
    { rows := packedRows d rows, notes := plainNotes a rows.flatten }

/-- R183: bytes copied unchanged. -/
def copyRows (m : CoreMem) (d : VectorDesc) : VectorResult :=
  { rows := (List.range d.rows).map fun i =>
      (d.dst + i * d.pitchD, coreRead m (d.src1 + i * d.pitch1) (elemBytes d.srcFmt d.n))
    notes := [] }

/-- R185: one addition of RSUM. -/
def fp32Add (a b : Num) : Num := fp32 (numAdd a b)

/-- R185: element e added to lane e mod 128. -/
def laneSums (p : List Num) : List Num → Nat → List Num
  | [], _ => p
  | x :: t, e => laneSums (listMod (fun y => fp32Add y x) p (e % 128)) t (e + 1)

/-- R185: the tree over the lanes; `n` halvings. -/
def laneTree : Nat → List Num → Num
  | 0, p => p.headD (.fin true 0 0)
  | n + 1, p => laneTree n (((p.take (2 ^ n)).zip (p.drop (2 ^ n))).map fun t => fp32Add t.1 t.2)

/-- R185: the sum of a row. -/
def rowSum (x : List Num) : Num := laneTree 7 (laneSums (List.replicate 128 (.fin true 0 0)) x 0)

/-- One element per row from a function of the row (R183). -/
def rowwise (m : CoreMem) (d : VectorDesc) (a : EvAttr) (f : List Num → Num) : VectorResult :=
  match fmtOfCode d.dstFmt with
  | none => { rows := [], notes := [] }
  | some df =>
    let rows := (List.range d.rows).map fun i => [convertFmt df d.ieee (f (operandRow m d.srcFmt d.src1 d.pitch1 d.n i))]
    { rows := packedRows d rows, notes := plainNotes a rows.flatten }

/-- R105, R106: the scale record of the whole tensor. -/
def scaleFindRows (clipPpm : Nat) (m : CoreMem) (d : VectorDesc) : VectorResult :=
  match fmtOfCode d.dstFmt with
  | none => { rows := [], notes := [] }
  | some df =>
    let xs := (List.range d.rows).flatMap fun i => operandRow m d.srcFmt d.src1 d.pitch1 d.n i
    { rows := [(d.dst, scaleRecordBytes (findScale df d.dstFmt clipPpm xs))], notes := [] }

/-- R118, R119: the anchor record. -/
def anchorRows (m : CoreMem) (d : VectorDesc) : VectorResult :=
  { rows := [(d.dst, anchorRecordBytes (anchorPass (operandRow m d.srcFmt d.src1 d.pitch1 d.n 0)
      (operandRow m d.srcFmt d.src2 d.pitch2 d.n 0)))]
    notes := [] }

/-- The bytes of a WIDE tile (R125). -/
def wideBytes (h : WideHeader) (ws : List Window) : List Byte :=
  wideHeaderBytes h ++ ws.flatMap fun w => natBytes 16 (wideEncode w)

/-- All 4,096 elements of a WIDE tile, and how many are malformed. -/
def wideElements (m : CoreMem) (a : Nat) : WideHeader × List Window × Nat :=
  let t := wideTile m a
  (t.1, (List.range 4096).map (mapGet {} t.2.1), t.2.2)

/-- R128: WADD of tile `t`. -/
def waddTile (m : CoreMem) (d : VectorDesc) (a : EvAttr) (t : Nat) : (Nat × List Byte) × List Note :=
  let x := wideElements m (d.src1 + t * d.pitch1)
  let y := wideElements m (d.src2 + t * d.pitch2)
  let r := (x.2.1.zip y.2.1).map fun e => waddElement e.1 e.2
  let out := (r.filter (·.2)).length
  let partials := sat32 (x.1.partials + y.1.partials)
  let h : WideHeader :=
    { pair := x.1.pair, anchor := x.1.anchor, partials := partials, trunc := sat32 (x.1.trunc + y.1.trunc)
      special := x.1.special || y.1.special || (r.any fun e => e.1.spec ≠ .none)
      bound := x.1.bound || y.1.bound || out ≠ 0 || decide (pairNmax x.1.pair < partials)
      realigned := x.1.realigned || y.1.realigned }
  ((d.dst + t * d.pitchD, wideBytes h (r.map (·.1))), [.event 0x24 a out, .event 0x25 a (x.2.2 + y.2.2)])

/-- R128, R130: WALIGN of tile `t`. -/
def walignTile (m : CoreMem) (d : VectorDesc) (a : EvAttr) (t : Nat) : (Nat × List Byte) × List Note :=
  let x := wideElements m (d.src1 + t * d.pitch1)
  let r := x.2.1.map (walignElement x.1.anchor d.imm2)
  let lost := (r.filter (·.2.1)).length
  let out := (r.filter (·.2.2)).length
  let h : WideHeader :=
    { x.1 with anchor := d.imm2, trunc := sat32 (x.1.trunc + lost), special := x.1.special || (r.any fun e => e.1.spec ≠ .none)
               bound := x.1.bound || out ≠ 0, realigned := x.1.realigned || lost ≠ 0 }
  ((d.dst + t * d.pitchD, wideBytes h (r.map (·.1))),
    [.event 0x23 a lost, .event 0x24 a out, .event 0x25 a x.2.2])

/-- R128, R130: WEXP of tile `t`: the elements' bytes as they are, the anchor moved. DEDUCED (log entry 21). -/
def wexpTile (m : CoreMem) (d : VectorDesc) (t : Nat) : Nat × List Byte :=
  let a := d.src1 + t * d.pitch1
  let h := wideHeaderOf (coreRead m a 64)
  (d.dst + t * d.pitchD, wideHeaderBytes { h with anchor := h.anchor + d.imm2 } ++ coreRead m (a + 64) 65536)

/-- R133, R183: WCVT of tile `t`. -/
def wcvtTile (m : CoreMem) (d : VectorDesc) (a : EvAttr) (t : Nat) : List (Nat × List Byte) × List Note :=
  match fmtOfCode d.dstFmt with
  | none => ([], [])
  | some f =>
    let x := wideTile m (d.src1 + t * d.pitch1)
    let rows := scaleVector m d.rowEn d.src2
    let cols := scaleVector m d.colEn d.aux
    let conv := rows.zipIdx.map fun r => convertRow x.1.anchor x.2.1 r.2 r.1 cols d.imm f d.ieee
    (conv.zipIdx.map fun r => (d.dst + (64 * t + r.2) * d.pitchD, packRow f (r.1.map (·.code))),
      convNotes a conv.flatten ++ [.event 0x25 a x.2.2])

/-- Results of the tiles of a WIDE operation put together. -/
def tiles (d : VectorDesc) (f : Nat → (Nat × List Byte) × List Note) : VectorResult :=
  let r := (List.range d.rows).map f
  { rows := r.map (·.1), notes := r.flatMap (·.2) }

/-- R187: the check at start: 0 or a status. -/
def startStatus (m : CoreMem) (d : VectorDesc) : Nat :=
  let hdr (base pitch t : Nat) : WideHeader := wideHeaderOf (coreRead m (base + t * pitch) 64)
  if d.op = 0x0D ∧ bits (leNat (coreRead m d.aux 16)) 72 4 ≠ d.dstFmt then 0x02
  else if d.op = 0x40 ∧ (List.range d.rows).any (fun t =>
      (hdr d.src1 d.pitch1 t).pair ≠ (hdr d.src2 d.pitch2 t).pair
        || (hdr d.src1 d.pitch1 t).anchor ≠ (hdr d.src2 d.pitch2 t).anchor) then 0x0A
  else if d.op = 0x42 ∧ (List.range d.rows).any (fun t =>
      let a := (hdr d.src1 d.pitch1 t).anchor + d.imm2
      decide (a < -32768 ∨ 32767 < a)) then 0x0D
  else 0

/-- R181: whether the head descriptor of the vector unit may start. -/
def mayStart (c : Core) (d : VectorDesc) : Bool :=
  let rs := src1Range d ++ src2Range d ++ auxRange d
  !c.vector.halted && c.vector.running.isNone && rs.all (mayRead c.mem .vector) && mayWrite c.mem .vector (dstRange d)
    && holdsFree c.mem (rs.length + 1)

/-- R181, R189: the head descriptor starts, where its operation code is `op`, with the result that `f` computes.
DEDUCED (log entry 21). -/
def startVector (op : Nat) (f : CoreMem → VectorDesc → EvAttr → VectorResult) (c : Core) : Core × List Note :=
  match c.vector.queue with
  | [] => (c, [])
  | p :: rest =>
    let d := vectorDesc p.desc
    if d.op = op ∧ mayStart c d then
      let status := startStatus c.mem d
      if status ≠ 0 then
        ({ c with vector := { c.vector with halted := true, haltDepth := c.vector.queue.length, status := status, statusTag := d.tag } },
          unitHaltNotes 4 status d.tag 0 ++ (if status = 0x0A then [.event 0x26 (postAttr p 5) 1] else []))
      else
        let rs := src1Range d ++ src2Range d ++ auxRange d
        let r := f c.mem d (postAttr p 5)
        let m := rs.foldl (fun m r => beginRead m .vector .whole r) c.mem
        let c' := coreBeginWrite { c with mem := m } .vector .whole (dstRange d)
        ({ c' with vector := { c.vector with queue := rest
                                             running := some { post := p, writes := r.rows
                                                               poisoned := rs.any (rangePoison c.mem), status := 0 } } }, r.notes)
    else (c, [])

/-- R186, R190: the running descriptor ends. `junk` are the undefined bytes of a poisoned destination. -/
def vectorFinish (c : Core) (junk : Nat → Byte) : Core × List Note :=
  match c.vector.running with
  | none => (c, [])
  | some j =>
    let d := vectorDesc j.post.desc
    let r := dstRange d
    let rows := if j.poisoned
      then (List.range r.rows).map fun i => (r.base + i * r.pitch, (List.range r.rowBytes).map fun b => junk (i * r.rowBytes + b))
      else j.writes
    let w := writeRows c.mem rows j.poisoned
    let c' := coreEndWrite { c with mem := w.1 } .vector .whole r
    let st := if j.poisoned then recordStatus c.vector.halted (c.vector.status, c.vector.statusTag) (0x0C, d.tag)
      else (c.vector.status, c.vector.statusTag)
    ({ c' with vector := { c.vector with running := none, status := st.1, statusTag := st.2 } },
      [.event 0x32 (postAttr j.post 5) w.2] ++ (if j.poisoned then unitPoisonNotes 4 d.tag else [])
        ++ unitSample j.post 4 (if j.poisoned then 0x0C else 0) d.dst d.tag)

/-- How many free values `vectorFinish` uses. -/
def vectorJunk (c : Core) : Nat :=
  match c.vector.running with
  | some j => if j.poisoned then (dstRange (vectorDesc j.post.desc)).rows * (dstRange (vectorDesc j.post.desc)).rowBytes else 0
  | none => 0

end Sys2Proof.Machine
end

