-- ==== Sys2Proof/Machine/GatherUnit.lean ====
section
/-! DEFINITION. The gather engines and their cache: descriptor, checks, elements, line fills, stops and the end
(R191 to R195). -/

namespace Sys2Proof.Machine

/-- The fields of a gather descriptor (R191). -/
structure GatherDesc where
  idxSize : Nat
  keep : Bool
  oobZero : Bool
  elem : Nat
  count : Nat
  idx : Nat
  dst : Nat
  pitch : Nat
  tag : Nat
  src : Nat
  stride : Nat
  winBase : Nat
  winLimit : Nat
deriving DecidableEq, Repr

def gatherDesc (d : BitVec 512) : GatherDesc :=
  let f := fld d
  { idxSize := 2 ^ (f 8 2 + 1), keep := f 10 1 = 1, oobZero := f 11 1 = 1, elem := f 16 16, count := f 32 32, idx := f 64 32
    dst := f 96 32, pitch := f 128 32, tag := f 160 16, src := f 192 64, stride := f 256 64, winBase := f 320 64
    winLimit := f 384 64 }

def gatherIndexRange (d : GatherDesc) : Range := { base := d.idx, rowBytes := d.count * d.idxSize, pitch := 0, rows := 1 }

/-- R193: the destination. -/
def gatherDstRange (d : GatherDesc) : Range := { base := d.dst, rowBytes := d.elem, pitch := d.pitch, rows := d.count }

/-- R231: whether a module address lies in stacked memory (space 0x0) or a core's memory (space 0x1), every unassigned bit
zero and the core below 96. -/
def plainSpace (a : Nat) : Bool :=
  (a / 2 ^ 60 = 0 && a < 2 ^ 39) || (a / 2 ^ 60 = 1 && bits a 29 31 = 0 && bits a 22 7 < 96)

/-- R231: an address of space 0x4 or 0x5 that names the module itself, as the space 0x0 or 0x1 address it is served as. -/
def ownSpace (sys : Option Nat) (a : Nat) : Nat :=
  let sp := a / 2 ^ 60
  if sp = 4 ∧ sys = some (bits a 39 15) ∧ bits a 54 6 = 0 then bits a 0 39
  else if sp = 5 ∧ sys = some (bits a 39 15) ∧ bits a 54 6 = 0 ∧ bits a 29 10 = 0 then 2 ^ 60 + bits a 0 29
  else a

/-- R192, R193: the part of a gather's window that lies in the memory of core `own`, where it is none a range of no bytes. -/
def gatherOwnWindow (sys : Option Nat) (own : Nat) (d : GatherDesc) : Range :=
  let core := 2 ^ 60 + own * 2 ^ 22
  let lo := max (ownSpace sys d.winBase) core
  let hi := min (ownSpace sys (d.winLimit - 1) + 1) (core + 2 ^ 22)
  { base := lo - core, rowBytes := hi - lo, pitch := 0, rows := if lo < hi then 1 else 0 }

/-- R187, R193: the first check at posting that fails, or 0. `sys` is the module's system address, once discovery has given it, and
`own` the core's own number. A window that is not above its base, whose status the table does not give, is OPERAND_RANGE, and one that
the destination overlaps is OVERLAP. DESIGN CHOICE (log entry 90). -/
def checkGather (sys : Option Nat) (own : Nat) (desc : BitVec 512) : Nat :=
  let d := gatherDesc desc
  let f := fld desc
  if f 0 8 ≠ 1 ∨ f 8 2 = 3 ∨ f 12 4 ≠ 0 ∨ f 176 16 ≠ 0 ∨ f 448 64 ≠ 0 then 0x01
  else if d.idx % d.idxSize ≠ 0 then 0x06
  else if d.elem = 0 ∨ 4096 < d.elem ∨ d.count = 0 ∨ 1048576 < d.count ∨ (1 < d.count ∧ d.pitch < d.elem)
      ∨ d.winLimit ≤ d.winBase ∨ ¬ rangeInside (gatherIndexRange d) ∨ ¬ rangeInside (gatherDstRange d) then 0x07
  else if rangesOverlap (gatherDstRange d) (gatherIndexRange d)
      ∨ (gatherOwnWindow sys own d).rows = 1 ∧ rangesOverlap (gatherDstRange d) (gatherOwnWindow sys own d) then 0x09
  else if ¬ plainSpace (ownSpace sys d.src) ∨ ¬ plainSpace (ownSpace sys d.winBase)
      ∨ ¬ plainSpace (ownSpace sys (d.winLimit - 1)) then 0x0E
  else 0

def getGather (c : Core) (g : GatherId) : GatherEngine := mapGet {} c.gathers g.val

def setGather (c : Core) (g : GatherId) (x : GatherEngine) : Core := { c with gathers := mapSet {} c.gathers g.val x }

/-- R192: the source address of element `n`, computed without wrapping. -/
def gatherSource (m : CoreMem) (d : GatherDesc) (n : Nat) : Nat :=
  d.src + leNat (coreRead m (d.idx + n * d.idxSize) d.idxSize) * d.stride

/-- R192: whether an element at an address lies inside the window. -/
def gatherInside (d : GatherDesc) (a : Nat) : Bool := d.winBase ≤ a && a + d.elem ≤ d.winLimit

/-- The 128-byte lines an element touches. -/
def gatherLines (d : GatherDesc) (a : Nat) : List Nat := List.range' (a / 128) ((a + d.elem - 1) / 128 + 1 - a / 128)

/-- R194: the part of a line that lies inside the window: address and length. -/
def gatherFetch (d : GatherDesc) (line : Nat) : Nat × Nat :=
  let lo := max (128 * line) d.winBase
  (lo, min (128 * line + 128) d.winLimit - lo)

/-- The part of element bytes [a, a + elem) that lies in a line: first address and length. -/
def gatherPart (d : GatherDesc) (a line : Nat) : Nat × Nat :=
  let lo := max a (128 * line)
  (lo, min (a + d.elem) (128 * line + 128) - lo)

/-- R194: a line of the cache that holds a part, moved to the front of its set. -/
def gatherLookup (cache : List (Nat × List GatherLine)) (line lo n : Nat) : Option (GatherLine × List (Nat × List GatherLine)) :=
  let set := mapGet [] cache (line % 64)
  match takeFirst (fun l => l.line = line && 128 * line + l.lo ≤ lo && lo + n ≤ 128 * line + l.lo + l.bytes.length) set with
  | some (l, rest) => some (l, mapSet [] cache (line % 64) (l :: rest))
  | none => none

/-- R194: a line filled, the least recently used of a full set displaced. -/
def gatherInsert (cache : List (Nat × List GatherLine)) (l : GatherLine) : List (Nat × List GatherLine) :=
  let set := (mapGet [] cache (l.line % 64)).filter fun x => x.line ≠ l.line
  mapSet [] cache (l.line % 64) ((l :: set).take 8)

/-- The state of issuing elements: the core, the job and what it reports. -/
structure GatherRun where
  core : Core
  job : GatherJob
  notes : List Note
deriving DecidableEq, Repr

/-- R192, R180: bytes of an element written at its fixed place. -/
def gatherWrite (r : GatherRun) (a : EvAttr) (addr : Nat) (bytes : List Byte) (poison : Bool) : GatherRun :=
  let w := writeRows r.core.mem [(addr, bytes)] poison
  { r with core := { r.core with mem := w.1 }
           job := { r.job with poisoned := r.job.poisoned || poison
                               marked := if poison then r.job.marked ++ rowsGranules [(addr, bytes)] else r.job.marked }
           notes := r.notes ++ [.event 0x32 a w.2] }

/-- R194: an element that waits for a line takes its part of it. -/
def gatherTake (d : GatherDesc) (a : EvAttr) (l : GatherLine) (r : GatherRun) (w : Nat × List Nat) : GatherRun :=
  if w.2.contains l.line then
    let src := gatherSource r.core.mem d w.1
    let p := gatherPart d src l.line
    let r := gatherWrite r a (d.dst + w.1 * d.pitch + (p.1 - src)) ((l.bytes.drop (p.1 - 128 * l.line - l.lo)).take p.2) l.poison
    if w.2 = [l.line] then { r with notes := r.notes ++ [.event 0x37 { a with addr := some src } 1] } else r
  else r

/-- A line taken off what an element waits for; an element that waits for none is off the list. -/
def lineTaken (own : Nat → Bool) (line : Nat) (waiting : List (Nat × List Nat)) : List (Nat × List Nat) :=
  (waiting.map fun w => if own w.1 then (w.1, w.2.filter (· ≠ line)) else w).filter fun w => !w.2.isEmpty

/-- R194, R196: the next line of the newest element issues: served from the cache, or fetched. -/
def gatherIssueLine (d : GatherDesc) (a : EvAttr) (r : GatherRun) (line : Nat) (rest : List Nat) : GatherRun :=
  let n := r.job.next - 1
  let src := gatherSource r.core.mem d n
  let p := gatherPart d src line
  let r0 := { r with job := { r.job with lines := rest } }
  match gatherLookup r.core.gatherCache line p.1 p.2 with
  | some (l, cache) =>
    let r1 := { r0 with core := { r.core with gatherCache := cache }, notes := r.notes ++ [.event 0x35 { a with addr := some src } 1] }
    let r2 := gatherTake d a l r1 ((r.job.waiting.find? fun w => w.1 = n).getD (n, []))
    { r2 with job := { r2.job with waiting := lineTaken (· = n) line r2.job.waiting } }
  | none =>
    if r.job.fetching.contains line then r0
    else { r0 with job := { r0.job with fetching := r.job.fetching ++ [line] }, notes := r.notes ++ [.event 0x36 { a with addr := some src } 1] }

/-- R192, R195, R196: elements issue in order, line by line, up to 32 fills outstanding, until one stops the gather. `own` is the
core's own number; a window in its own memory is read through the bank port. -/
def gatherIssue (own : Nat) (sys : Option Nat) (a : EvAttr) : Nat → GatherRun → GatherRun
  | 0, r => r
  | fuel + 1, r =>
    let d := gatherDesc r.job.post.desc
    let n := r.job.next
    if r.job.stop.isSome ∨ 32 ≤ r.job.fetching.length then r
    else
      match r.job.lines with
      | line :: rest => gatherIssue own sys a fuel (gatherIssueLine d a r line rest)
      | [] =>
        if d.count ≤ n then r
        else if r.job.ahead.contains n then gatherIssue own sys a fuel { r with job := { r.job with next := n + 1 } }
        else
          let src := gatherSource r.core.mem d n
          let el : Note := .event 0x37 { a with addr := some src } 1
          if ¬ gatherInside d src then
            if d.oobZero then
              let r := gatherWrite r a (d.dst + n * d.pitch) (List.replicate d.elem 0) false
              gatherIssue own sys a fuel { r with job := { r.job with next := n + 1 }
                                                  notes := r.notes ++ [el, .event 0x38 { a with addr := some src } 1] }
            else { r with job := { r.job with stop := some 0x0F } }
          else if ownSpace sys src / 2 ^ 22 = 2 ^ 38 + own then
            let lo := bits src 0 22
            let range : Range := { base := lo, rowBytes := d.elem, pitch := 0, rows := 1 }
            let r := gatherWrite r a (d.dst + n * d.pitch) (coreRead r.core.mem lo d.elem) (rangePoison r.core.mem range)
            gatherIssue own sys a fuel { r with job := { r.job with next := n + 1 }, notes := r.notes ++ [el] }
          else
            let ls := gatherLines d src
            gatherIssue own sys a fuel { r with job := { r.job with next := n + 1, lines := ls, waiting := r.job.waiting ++ [(n, ls)] } }

/-- Steps in which a gather issues every element and every line of it: an element touches at most 33 lines. -/
def gatherSteps (d : GatherDesc) : Nat := 34 * d.count

/-- R195: DONE, the lowest element not yet written. -/
def gatherDone (j : GatherJob) : Nat := (j.waiting.map (·.1)).foldl min j.next

/-- R195: once a stopped gather has no fetch in flight it records its status and halts. -/
def gatherSettle (c : Core) (g : GatherId) (j : GatherJob) (ns : List Note) : Core × List Note :=
  let x := getGather c g
  let d := gatherDesc j.post.desc
  match j.stop with
  | some st =>
    if j.fetching.isEmpty then
      let done := gatherDone j
      let above := (List.range (j.next - done)).map (· + done) |>.filter fun n => !(j.waiting.any fun w => w.1 = n)
      (setGather c g { x with running := some { j with next := done, waiting := [], lines := [], ahead := above, post := { j.post with tagged := false } }
                              halted := true, haltDepth := x.queue.length + 1, status := st, statusTag := d.tag, done := done },
        ns ++ unitHaltNotes (5 + g.val) st d.tag done ++ unitSample j.post (5 + g.val) st d.dst d.tag)
    else (setGather c g { x with running := some j }, ns)
  | none => (setGather c g { x with running := some j }, ns)

/-- Lines newly to be fetched: address and length of each, beside the line (R194). -/
def gatherWants (old new : List Nat) (d : GatherDesc) : List (Nat × Nat × Nat) :=
  (new.filter fun l => !old.contains l).map fun l => (l, gatherFetch d l)

/-- R193: the head gather of an engine starts once both holds are granted, and issues elements. -/
def gatherStart (own : CoreId) (sys : Option Nat) (c : Core) (g : GatherId) : Core × List Note × List (Nat × Nat × Nat) :=
  let x := getGather c g
  match x.queue with
  | [] => (c, [], [])
  | p :: rest =>
    let d := gatherDesc p.desc
    let o := Owner.gather g
    if ¬ x.halted ∧ x.running.isNone ∧ mayRead c.mem o (gatherIndexRange d) ∧ mayWrite c.mem o (gatherDstRange d)
        ∧ holdsFree c.mem 2 then
      let m := beginRead c.mem o .index (gatherIndexRange d)
      let c1 := coreBeginWrite { c with mem := m } o .dst (gatherDstRange d)
      let c2 := if d.keep then c1 else { c1 with gatherCache := [] }
      let j : GatherJob := { post := p, next := 0, waiting := [], ahead := [], fetching := [], poisoned := false, stop := none }
      let r := gatherIssue own.val sys (postAttr p (6 + g.val)) (gatherSteps d) { core := c2, job := j, notes := [] }
      let k := gatherSettle (setGather r.core g { x with queue := rest }) g r.job r.notes
      (k.1, k.2, gatherWants [] r.job.fetching d)
    else (c, [], [])

/-- R29, R194, R195: a line fill returns. A fill that fails otherwise than by its translation stops the gather with FAULT too, or with
TARGET_OFF at a core that is not powered, and a later failure replaces the status of an earlier stop: the spec gives neither.
DESIGN CHOICE (log entry 90). DEDUCED (log entry 38). -/
def gatherFill (own : CoreId) (sys : Option Nat) (c : Core) (g : GatherId) (line : Nat) (answer : ReadAnswer) :
    Core × List Note × List (Nat × Nat × Nat) :=
  let x := getGather c g
  match x.running with
  | none => (c, [], [])
  | some j =>
    if ¬ j.fetching.contains line then (c, [], [])
    else
      let d := gatherDesc j.post.desc
      let a := postAttr j.post (6 + g.val)
      let j1 := { j with fetching := j.fetching.filter (· ≠ line) }
      match answer with
      | .data bytes poison =>
        let l : GatherLine := { line := line, lo := (gatherFetch d line).1 - 128 * line, bytes := bytes, poison := poison ≠ 0 }
        let r0 : GatherRun := { core := { c with gatherCache := gatherInsert c.gatherCache l }, job := j1, notes := [] }
        let r1 := j.waiting.foldl (gatherTake d a l) r0
        let waiting := lineTaken (fun _ => true) line j.waiting
        let r2 := gatherIssue own.val sys a (gatherSteps d) { r1 with job := { r1.job with waiting := waiting } }
        let k := gatherSettle r2.core g r2.job r2.notes
        (k.1, k.2, gatherWants j1.fetching r2.job.fetching d)
      | other =>
        let k := gatherSettle c g { j1 with stop := some (if other = .off then 0x45 else 0x10) } []
        (k.1, k.2, [])

/-- R180, R193: the last element is written and the destination marked complete. A granule that the gather's elements cover whole with
clean bytes loses its mark. -/
def gatherFinish (c : Core) (g : GatherId) : Core × List Note :=
  let x := getGather c g
  match x.running with
  | none => (c, [])
  | some j =>
    let d := gatherDesc j.post.desc
    if j.stop.isNone ∧ j.waiting.isEmpty ∧ d.count ≤ j.next then
      let o := Owner.gather g
      let whole := (rangeGranules (gatherDstRange d)).filter fun k =>
        !j.marked.contains k && (List.range 64).all fun b => rangeHasByte (gatherDstRange d) (64 * k + b)
      let m := { releaseHold c.mem o .index with poison := mapSetAll false c.mem.poison whole false }
      let c' := coreEndWrite { c with mem := m } o .dst (gatherDstRange d)
      let st := if j.poisoned then recordStatus x.halted (x.status, x.statusTag) (0x0C, d.tag) else (x.status, x.statusTag)
      (setGather c' g { x with running := none, status := st.1, statusTag := st.2 },
        (if j.poisoned then unitPoisonNotes (5 + g.val) d.tag else [])
          ++ unitSample j.post (5 + g.val) (if j.poisoned then 0x0C else 0) d.dst d.tag)
    else (c, [])

end Sys2Proof.Machine
end

