-- ==== Sys2Proof/Machine/CaravanDesc.lean ====
section
/-! DEFINITION. Caravan descriptors: fields, arming checks, the pattern of units, and the lines into which it is cut
(R231 to R241). -/

namespace Sys2Proof.Machine

/-- The fields of a caravan descriptor (R236); counts and strides of dimension 0 first. -/
structure CvDesc where
  op : Nat
  ndim : Nat
  task : Bool
  regulated : Bool
  policy : Nat
  irqEn : Bool
  elemLog2 : Nat
  pfDepth : Nat
  pasid : Option (BitVec 20)
  src : Nat
  dst : Nat
  winBase : Nat
  winLimit : Nat
  srcPack : Nat
  dstPack : Nat
  counts : List Nat
  srcStrides : List Int
  dstStrides : List Int
  granule : Nat
  mask : BitVec 96
deriving DecidableEq, Repr

/-- R235, R236: the fields; dimensions at or above NDIM count as 1 with stride 0. -/
def cvDesc (d : BitVec 1536) : CvDesc :=
  let f := fld d
  let ndim := f 8 3
  let dims := List.range 5
  { op := f 0 8, ndim := ndim, task := f 11 1 = 1, regulated := f 12 1 = 1, policy := f 13 2, irqEn := f 15 1 = 1
    elemLog2 := f 16 4, pfDepth := f 20 9, pasid := if f 52 1 = 1 then some (BitVec.ofNat 20 (f 32 20)) else none
    src := f 64 64, dst := f 128 64, winBase := f 192 64, winLimit := f 256 64, srcPack := f 320 64, dstPack := f 384 64
    counts := dims.map fun i => if i < ndim then f (448 + 32 * i) 32 else 1
    srcStrides := dims.map fun i => if i < ndim then signedOf 40 (f (608 + 40 * i) 40) else 0
    dstStrides := dims.map fun i => if i < ndim then signedOf 40 (f (808 + 40 * i) 40) else 0
    granule := f 1008 16, mask := BitVec.ofNat 96 (f 1024 96) }

/-- R210: a range from its base and its packing. -/
def unpackRange (base pack : Nat) : Range :=
  { base := base, rowBytes := bits pack 0 22 + 1, pitch := bits pack 22 23, rows := bits pack 45 16 + 1 }

/-- The space code of a module address (R231). -/
def spaceOf (a : Nat) : Nat := a / 2 ^ 60

/-- R231: every bit the space does not assign is 0, and a core field names a core. -/
def spaceOk (a : Nat) : Bool :=
  match spaceOf a with
  | 0 => bits a 39 21 = 0
  | 1 => bits a 29 31 = 0 && bits a 22 7 < 96
  | 2 => bits a 57 3 = 0
  | 3 => bits a 37 23 = 0
  | 4 => bits a 54 6 = 0
  | 5 => bits a 54 6 = 0 && bits a 29 10 = 0 && bits a 22 7 < 96
  | 6 => bits a 36 24 = 0 && a % 8 = 0
  | _ => false

/-- The core-memory address of a space 0x1 or 0x5 address. -/
def cmAddr (a : Nat) : Nat := bits a 0 22

/-- The core of a space 0x1 or 0x5 address. -/
def cmCore (a : Nat) : Nat := bits a 22 7

/-- Whether an endpoint is a core's memory, of this module or another. -/
def isCoreSpace (a : Nat) : Bool := spaceOf a = 1 || spaceOf a = 5

def cvSrcRange (d : CvDesc) : Range := unpackRange (cmAddr d.src) d.srcPack

def cvDstRange (d : CvDesc) : Range := unpackRange (cmAddr d.dst) d.dstPack

/-- R231: the source and destination as this module serves them. The core field of a MULTICAST destination is ignored. -/
def cvSrc (sys : Option Nat) (d : CvDesc) : Nat := ownSpace sys d.src

def cvDst (sys : Option Nat) (d : CvDesc) : Nat :=
  if d.op = 2 then 2 ^ 60 + cmAddr d.dst else ownSpace sys d.dst

/-- R235: the element size. -/
def elemSize (d : CvDesc) : Nat := 2 ^ d.elemLog2

/-- R240: units of an element, and a unit's size. -/
def unitsPerElem (d : CvDesc) : Nat := max 1 (elemSize d / 128)

def unitSize (d : CvDesc) : Nat := min 128 (elemSize d)

/-- R240: units of the whole transfer. -/
def totalUnits (d : CvDesc) : Nat := d.counts.foldl (· * ·) 1 * unitsPerElem d

/-- R235: the indexes i_0 to i_4 of element `e`. -/
def elemIndex : List Nat → Nat → List Nat
  | [], _ => []
  | n :: t, e => e % (max n 1) :: elemIndex t (e / max n 1)

/-- R235: an address at an element's indexes. -/
def strideSum : List Nat → List Int → Int
  | i :: t, s :: u => i * s + strideSum t u
  | _, _ => 0

/-- R235, R240: the source and destination address of unit `u`. -/
def unitAddr (sys : Option Nat) (d : CvDesc) (u : Nat) : Nat × Nat :=
  let ix := elemIndex d.counts (u / unitsPerElem d)
  let piece := 128 * (u % unitsPerElem d)
  ((cvSrc sys d + strideSum ix d.srcStrides + piece : Int).toNat, (cvDst sys d + strideSum ix d.dstStrides + piece : Int).toNat)

/-- R240: how many units from `u` share the source line and the destination line of unit `u`, at most `n` more.
DEDUCED (log entry 35). -/
def lineUnits (sys : Option Nat) (d : CvDesc) (u : Nat) : Nat → Nat → Nat
  | 0, k => k
  | n + 1, k =>
    if u + k < totalUnits d ∧ (unitAddr sys d (u + k)).1 / 128 = (unitAddr sys d u).1 / 128
        ∧ (unitAddr sys d (u + k)).2 / 128 = (unitAddr sys d u).2 / 128 then lineUnits sys d u n (k + 1)
    else k

/-- R240: the units of the line that starts at unit `u`; a line holds at most 128. -/
def lineLength (sys : Option Nat) (d : CvDesc) (u : Nat) : Nat := lineUnits sys d u 127 1

/-- R240: the first unit of line `k`. -/
def lineStart (sys : Option Nat) (d : CvDesc) : Nat → Nat
  | 0 => 0
  | k + 1 => let u := lineStart sys d k; u + lineLength sys d u

/-- Whether the caravan has a line `k`. -/
def hasLine (sys : Option Nat) (d : CvDesc) (k : Nat) : Bool := lineStart sys d k < totalUnits d

/-- The units of line `k`: source and destination address of each. -/
def unitsOf (sys : Option Nat) (d : CvDesc) (k : Nat) : List (Nat × Nat) :=
  let u := lineStart sys d k
  (List.range (lineLength sys d u)).map fun i => unitAddr sys d (u + i)

/-- Byte enables of units at addresses within one 128-byte line. -/
def unitMask (size : Nat) (addrs : List Nat) : BitVec 128 :=
  addrs.foldl (fun m a => m ||| byteMask (a % 128) size) 0

/-- Unit bytes picked from a line's 128 bytes, in order of units. -/
def pickUnits (size : Nat) (line : List Byte) (addrs : List Nat) : List Byte :=
  addrs.flatMap fun a => (line.drop (a % 128)).take size

/-- Unit bytes put in their places of a 128-byte line. -/
def placeUnits (size : Nat) (bytes : List Byte) (addrs : List Nat) : List Byte :=
  (addrs.zipIdx.foldl (fun l a => mapWrite 0 l (a.1 % 128) ((bytes.drop (a.2 * size)).take size)) []) |> fun l => mapRead 0 l 0 128

/-- R237: the lowest and highest offset a pattern reaches. -/
def spanOf (counts : List Nat) (strides : List Int) : Int × Int :=
  (counts.zip strides).foldl (fun m t =>
    let x : Int := ((t.1 : Int) - 1) * t.2
    (m.1 + min 0 x, m.2 + max 0 x)) (0, 0)

/-- R237: where unit `u` of a core-memory pattern lies, from the first byte of its core's memory. -/
def patternPlace (d : CvDesc) (src : Bool) (u : Nat) : Int :=
  let strides := if src then d.srcStrides else d.dstStrides
  cmAddr (if src then d.src else d.dst) + strideSum (elemIndex d.counts (u / unitsPerElem d)) strides + 128 * (u % unitsPerElem d : Nat)

/-- R237: whether every byte a core-memory pattern names lies inside its hold range. -/
def patternInRange (d : CvDesc) (src : Bool) (r : Range) : Bool :=
  (List.range (totalUnits d)).all fun u =>
    0 ≤ patternPlace d src u && (List.range (unitSize d)).all fun b => rangeHasByte r ((patternPlace d src u).toNat + b)

/-- R239: the arming checks on the descriptor alone, in the order of the table. An address that R231 does not assign names no core
memory, so it has no hold range to check (DEDUCED) and fails with BAD_SPACE. DEDUCED (log entry 35). -/
def checkCaravan (sys : Option Nat) (descAddr : Nat) (desc : BitVec 1536) : Nat :=
  let d := cvDesc desc
  let f := fld desc
  let a := min (elemSize d) 128
  let aligned := descAddr % 64 = 0 ∧ d.src % a = 0 ∧ d.dst % a = 0 ∧ d.srcStrides.all (· % (a : Int) = 0)
    ∧ d.dstStrides.all (· % (a : Int) = 0)
  let src := cvSrc sys d
  let dst := cvDst sys d
  let srcCore := isCoreSpace d.src && spaceOk d.src
  let dstCore := isCoreSpace d.dst && (d.op = 2 || spaceOk d.dst)
  let sr := cvSrcRange d
  let dr := cvDstRange d
  let span := spanOf d.counts d.srcStrides
  let remote (x : Nat) : Bool := spaceOf x = 4 || spaceOf x = 5
  let spaceBad := !spaceOk d.src
    || !(if d.op = 2 then (spaceOf d.dst = 1 && bits d.dst 29 31 = 0)
          || (spaceOf d.dst = 5 && bits d.dst 54 6 = 0 && bits d.dst 29 10 = 0 && sys = some (bits d.dst 39 15))
        else spaceOk d.dst)
    || (remote d.src && remote d.dst) || (spaceOf src = 2 && spaceOf dst = 2)
    || ((remote src && spaceOf dst = 2) || (spaceOf src = 2 && remote dst))
    || (spaceOf src = 6 && !(dstCore && d.elemLog2 = 3)) || (spaceOf dst = 6 && !(srcCore && d.elemLog2 = 3))
    || (d.op = 2 && spaceOf d.src = 5)
  if (d.op ≠ 1 ∧ d.op ≠ 2) ∨ d.ndim = 0 ∨ 5 < d.ndim ∨ d.policy = 3 ∨ f 29 3 ≠ 0 ∨ f 53 11 ≠ 0
      ∨ (d.op = 2 ∧ f 1120 416 ≠ 0) ∨ (srcCore ∧ bits d.srcPack 61 3 ≠ 0) ∨ (dstCore ∧ bits d.dstPack 61 3 ≠ 0) then 0x01
  else if ¬ aligned then 0x06
  else if d.counts.any (· = 0) ∨ 12 < d.elemLog2 ∨ 256 < d.pfDepth ∨ (¬ srcCore ∧ d.winLimit ≤ d.winBase)
      ∨ (srcCore ∧ (¬ rangeInside sr ∨ ¬ patternInRange d true sr))
      ∨ (dstCore ∧ (¬ rangeInside dr ∨ ¬ patternInRange d false dr))
      ∨ (d.op = 2 ∧ d.mask = 0) then 0x07
  else if srcCore ∧ dstCore ∧ (if d.op = 2 then spaceOf src = 1 ∧ d.mask.getLsbD (cmCore src) else src / 2 ^ 22 = dst / 2 ^ 22)
      ∧ rangesOverlap sr dr then 0x09
  else if spaceBad then 0x0E
  else if ¬ srcCore ∧ ((d.src : Int) + span.1 < d.winBase ∨ (d.winLimit : Int) < (d.src : Int) + span.2 + elemSize d) then 0x0F
  else 0

/-- The cores that a caravan names: its core-memory endpoints on this module (R239 TARGET_OFF). -/
def namedCores (sys : Option Nat) (d : CvDesc) : List Nat :=
  (if spaceOf (cvSrc sys d) = 1 then [cmCore (cvSrc sys d)] else [])
    ++ (if d.op = 2 then (List.range 96).filter (d.mask.getLsbD ·)
        else if spaceOf (cvDst sys d) = 1 then [cmCore (cvDst sys d)] else [])

end Sys2Proof.Machine
end

