-- ==== Sys2Proof/Machine/Requests.lean ====
section
/-! DEFINITION. Reads and writes that the units of the module send: the network's routes and its counts (R310, R320, R326), the
flit of each request, and how a request of each space of R231 sets out. -/

namespace Sys2Proof.Machine

/-- R310: the outputs a flit leaves by on its way: node and output (R548: 1 north, 2 east, 3 south, 4 west, 5 local).
DEDUCED (log entry 24). -/
def routeOf (src dst : Nat × Nat) : List (Nat × Nat × Nat) :=
  (if src.1 ≤ dst.1 then (List.range' src.1 (dst.1 - src.1)).map fun x => (x, src.2, 2)
    else (List.range' (dst.1 + 1) (src.1 - dst.1)).map fun x => (x, src.2, 4))
  ++ (if src.2 ≤ dst.2 then (List.range' src.2 (dst.2 - src.2)).map fun y => (dst.1, y, 3)
    else (List.range' (dst.2 + 1) (src.2 - dst.2)).map fun y => (dst.1, y, 1))
  ++ [(dst.1, dst.2, 5)]

/-- R548: the master code of a node kind. -/
def kindCode : NodeKind → Nat
  | .core => 0 | .tower => 1 | .caravanserai => 2 | .fabric => 3 | .management => 4 | .pcie => 5 | .askua => 6

/-- The attributes of an event of a flit at an output (R548). DEDUCED (log entry 24). -/
def flitAttr (f : Flit) (unit : Nat) : EvAttr :=
  { unit := unit, master := some (kindCode (nodeKind f.srcX.val f.srcY.val)), cls := some f.cls.val }

/-- R326: a flit sent: NW_FLITS at every output it leaves by, and NW_MC_FORK at every waystation it leaves by more than one.
DEDUCED (log entry 24). -/
def countRoute (s : State) (f : Flit) (outputs : List (Nat × Nat × Nat)) : State :=
  let nodes := (outputs.map fun o => (o.1, o.2.1)).dedup
  let s1 := outputs.foldl (fun s o => countEvent s .waystation (16 * o.2.1 + o.1) 0x10 (flitAttr f o.2.2) 1) s
  nodes.foldl (fun s n =>
    if 1 < (outputs.filter fun o => (o.1, o.2.1) = n).length
    then countEvent s .waystation (16 * n.2 + n.1) 0x14 (flitAttr f 0) 1 else s) s1

/-- R312: a unicast flit sent. -/
def send (s : State) (f : Flit) : State :=
  countRoute { s with net := inject s.net f } f (routeOf (f.srcX.val, f.srcY.val) (f.dstX.val, f.dstY.val))

/-- R320: a multicast flit sent towards its receivers. -/
def sendMulticast (s : State) (f : Flit) (receivers : List Nat) : State :=
  countRoute { s with net := { s.net with flits := s.net.flits ++ [{ flit := f, left := receivers }] } } f
    ((receivers.flatMap fun c => routeOf (f.srcX.val, f.srcY.val) (coreNode s.fuses c)).dedup)

/-- R309: whether a request flit is answered: an unacknowledged WR or LINE and an MC_LINE are not. -/
def wantsResponse (f : Flit) : Bool := f.ackReq || !(f.opcode = 0x02 || f.opcode = 0x03 || f.opcode = 0x04)

/-- R309: a request flit answered with ERR, where it is answered. -/
def refuse (s : State) (f : Flit) : State := if wantsResponse f then send s (errResponse f) else s

def getCv (s : State) (v : Nat) : Caravan := mapGet {} s.caravans v

def setCv (s : State) (v : Nat) (x : Caravan) : State := { s with caravans := mapSet {} s.caravans v x }

def modCv (s : State) (v : Nat) (f : Caravan → Caravan) : State := setCv s v (f (getCv s v))

/-- R306: the endpoint of a core. -/
def coreEp (s : State) (c : Nat) : Nat × Nat × Nat := ((coreNode s.fuses c).1, (coreNode s.fuses c).2, 0)

/-- The endpoint that sends for a requester. -/
def requesterEp (s : State) : Requester → Nat × Nat × Nat
  | .caravanLine v _ | .caravanWrite v _ | .holdReq v _ => coreEp s (getCv s v.val).core.val
  | .gatherLine c _ _ | .image c _ => coreEp s c.val
  | .context v => (7, if v.val < 131072 then 0 else 9, 0)
  | .ringFetch _ | .ringPost _ | .ringDiscard _ | .ringTail _ | .forward _ _ => (7, 0, 1)
  | .border p _ => borderNode p.val
  | .bar2 _ _ => (14, 0, 0)
  | .corner east => (if east then 14 else 0, 9, 0)
  | .nobody => (0, 0, 0)

/-- R353: the corner node and SUB of a port. -/
def portNode (p : Nat) : Nat × Nat × Nat := (if p < 4 then 0 else 14, 9, p % 4)

def getPort (l : Links) (p : Nat) : Port := mapGet {} l.ports p

def setPort (l : Links) (p : Nat) (x : Port) : Links := { l with ports := mapSet {} l.ports p x }

/-- R368: the direction of one dimension: none where it is skipped, the + port or the − port. -/
def dimPort (size src dst plus : Nat) : Option Nat :=
  let d := (dst + size - src % size) % size
  if size = 0 ∨ d = 0 then none else if d ≤ size - d then some plus else some (plus + 1)

/-- R231: the coordinate of a system address in dimension `i`. -/
def coord (sys i : Nat) : Nat := bits sys (5 * i) 5

/-- R386: the torus sizes. -/
def torusSize (s : State) (i : Nat) : Nat := dictGet s (if i = 0 then keyTorusX else if i = 1 then keyTorusY else keyTorusZ)

/-- R368: the port a packet to a system address leaves by, from this module; an express port first. -/
def routePort (s : State) (dst : Nat) : Option Nat :=
  match sysAddr s with
  | none => none
  | some me =>
    let express := [6, 7].find? fun p => (getPort s.links p).state = .up && (getPort s.links p).partnerKnown && dictGet s (keyOf (0x4100 + p) 3) = dst
    match express with
    | some p => some p
    | none =>
      match dimPort (torusSize s 0) (coord me 0) (coord dst 0) 0 with
      | some p => some p
      | none =>
        match dimPort (torusSize s 1) (coord me 1) (coord dst 1) 2 with
        | some p => some p
        | none => dimPort (torusSize s 2) (coord me 2) (coord dst 2) 4

/-- The endpoint of the tower controller that serves a physical address (R328, R19). -/
def stackEp (pa : Nat) : Nat × Nat × Nat :=
  let q := placeOf pa
  let n := towerNode q.tower q.ctl
  (n.1, n.2, q.ctl)

/-- The endpoint that serves a line of spaces 1 to 5. -/
def spaceEp (s : State) (a : Nat) : Nat × Nat × Nat :=
  match spaceOf a with
  | 1 => coreEp s (cmCore a)
  | 2 => (14, 0, 0)
  | 3 => borderNode (bits a 32 5)
  | _ => portNode ((routePort s (bits a 39 15)).getD 0)

/-- R307: ADDR at the endpoint: a core-memory address, an I/O virtual address, a port-side address, or, at an Askua corner, the
module address. -/
def spaceAddr (a : Nat) : Nat :=
  match spaceOf a with
  | 1 => cmAddr a
  | 2 => bits a 0 57
  | 3 => bits a 0 32
  | _ => a

/-- R307: the first tag from `i` on that no request under way has. -/
def freeId (used : List Nat) : Nat → Nat → Nat
  | 0, i => i
  | n + 1, i => if used.contains i then freeId used n ((i + 1) % 16384) else i

/-- A request recorded; its number is the tag of its flits. -/
def openRequest (n : Net) (r : Request) : Net × Nat :=
  let id := freeId (n.requests.map (·.id)) n.requests.length n.nextId
  ({ n with requests := n.requests ++ [{ r with id := id }], nextId := (id + 1) % 16384 }, id)

/-- The flit of a request to an endpoint. A caravan's line for a core's memory is a LINE; every write asks for its
acknowledgement. -/
def requestFlit (s : State) (r : Request) (dst : Nat × Nat × Nat) (addr : Nat) : Flit :=
  let src := requesterEp s r.who
  if r.write then
    let toCore := spaceOf r.addr.toNat = 1 ∨ spaceOf r.addr.toNat = 5
    mkFlit src dst (if toCore then clsStr else clsWr) (if toCore then 0x03 else 0x02) r.id addr r.be r.bytes
      r.poison true
  else mkFlit src dst clsReq 0x01 r.id addr r.be [] 0 false

/-- The flit of request `id` sent and kept. -/
def launchRequest (s : State) (id : Nat) (f : Flit) : State :=
  send { s with net := setRequest s.net id fun r => { r with flit := some f, state := .sent } } f

/-- R303: the cached host translation of an address. -/
def atsFind (p : Pcie) (pasid : Option (BitVec 20)) (a : Nat) : Option AtsLeaf :=
  p.atsCache.find? fun l => l.pasid = pasid && a / 2 ^ l.sizeLog2 = l.page

/-- R303: the address of a host request, and whether it goes as a translated request: a page of untranslated access only takes
untranslated requests. -/
def hostAddr (l : Option AtsLeaf) (a : Nat) : Nat × Bool :=
  match l with
  | some l => if l.noPrefetch then (a, false) else (l.target / 2 ^ l.sizeLog2 * 2 ^ l.sizeLog2 + a % 2 ^ l.sizeLog2, true)
  | none => (a, false)

/-- R241: a host request leaves the port: a read awaits its completion, a posted write is done and acknowledged. -/
def hostLeave (s : State) (r : Request) (l : Option AtsLeaf) : State :=
  let h := hostAddr l (bits r.addr.toNat 0 57)
  if r.write then
    let s1 := { s with out := s.out ++ [.hostWrite r.pasid h.2 (BitVec.ofNat 64 h.1) r.be r.bytes (r.poison ≠ 0)]
                       net := setRequest s.net r.id fun r => { r with state := .sent } }
    match r.flit with
    | some f => send s1 (mkResponse f 0x82 [] 0 false)
    | none => s1
  else
    { s with out := s.out ++ [.hostRead r.id r.pasid h.2 (BitVec.ofNat 64 h.1) r.be]
             net := setRequest s.net r.id fun r => { r with state := .host } }

/-- What a host translation permits a request: go on, or the outcome of R233. A prefetch of a NO_PREFETCH page is not made
(R256): it is dropped as a denied one is (R257). -/
def hostPermit (l : AtsLeaf) (r : Request) : Option ReadAnswer :=
  if ¬ l.readable ∧ ¬ l.writable then some .missed
  else if r.write ∧ ¬ l.writable then some .denied
  else if ¬ r.write ∧ ¬ l.readable then some .denied
  else if r.prefetch ∧ l.noPrefetch then some .denied
  else none

def answerRequest (s : State) (id : Nat) (a : ReadAnswer) : State :=
  { s with net := setRequest s.net id fun r => { r with state := .answered a } }

/-- Why a request failed, as ADDR of its response tells: the causes of R370. DEDUCED (log entry 47). -/
def answerCause : ReadAnswer → Nat
  | .missed => 1
  | .denied => 2
  | _ => 0

/-- R233: a host request whose translation fails is answered with ERR. -/
def hostRefuse (s : State) (r : Request) (a : ReadAnswer) : State :=
  let s1 := { s with net := setRequest s.net r.id fun r => { r with state := .sent } }
  match r.flit with
  | some f => send s1 { errResponse f with addr := BitVec.ofNat 64 (answerCause a) }
  | none => s1

/-- R303: a host request with a translation: it leaves, or is refused. -/
def hostByLeaf (s : State) (r : Request) (l : AtsLeaf) : State :=
  match hostPermit l r with
  | some a => hostRefuse s r a
  | none => hostLeave s r (some l)

/-- R303: a host request at the PCIe node: untranslated while ATS is off, else by its cached translation, or after an ATS
request. DEDUCED (log entry 33). -/
def hostSubmit (s : State) (r : Request) : State :=
  if ¬ s.pcie.ats then hostLeave s r none
  else
    match atsFind s.pcie r.pasid (bits r.addr.toNat 0 57) with
    | some l => hostByLeaf s r l
    | none =>
      { s with out := s.out ++ [.atsRequest r.pasid (BitVec.ofNat 64 (bits r.addr.toNat 0 57))]
               net := setRequest s.net r.id fun r => { r with state := .translating } }

/-- A request sets out (R231): to the translation block, over the network, or answered at once where the requester reads its own
core's memory. -/
def submit (s : State) (who : Requester) (write : Bool) (addr : Nat) (be : BitVec 128) (bytes : List Byte) (poison : BitVec 2)
    (prefetch : Bool) (pasid : Option (BitVec 20)) : State :=
  let o := openRequest s.net
    { id := 0, who := who, write := write, addr := BitVec.ofNat 64 addr, phys := none, be := be, bytes := bytes, poison := poison
      prefetch := prefetch, pasid := pasid, flit := none, left := [], state := .translating }
  let s1 := { s with net := o.1 }
  match findRequest o.1 o.2 with
  | none => s1
  | some r =>
    match spaceOf addr with
    | 0 | 6 => { s1 with queues := { s1.queues with translating := s1.queues.translating ++ [o.2] } }
    | 1 =>
      if ¬ write ∧ requesterEp s who = coreEp s (cmCore addr) then
        let c := (mapGet {} s.cores (cmCore addr)).mem
        let line := cmAddr addr / 128 * 128
        answerRequest s1 o.2 (.data (coreRead c line 128)
          (touchedPoison ((if granulePoison c (line / 64) then 1 else 0) + (if granulePoison c (line / 64 + 1) then 2 else 0)) be))
      else launchRequest s1 o.2 (requestFlit s1 r (spaceEp s1 addr) (spaceAddr addr))
    | _ => launchRequest s1 o.2 (requestFlit s1 r (spaceEp s1 addr) (spaceAddr addr))

/-- Requests whose requester a reset or a stop has taken away: what is on its way still comes, for no one. -/
def abandon (n : Net) (gone : Request → Bool) : Net :=
  let waits (r : Request) : Bool := r.state = .translating || r.state = .sent
  { n with requests := (n.requests.filter fun r => !gone r || waits r).map fun r => if gone r then { r with who := .nobody } else r }

/-- Bytes a flit's BYTE_EN names, as rows of one byte, of half `h` (R307, R321). -/
def flitRows (base : Nat) (f : Flit) (h : Nat) : List (Nat × List Byte) :=
  (List.range 64).filterMap fun i =>
    let b := 64 * h + i
    if f.byteEn.getLsbD b then some (base + b, [f.payload.getD b 0]) else none

/-- R321, R180: a flit's bytes written into a core's memory; also the granules marked poisoned. -/
def coreFlitWrite (m : CoreMem) (base : Nat) (f : Flit) : CoreMem × Nat :=
  let a := writeRows m (flitRows base f 0) (f.poison.getLsbD 0)
  let b := writeRows a.1 (flitRows base f 1) (f.poison.getLsbD 1)
  (b.1, a.2 + b.2)

end Sys2Proof.Machine
end

