-- ==== Sys2Proof/Machine/TowerOps.lean ====
section
/-! DEFINITION. Shared operations of the towers: controller ports, classes and events (R331, R333, R352), what the check code finds in
a half (R337 to R339), the requests that the caravanserai banks and the translation block make at once, and their walks (R299, R592). -/

namespace Sys2Proof.Machine

/-- R331: the controller port of a flit, none where no port serves its source. MGT flits are served for the management complex
alone. -/
def smPort (f : Flit) : Option Nat :=
  let kind := nodeKind f.srcX.val f.srcY.val
  if f.cls = clsMgt ∧ kind ≠ .management then none
  else
    match kind with
    | .core => some (if f.cls = clsReq then 0 else 1)
    | .caravanserai => some (if f.srcSub = 0 then 2 else 3)
    | .pcie => some (if f.cls = clsReq then 4 else 5)
    | .askua => some 6
    | .management => some 7
    | _ => none

/-- R331, R333: the effective class of a request: its port's class, or 0 once it is aged. -/
def effectiveClass (s : State) (r : SmRequest) : Nat := if r.aged then 0 else dictGet s (keyPortClass0 + r.port)

/-- R548: an event of a controller, tied to a request. -/
def smEvent (s : State) (q : Place) (r : SmRequest) (ev : Nat) : State :=
  countEvent s .controller (16 * q.tower + q.ctl) ev
    { unit := 1 + q.pc, master := some r.port, cls := some (effectiveClass s r), addr := some r.flit.addr.toNat } 1

/-- An event of a controller tied to a line and to no request. -/
def smLineEvent (s : State) (q : Place) (ev pa : Nat) : State :=
  countEvent s .controller (16 * q.tower + q.ctl) ev { unit := 1 + q.pc, addr := some pa } 1

/-- The pseudo-channel of a place, within its tower. -/
def pcIndex (q : Place) : Nat := 2 * q.ctl + q.pc

/-- The bank of a place, over the stack IDs. -/
def bankIndex (q : Place) : Nat := 16 * q.sid + q.bank

/-- Outcomes of a decoded half (R339). -/
inductive HalfOutcome where
  | clean | corrected | storedPoison | uncorrectable
deriving DecidableEq, Repr

/-- R337, R338: the outcome of a half with some wrong symbols; above six, which the spec leaves open, a free choice.
DESIGN CHOICE (log entry 13). -/
def halfOutcome (s : State) (stored : Bool) (symbols : Nat) : HalfOutcome :=
  if symbols ≤ 2 then (if stored then .storedPoison else if symbols = 0 then .clean else .corrected)
  else if symbols ≤ 6 then .uncorrectable
  else match Config.freeChoice s.free 4 % 4 with
    | 0 => .clean | 1 => .corrected | 2 => .storedPoison | _ => .uncorrectable

/-- A U64 count of the dictionary raised by one. -/
def dictCount64 (s : State) (key : Nat) : State := dictSet s key ((dictGet s key + 1) % 2 ^ 64)

/-- R339: an uncorrectable half: the newest one noted, and an entry, at most one per ms and tower. -/
def towerUe (s : State) (q : Place) (pa : Nat) : State :=
  let t := getTower s.stacked q.tower
  let s1 := dictSet (dictSet s keyLastUeAddr pa) keyLastUeTime (calendar s).toNat
  let recent := match t.lastUe with | some g => decide (s.gtc.toNat < g + 1000000) | none => false
  if recent then { s1 with stacked := setTower s1.stacked q.tower { t with suppressed := t.suppressed + 1 } }
  else
    logEntry { s1 with stacked := setTower s1.stacked q.tower { t with suppressed := 0, lastUe := some s.gtc.toNat } } 2 0x3001 2 q.tower
      (packData [(64, pa), (8, q.ctl), (32, t.suppressed)])

/-- R339: one half that holds `bytes` and stores poison or not decoded: the state, the bytes delivered, and the POISON bit. A half
found uncorrectable is rewritten as stored poison. DESIGN CHOICE (log entry 81). -/
def decodeBytes (s : State) (q : Place) (pa : Nat) (stored : Bool) (bytes : List Byte) (h : HalfRead) : State × List Byte × Bool :=
  let many := 6 < h.symbols
  let s0 := if many then useFree s 1 else s
  let asRead := (List.range 64).map fun i => h.asRead.getD i 0
  match halfOutcome s stored h.symbols with
  | .clean => (s0, if many then asRead else bytes, false)
  | .corrected => (smLineEvent (dictCount64 s0 keyEccCorrected) q 0x1A pa, if many then asRead else bytes, false)
  | .storedPoison =>
    (smLineEvent (dictCount64 (useFree s0 64) keyPoisonRead) q 0x1C pa, if many then asRead else freshBytes s0 64, true)
  | .uncorrectable =>
    let s1 := smLineEvent (dictCount64 s0 keyEccUncorrected) q 0x1B pa
    (towerUe { s1 with stacked := { s1.stacked with poison := mapSet false s1.stacked.poison (pa / 64) true } } q pa, asRead, true)

/-- R339: one half decoded as it stands in memory. -/
def decodeHalf (s : State) (q : Place) (pa : Nat) (h : HalfRead) : State × List Byte × Bool :=
  decodeBytes s q pa (mapGet false s.stacked.poison (pa / 64)) (mapRead 0 s.stacked.bytes pa 64) h

/-- R336, R342: a decoded half written back. What it holds changes only where the decoder took an error of more than six symbols for
something else (R337): the half then stores what the decoder delivered. -/
def writeBack (s : State) (pa : Nat) (h : HalfRead) (bytes : List Byte) (poison : Bool) : State :=
  if 6 < h.symbols then
    { s with stacked := { s.stacked with bytes := mapWrite 0 s.stacked.bytes pa bytes, poison := mapSet false s.stacked.poison (pa / 64) poison } }
  else s

/-- R336, R339, R342: the line at `pa` read, decoded and written back: its bytes and marks as delivered. -/
def rewriteLine (s : State) (q : Place) (pa : Nat) (low high : HalfRead) : State :=
  let a := decodeHalf s q pa low
  let b := decodeHalf (writeBack a.1 pa low a.2.1 a.2.2) q (pa + 64) high
  writeBack b.1 (pa + 64) high b.2.1 b.2.2

/-- R345: whether the coordinated low rate is in force: with LS_REFRESH_MODE at FIXED it never is. -/
def lowRateNow (s : State) : Bool := dictGet s keyLsRefreshMode = 1 && s.stacked.lowRate

/-- R344: ticks between the slots of a tower. DEDUCED (log entry 49). -/
def slotPeriod (s : State) (t : Nat) : Nat := if lowRateNow s && !(getTower s.stacked t).high then 242 else 121

/-! Requests that the banks and the translation block make at once (R331, R352). -/

/-- R333, R352: the commands of one line's access at a controller port, after the requests queued for it: the row opened where it is
closed, another row closed first, and the column command. DESIGN CHOICE (log entry 86). -/
def smServe (s : State) (pa port : Nat) (write : Bool) : State :=
  let q := placeOf pa
  let b := bankIndex q
  let r : SmRequest := { flit := mkFlit (0, 0, 0) (0, 0, 0) (if write then clsWr else clsReq) 0 0 pa 0 [] 0 false, port := port, aged := false, opened := false }
  let pc := getPc s.stacked q.tower (pcIndex q)
  let open_ := mapGet none pc.openRows b
  let s1 := if open_ = some q.row then smEvent s q r 0x12
    else
      let s2 := { s with stacked := setPc s.stacked q.tower (pcIndex q) { pc with openRows := mapSet none pc.openRows b (some q.row) } }
      smEvent (if open_.isSome then smEvent s2 q r 0x14 else s2) q r 0x13
  smEvent s1 q r (if write then 0x11 else 0x10)

/-- R339: a half read at a controller port, after the writes accepted for it: its bytes, and whether it carries a mark. -/
def smReadHalf (s : State) (pa port : Nat) (h : HalfRead) : State × List Byte × Bool :=
  let m := settled s.stacked pa
  decodeBytes (smServe s pa port false) (placeOf pa) pa (mapGet false m.poison (pa / 64)) (mapRead 0 m.bytes pa 64) h

/-- R299, R592: the walk of a translation from entry `i` at a level, `n` levels left: each entry is a half read at port QM, with what
the check code finds there; a half that stores poison or is uncorrectable is a denial. -/
def walkTable (s : State) (t : TtShape) (va : Nat) : Nat → Nat → Nat → List Nat → List HalfRead → State × Walk
  | 0, _, _, _, _ => (s, .denial)
  | n + 1, level, i, seen, reads =>
    let shift := 39 - 9 * level
    let pa := t.base + 8 * i
    if t.entries ≤ i then (s, .miss)
    else
      let r := smReadHalf s (pa / 64 * 64) 3 (reads.headD { symbols := 0, asRead := [] })
      let e := leNat ((r.2.1.drop (pa % 64)).take 8)
      if r.2.2 then (r.1, .denial)
      else if e % 2 = 0 then (r.1, .miss)
      else if ttMalformed t level e then (r.1, .denial)
      else if bits e 3 2 = 1 then walkTable r.1 t va n (level + 1) (bits e 12 33 + bits va (shift - 9) 9) (seen ++ [i]) (reads.drop 1)
      else (r.1, leafOf va shift (seen ++ [i]) e)

/-- R233, R592: a translation made: from the cache, or by a walk with what its reads find. -/
def translateBy (s : State) (va : Nat) (reads : List HalfRead) : State × Walk :=
  if 2 ^ 39 ≤ va then (s, .miss)
  else
    match ttCached s.queues.ttCache va with
    | some (l, cache) => ({ s with queues := { s.queues with ttCache := cache } }, .hit (l.target + va % 2 ^ l.sizeLog2) l)
    | none =>
      let w := walkTable s (ttShape s) va 3 1 (bits va 30 9) [] reads
      match w.2 with
      | .hit pa l => ({ w.1 with queues := { w.1.queues with ttCache := (l :: w.1.queues.ttCache).take 8192 } }, .hit pa l)
      | o => (w.1, o)

/-! The caravanserai's reserved region. -/

/-- R329: line `n` of a tower's 4 MiB share of the reserved region: of its reserved lines, in order of physical address, 32 lie in
every 16 KiB. -/
def shareLine (tower n : Nat) : Nat :=
  let half := if tower % 4 < 2 then 0 else 1
  let tw := tower % 2 + (if tower < 4 then 0 else 2)
  let v := 0x23FF000000 / 16384 + n / 32
  half * halfBytes + 128 * (128 * v + 32 * (tw ^^^ (v % 128 / 32)) + n % 32)

/-- R247: the home of a caravan context. -/
def contextHome (v : Nat) : Nat :=
  let c := v % 131072
  shareLine (4 * (v / 131072) + c / 32768) (c % 32768)

/-- R248: a context written to its home, at port CTX. What its 128 bytes hold the spec does not give. DESIGN CHOICE (log entry 87). -/
def storeContext (s : State) (v : Nat) : State :=
  let s1 := smServe s (contextHome v) 2 true
  useFree { s1 with stacked := stackWrite s1.stacked (contextHome v) (freshBytes s1 128) false } 128

/-- R248: a context read from its home, at port CTX. -/
def loadContext (s : State) (v : Nat) : State := smServe s (contextHome v) 2 false

/-- R299, R331: an entry of the translation table written at port QM. -/
def ttStore (s : State) (i e : Nat) : State := ttWrite (smServe s ((ttShape s).base + 8 * i) 3 true) i e

end Sys2Proof.Machine
end

