-- ==== Sys2Proof/Machine/Caravan.lean ====
section
/-! DEFINITION. Caravans at work: holds, the write window, delivered lines, demand faults, the drain, the report record, and what a
resume, a discard and a reset do (R241 to R268). -/

namespace Sys2Proof.Machine

/-- R242: state codes. -/
def cvCode : CvState → Nat
  | .free => 0 | .armed => 1 | .running => 2 | .faultWait => 3 | .halted => 4 | .done => 5 | .failed => 6

/-- R242: whether a caravan has ended, for XGRN.CVWAIT and CARAVAN_IRQ. -/
def cvEnded (x : Caravan) : Bool := (x.state = .halted || x.state = .done || x.state = .failed) && x.ending.isNone

/-- R267: receivers that are not pruned. -/
def liveReceivers (x : Caravan) : List Receiver := x.receivers.filter fun r => !(r.core < 96 && x.pruned.getLsbD r.core)

/-- R240: the lines from unit `u` on, added to `k`. -/
def countLines (d : CvDesc) : Nat → Nat → Nat → Nat
  | 0, _, k => k
  | n + 1, u, k => if u < totalUnits d then countLines d n (u + lineLength none d u) (k + 1) else k

/-- R240: the caravan's line count. How it is cut does not depend on the module's own address. -/
def lineCount (d : CvDesc) : Nat := countLines d (totalUnits d) 0 0

/-- R253, R266: U, the lowest line that some unpruned receiver has not yet written; with every receiver pruned, the line count. -/
def windowBase (x : Caravan) : Nat :=
  match liveReceivers x with
  | [] => if x.receivers.isEmpty then 0 else lineCount (cvDesc x.desc)
  | r :: t => t.foldl (fun m r => min m r.low) r.low

/-- Whether a receiver has a line. -/
def receiverHas (r : Receiver) (line : Nat) : Bool := line < r.low || r.ahead.contains line

/-- Whether a line is delivered: to every unpruned receiver. -/
def lineDelivered (x : Caravan) (line : Nat) : Bool := (liveReceivers x).all (receiverHas · line)

/-- A receiver's lowest unwritten line raised over the lines it has ahead. -/
def advance : Nat → Receiver → Receiver
  | 0, r => r
  | n + 1, r => if r.ahead.contains r.low then advance n { r with low := r.low + 1, ahead := r.ahead.filter (· ≠ r.low) } else r

/-- A line written at a receiver. -/
def receiverTakes (r : Receiver) (line : Nat) : Receiver :=
  if receiverHas r line then r else advance (r.ahead.length + 1) { r with ahead := r.ahead ++ [line] }

/-- R245: LINES_DONE; a caravan that has not begun has no receivers yet, and no line delivered. With every receiver pruned, a line
counts that some receiver has. DESIGN CHOICE (log entry 87). -/
def linesDone (x : Caravan) : Nat :=
  if (liveReceivers x).isEmpty then
    let u := (x.receivers.map (·.low)).foldl max 0
    u + ((List.range 64).filter fun b => x.receivers.any (receiverHas · (u + b))).length
  else
    let u := windowBase x
    u + ((List.range 64).filter fun b => lineDelivered x (u + b)).length

/-- R245: the status word of a caravan. -/
def cvStatusWord (x : Caravan) : U64 :=
  BitVec.ofNat 64 (x.status % 256 + (cvCode x.state) <<< 8 + (sat32 (linesDone x)) <<< 32)

/-- R548: attributes of a caravan's events; `addr` is the source of the line. -/
def cvAttr (x : Caravan) (addr : Option Nat) : EvAttr :=
  { machine := some x.machine, master := some x.thread.val, cls := some (if (cvDesc x.desc).task then 1 else 0), addr := addr }

/-- R271: an event of a caravan, at the core that armed it. -/
def cvEvent (s : State) (v ev n : Nat) (addr : Option Nat) : State :=
  let x := getCv s v
  countEvent s .core x.core.val ev (cvAttr x addr) n

/-- R247: the bank of a caravan number. -/
def cvBank (v : Nat) : Nat := if v < 131072 then 0 else 1

/-- R248: the list with its last element that is not pinned taken out. -/
def evict (pinned : CaravanId → Bool) : List CaravanId → List CaravanId
  | [] => []
  | v :: t => if t.any (fun w => !pinned w) then v :: evict pinned t else if pinned v then v :: t else t

/-- R248: a context touched for core `c`: moved to the front on die, or read from its home, with the least recently touched unpinned
one written to its own, and CTX_FILL. -/
def touchFor (s : State) (v : CaravanId) (c : CoreId) : State :=
  let b := mapGet {} s.banks (cvBank v.val)
  let pinned (w : CaravanId) : Bool := (getCv s w.val).state = .running || (getCv s w.val).state = .faultWait
  if b.onDie.contains v then
    { s with banks := mapSet {} s.banks (cvBank v.val) { b with onDie := v :: b.onDie.filter (· ≠ v), fetching := b.fetching.filter (· ≠ v) } }
  else
    let kept := if 8192 ≤ b.onDie.length then evict pinned b.onDie else b.onDie
    let s1 := { s with banks := mapSet {} s.banks (cvBank v.val) { b with onDie := v :: kept, fetching := b.fetching.filter (· ≠ v) } }
    let s2 := match b.onDie.find? (fun w => !kept.contains w) with | some w => storeContext s1 w.val | none => s1
    countEvent (loadContext s2 v.val) .core c.val 0x5C (cvAttr (getCv s v.val) none) 1

/-- R248: a context touched for the core that armed it. -/
def touchContext (s : State) (v : CaravanId) : State := touchFor s v (getCv s v.val).core

/-- R210: the packing of a range. DEDUCED (log entry 36). -/
def packRange (r : Range) : Nat := (r.rowBytes - 1) + r.pitch <<< 22 + (r.rows - 1) <<< 45

/-- R250: a hold asked for at a core of this module for a caravan. A hold on another core goes there as a HOLD_REQ: the range
packing of R210; ACK_REQ says that it is a write hold. -/
def requestHold (s : State) (v : CaravanId) (core : Nat) (w : Bool) (p : Part) (r : Range) : State :=
  let x := getCv s v.val
  let h : Hold := { owner := .caravan v, write := w, part := p, range := r }
  if core = x.core.val then
    let k := getCore s x.core
    setCore s x.core { k with mem := { k.mem with pendingHolds := k.mem.pendingHolds ++ [{ hold := h, request := none }] } }
  else
    let o := openRequest s.net
      { id := 0, who := .holdReq v core, write := w, addr := BitVec.ofNat 64 (2 ^ 60 + 2 ^ 22 * core + r.base), phys := none, be := 0
        bytes := [], poison := 0, prefetch := false, pasid := none, flit := none, left := [], state := .sent }
    let f := mkFlit (coreEp s x.core.val) (coreEp s core) clsReq 0x05 o.2 r.base 0xFF
      (natBytes 8 (packRange r)) 0 w
    launchRequest { s with net := o.1 } o.2 f

/-- R250: a hold asked for at a core of another module. -/
def requestRemoteHold (s : State) (v : CaravanId) (addr : Nat) (w : Bool) (r : Range) : State :=
  let x := getCv s v.val
  let o := openRequest s.net
    { id := 0, who := .holdReq v (cmCore addr), write := w, addr := BitVec.ofNat 64 addr, phys := none, be := 0
      bytes := [], poison := 0, prefetch := false, pasid := none, flit := none, left := [], state := .sent }
  launchRequest { s with net := o.1 } o.2 (mkFlit (coreEp s x.core.val) (spaceEp s addr) clsReq 0x05 o.2 addr 0xFF
    (natBytes 8 (packRange r)) 0 w)

/-- R250, R266: the receivers of a caravan that starts. A destination outside core memory is one receiver, numbered 128. -/
def startReceivers (sys : Option Nat) (d : CvDesc) : List Receiver :=
  let dst := cvDst sys d
  if d.op = 2 then ((List.range 96).filter (d.mask.getLsbD ·)).map fun c => { core := c }
  else if isCoreSpace dst then [{ core := cmCore dst }]
  else [{ core := 128, holdGranted := true }]

/-- R250: whether a caravan's request for a hold is still to be granted: in a core's table, or on its way. -/
def holdAsked (s : State) (v : CaravanId) (core : Nat) (w : Bool) : Bool :=
  (s.net.requests.any fun r => r.who = .holdReq v core && r.write = w)
    || ((mapGet {} s.cores core).mem.pendingHolds.any fun p => p.hold.owner = .caravan v && p.hold.write = w)

/-- R250, R262: the holds that a caravan entering RUNNING does not have and has not asked for are asked for. -/
def askHolds (s : State) (v : CaravanId) : State :=
  let x := getCv s v.val
  let d := cvDesc x.desc
  let src := cvSrc (sysAddr s) d
  let dst := cvDst (sysAddr s) d
  let s1 :=
    if x.sourceHeld ∨ x.sourceReleased ∨ holdAsked s v (cmCore src) false then s
    else if spaceOf src = 1 then requestHold s v (cmCore src) false .source (cvSrcRange d)
    else requestRemoteHold s v src false (cvSrcRange d)
  (liveReceivers x).foldl (fun s r =>
    if r.holdGranted ∨ holdAsked s v r.core true then s
    else if d.op = 2 ∨ spaceOf dst = 1 then requestHold s v r.core true .destination (cvDstRange d)
    else requestRemoteHold s v dst true (cvDstRange d)) s1

/-- R243, R250: a caravan enters RUNNING and asks for its holds. -/
def startCaravan (s : State) (v : CaravanId) : State :=
  let d := cvDesc (getCv s v.val).desc
  let sys := sysAddr s
  let start (x : Caravan) : Caravan :=
    if x.receivers.isEmpty then { x with state := .running, receivers := startReceivers sys d, sourceHeld := !isCoreSpace (cvSrc sys d) }
    else { x with state := .running }
  askHolds (modCv (touchContext s v) v.val start) v

/-- R175: whether a pending hold may begin now. -/
def mayHold (m : CoreMem) (h : Hold) : Bool :=
  holdsFree m 1 && (if h.write then mayWrite m h.owner h.range else mayRead m h.owner h.range)

/-- R176, R249: the first pending hold of an owner that may begin, where no older request that may begin overlaps it; the
others are left. -/
def grantable (m : CoreMem) (own : Owner → Bool) : List PendingHold → List PendingHold → Option (PendingHold × List PendingHold)
  | _, [] => none
  | before, p :: t =>
    if own p.hold.owner && mayHold m p.hold
        && !(before.any fun q => mayHold m q.hold && rangesOverlap q.hold.range p.hold.range) then some (p, before ++ t)
    else grantable m own (before ++ [p]) t

/-- R175: a hold placed on a core. -/
def placeHold (c : Core) (h : Hold) : Core :=
  if h.write then coreBeginWrite c h.owner h.part h.range else { c with mem := beginRead c.mem h.owner h.part h.range }

/-- R267: granules of a destination range that are not yet fully written: some byte of the range in them has not been
written by a line the receiver has. DEDUCED (log entry 37). -/
def unwrittenGranules (sys : Option Nat) (d : CvDesc) (r : Receiver) : List Nat :=
  let range := cvDstRange d
  let lines := List.range r.low ++ r.ahead
  let written := lines.flatMap fun k => (unitsOf sys d k).flatMap fun u => (List.range (unitSize d)).map fun b => cmAddr u.2 + b
  (rangeGranules range).filter fun g => (List.range 64).any fun b => rangeHasByte range (64 * g + b) && !written.contains (64 * g + b)

/-- R180, R267: what a pruned receiver's stream unit does once it holds the range: poison, with POISON_WRITES for each granule
marked, and complete, the hold ended, and the entry written. -/
def pruneReceiver (s : State) (v : CaravanId) (c : CoreId) : State :=
  let x := getCv s v.val
  let d := cvDesc x.desc
  match x.receivers.find? fun r => r.core = c.val with
  | none => s
  | some r =>
    let k := getCore s c
    let gs := unwrittenGranules (sysAddr s) d r
    let k1 := coreEndWrite { k with mem := { k.mem with poison := mapSetAll false k.mem.poison gs true } } (.caravan v) .destination (cvDstRange d)
    let marked := (gs.filter fun g => !granulePoison k.mem g).length
    logEntry (countEvent (setCore s c k1) .core c.val 0x32 (cvAttr x none) marked) 2 0x6008 1 c.val (packData [(32, v.val)])

/-- R260: the kinds of demand faults. -/
inductive FaultKind where
  | missHost | missStacked | denial | remote | port
deriving DecidableEq, Repr

/-- R239, R260: the status and the state a fault leads to, by policy (0 WAIT, 1 HALT, 2 FAIL). -/
def faultPolicy (k : FaultKind) (policy : Nat) : Nat × CvState :=
  match k with
  | .missHost => (0x10, if policy = 0 then .faultWait else if policy = 1 then .halted else .failed)
  | .missStacked => (0x10, if policy = 2 then .failed else .halted)
  | .denial => (0x44, .failed)
  | .remote => (0x47, if policy = 2 then .failed else .halted)
  | .port => (0x48, if policy = 2 then .failed else .halted)

/-- R260, R370: the kind of fault an answer is, for an endpoint of a space. -/
def faultKind (space : Nat) (a : ReadAnswer) : FaultKind :=
  match a with
  | .missed => if space = 2 then .missHost else .missStacked
  | .denied => .denial
  | _ => if space = 3 then .port else if space = 4 ∨ space = 5 then .remote else .denial

/-- R260: a demand fault: CV_FAULT and the entry; the first one of a drain decides how the caravan leaves RUNNING. -/
def demandFault (s : State) (v : CaravanId) (k : FaultKind) (side : Bool) (addr : Nat) : State :=
  let x := getCv s v.val
  let p := faultPolicy k (cvDesc x.desc).policy
  let s1 := cvEvent s v.val 0x5D 1 (if side then none else some addr)
  let s2 := breachCm (logEntry s1 2 0x6006 1 x.core.val (packData [(32, v.val), (8, p.1), (64, addr)])) 5
  if x.fault.isSome then s2
  else
    let s3 := modCv s2 v.val fun x => { x with fault := some { status := p.1, target := p.2, side := side, addr := BitVec.ofNat 64 addr } }
    if p.2 = .faultWait then { s3 with pcie := { s3.pcie with waiting := s3.pcie.waiting ++ [v] } } else s3

/-- R260: a line whose write failed is not on its way any more, and the failure is a demand fault. -/
def failLine (s : State) (v : CaravanId) (line : Nat) (k : FaultKind) (addr : Nat) : State :=
  demandFault (modCv s v.val fun x => { x with sent := x.sent.filter (·.line ≠ line) }) v k true addr

/-- The first unit's address of a line, source or destination side. -/
def lineAddr (s : State) (x : Caravan) (line : Nat) (side : Bool) : Nat :=
  let u := unitAddr (sysAddr s) (cvDesc x.desc) (lineStart (sysAddr s) (cvDesc x.desc) line)
  if side then u.2 else u.1

/-- R250: a read hold of a caravan released. -/
def releaseSource (s : State) (v : CaravanId) : State :=
  let x := getCv s v.val
  let src := cvSrc (sysAddr s) (cvDesc x.desc)
  if spaceOf src = 1 then
    let c : CoreId := Fin.ofNat 96 (cmCore src)
    let k := getCore s c
    modCv (setCore s c { k with mem := releaseHold k.mem (.caravan v) .source }) v.val fun x => { x with sourceReleased := true }
  else modCv s v.val fun x => { x with sourceReleased := true }

/-- R250: once every source line has been read, the read hold is released. -/
def sourceReadOut (s : State) (v : CaravanId) : State :=
  let x := getCv s v.val
  let d := cvDesc x.desc
  let sys := sysAddr s
  if ¬ isCoreSpace (cvSrc sys d) ∨ x.sourceReleased ∨ ¬ x.reads.isEmpty then s
  else
    let u := windowBase x
    let have_ (k : Nat) : Bool := lineDelivered x k || (x.sent.any fun b => b.line = k) || x.buffer.any fun b => b.line = k
    let all := (List.range 65).all fun i => !hasLine sys d (u + i) || have_ (u + i)
    if all && !hasLine sys d (u + 65) then releaseSource s v else s

/-- R250, R175: a receiver that has every line ends its write hold. DEDUCED (log entry 37). -/
def endReceiver (s : State) (v : CaravanId) (r : Receiver) : State :=
  let d := cvDesc (getCv s v.val).desc
  if r.core < 96 ∧ (d.op = 2 ∨ spaceOf (cvDst (sysAddr s) d) = 1) then
    let c : CoreId := Fin.ofNat 96 r.core
    setCore s c (coreEndWrite (getCore s c) (.caravan v) .destination (cvDstRange d))
  else s

/-- R243, R246: the end of a transfer whose every unpruned receiver has every line. -/
def finishIfDone (s : State) (v : CaravanId) : State :=
  let x := getCv s v.val
  let d := cvDesc x.desc
  if x.ending.isNone ∧ (liveReceivers x).all (fun r => !hasLine (sysAddr s) d r.low) then
    let status := if x.pruned ≠ 0 then 0x46 else if x.poisoned then 0x0C else 0
    modCv s v.val fun x => { x with ending := some (.done, status), fault := none }
  else s

/-- R271: lines on their way that every unpruned receiver now has are on their way no more; PF_USED and PF_TIMELY count those that a
prefetch brought. -/
def settleSent (s : State) (v : CaravanId) : State :=
  let x := getCv s v.val
  let done := x.sent.filter fun b => lineDelivered x b.line
  let s1 := modCv s v.val fun x => { x with sent := x.sent.filter fun b => !lineDelivered x b.line }
  if (liveReceivers x).isEmpty then s1
  else done.foldl (fun s b =>
    let src := some (lineAddr s x b.line false)
    let s2 := if b.prefetched then cvEvent s v.val 0x53 1 src else s
    if b.timely then cvEvent s2 v.val 0x54 1 src else s2) s1

/-- R241, R266: a line delivered at a receiver: the window advances, CV_LINES counts it, and a receiver that has every line
ends its hold. -/
def deliverAt (s : State) (v : CaravanId) (core line : Nat) (poison : Bool) : State :=
  let x := getCv s v.val
  match x.receivers.find? fun r => r.core = core with
  | none => s
  | some r =>
    if receiverHas r line then s
    else
      let r' := receiverTakes r line
      let s1 := cvEvent s v.val 0x51 1 (some (lineAddr s x line false))
      let s2 := modCv s1 v.val fun x =>
        { x with receivers := x.receivers.map fun q => if q.core = core then r' else q, poisoned := x.poisoned || poison }
      let s3 := if hasLine (sysAddr s) (cvDesc x.desc) r'.low then s2 else endReceiver s2 v r'
      finishIfDone (sourceReadOut (settleSent s3 v) v) v

/-- R253: how many lines a core's stream unit holds or awaits. -/
def bufferedLines (s : State) (c : CoreId) : Nat :=
  ((getCore s c).stream.active.map fun v => (getCv s v.val).buffer.length + (getCv s v.val).reads.length).sum

/-- R253: whether a read of a line would be a demand read now. -/
def isDemand (x : Caravan) (line : Nat) : Bool :=
  line ≤ windowBase x + 63 && (liveReceivers x).all (·.holdGranted)

/-- R256: whether a prefetch read may be made of a source. DEDUCED (log entry 35). -/
def mayPrefetch (s : State) (d : CvDesc) (src : Nat) : Bool :=
  match spaceOf src with
  | 0 => true
  | 2 => s.pcie.ats && (match atsFind s.pcie d.pasid (bits src 0 57) with | some l => !l.noPrefetch | none => true)
  | 4 => !d.regulated
  | 6 => true
  | _ => false

/-- R256: the bytes a prefetch read names of the aligned line at `src`: those inside the source window. -/
def prefetchMask (sys : Option Nat) (d : CvDesc) (src : Nat) : BitVec 128 :=
  let line : Int := (src / 128 * 128 : Nat) - (cvSrc sys d : Int) + d.src
  let lo := (d.winBase - line : Int).toNat
  let hi := min 128 (d.winLimit - line : Int).toNat
  byteMask lo (hi - lo)

/-- R253 to R257: the read of a line issues: a demand read in line order, or a prefetch read where it is permitted, with a toll
for a REGULATED one. -/
def issueRead (s : State) (v : CaravanId) (line : Nat) : State :=
  let x := getCv s v.val
  let d := cvDesc x.desc
  let sys := sysAddr s
  let c := x.core
  let k := getCore s c
  let start := lineStart sys d line
  let len := lineLength sys d start
  let src := (unitAddr sys d start).1
  let busy (n : Nat) : Bool :=
    lineDelivered x n || (x.sent.any fun b => b.line = n) || (x.buffer.any fun b => b.line = n) || x.reads.any fun r => r.line = n
  let u := windowBase x
  let demand := isDemand x line
  let marked := !d.regulated && decide (x.markLimit ≤ (start + len - 1) / unitsPerElem d)
  let tollFree := decide (k.stream.spent < dictGet s keyTollBurst)
  let able := x.state = .running ∧ x.fault.isNone ∧ x.ending.isNone ∧ start < totalUnits d ∧ ¬ busy line ∧ ¬ marked
    ∧ x.sourceHeld ∧ line ≤ u + 63 + d.pfDepth ∧ bufferedLines s c < 1024
  if able ∧ (if demand then (List.range (line - u)).all (fun i => busy (u + i))
      else mayPrefetch s d src && !x.demandOnly.contains line && (!d.regulated || tollFree)) then
    let s1 := modCv s v.val fun x =>
      { x with reads := x.reads ++ [{ line := line, prefetch := !demand, stale := false }], demandOnly := x.demandOnly.filter (· ≠ line) }
    let s2 := if ¬ demand ∧ d.regulated then setCore s1 c { k with stream := { k.stream with spent := k.stream.spent + 1 } } else s1
    let addrs := (unitsOf sys d line).map (·.1)
    submit s2 (.caravanLine v line) false (src / 128 * 128) (if demand then unitMask (unitSize d) addrs else prefetchMask sys d src) [] 0
      (!demand) d.pasid
  else s

/-- R257, R258: a line whose prefetch brought nothing is read on demand. -/
def onDemand (s : State) (v : CaravanId) (line : Nat) : State := modCv s v.val fun x => { x with demandOnly := x.demandOnly ++ [line] }

/-- R253, R257, R258, R260: the data of a line arrives, or its read fails. -/
def lineArrives (s : State) (v : CaravanId) (line : Nat) (r : LineRead) (phys : Option Nat) (a : ReadAnswer) : State :=
  let x := getCv s v.val
  let src := lineAddr s x line false
  let s1 := modCv s v.val fun x => { x with reads := x.reads.filter fun q => q.line ≠ line }
  match a with
  | .data bytes poison =>
    let s2 := if r.prefetch then cvEvent s1 v.val 0x52 1 (some src) else s1
    if r.stale then onDemand (cvEvent s2 v.val 0x56 1 (some src)) v line
    else
      sourceReadOut (modCv s2 v.val fun x =>
        { x with buffer := x.buffer ++ [{ line := line, phys := phys, bytes := bytes, poison := poison, prefetched := r.prefetch
                                          timely := r.prefetch && !isDemand x line }] }) v
  | .failed =>
    if r.prefetch then onDemand (cvEvent s1 v.val 0x52 1 (some src)) v line
    else demandFault s1 v (faultKind (spaceOf (cvSrc (sysAddr s) (cvDesc x.desc))) a) false src
  | _ =>
    if r.prefetch then onDemand (cvEvent s1 v.val 0x55 1 (some src)) v line
    else demandFault s1 v (faultKind (spaceOf (cvSrc (sysAddr s) (cvDesc x.desc))) a) false src

/-- R253, R266: the first line in order of arrival that lies in the write window and is not yet sent. A multicast line waits for the
holds at its receivers, any other line here. -/
def nextDelivery (x : Caravan) : Option BufLine :=
  if (cvDesc x.desc).op = 2 ∨ (liveReceivers x).all (·.holdGranted) then x.buffer.find? fun b => b.line ≤ windowBase x + 63 else none

/-- R314: the receive entries a stream unit may use at one receiving core. DEDUCED (log entry 36). -/
def strRoom : Nat := 64

def creditKey (sender receiver : Nat) : Nat := 128 * sender + receiver

/-- R314: the receive entries that a line of a caravan of core `c` takes: at another core of this module, or of the module that the
address names. -/
def creditOfLine (c dst : Nat) : List Nat :=
  if spaceOf dst = 1 ∧ cmCore dst ≠ c then [creditKey c (cmCore dst)]
  else if spaceOf dst = 5 then [2 ^ 20 * (1 + bits dst 39 15) + creditKey c (cmCore dst)] else []

/-- R314: receive entries free again. -/
def freeCredits (s : State) (keys : List Nat) (n : Nat) : State :=
  { s with net := { s.net with spent := keys.foldl (fun m k => mapMod 0 m k (· - n)) s.net.spent } }

/-- R319: the distinct column sets of a set of receivers, each with the rows that have it, in order of the lowest row. -/
def multicastGroups (fu : Fuses) (receivers : List Nat) : List (List Nat × Nat × Nat) :=
  let rowCols (r : Nat) : Nat := (receivers.filter fun c => c / 12 = r).foldl (fun m c => m ||| 1 <<< ((coreNode fu c).1 - 1)) 0
  let rows := (List.range 8).filter fun r => rowCols r ≠ 0
  ((rows.map rowCols).dedup.map fun cols =>
    let rs := rows.filter fun r => rowCols r = cols
    (receivers.filter fun c => rs.contains (c / 12), cols, rs.foldl (fun m r => m ||| 1 <<< r) 0)).mergeSort
      fun a b => (a.1.foldl min 96) / 12 ≤ (b.1.foldl min 96) / 12

/-- R318, R319: the packets of a multicast line. -/
def sendLineMulticast (s : State) (x : Caravan) (id : Nat) (cm : Nat) (be : BitVec 128) (bytes : List Byte) (poison : BitVec 2) : State :=
  let receivers := (liveReceivers x).map (·.core)
  let s1 := { s with net := setRequest s.net id fun r => { r with left := receivers } }
  (multicastGroups s.fuses receivers).foldl (fun s g =>
    let f := { mkFlit (coreEp s x.core.val) (0, 0, 0) clsStr 0x04 id (cm + g.2.1 <<< 22 + g.2.2 <<< 35) be bytes
      poison false with mcast := true }
    sendMulticast s f g.1) s1

/-- R264, R321: the poison marks of the destination's halves: bytes keep the mark of the source half they came from. A unit lies
within one half of its line, or is the whole line. DEDUCED (log entry 38). -/
def destPoison (e : Nat) (marks : BitVec 2) (units : List (Nat × Nat)) : BitVec 2 :=
  if e = 128 then marks
  else units.foldl (fun p u => if marks.getLsbD (bits u.1 6 1) then p ||| BitVec.ofNat 2 (2 ^ bits u.2 6 1) else p) 0

/-- R180: the rows of a line written into core memory, the clean ones and the poisoned ones. -/
def lineRows (e : Nat) (marks : BitVec 2) (units : List (Nat × Nat)) (data : List Byte) (poisoned : Bool) : List (Nat × List Byte) :=
  units.zipIdx.flatMap fun u =>
    let bytes := (data.drop (u.2 * e)).take e
    let parts := if e = 128 then [(0, bytes.take 64), (1, bytes.drop 64)] else [(bits u.1.1 6 1, bytes)]
    parts.filterMap fun p =>
      if marks.getLsbD p.1 = poisoned then some (cmAddr u.1.2 + (if e = 128 then 64 * p.1 else 0), p.2) else none

/-- R258: the prefetched copies of a stacked-memory line that a write has reached are dropped, and reads under way marked.
DEDUCED (log entry 35). -/
def invalidatePrefetch (s : State) (pa : Nat) : State :=
  s.caravans.foldl (fun (s : State) (e : Nat × Caravan) =>
    let x := e.2
    let hit (b : BufLine) : Bool := b.prefetched && b.phys = some (pa / 128)
    let lost := (x.buffer.filter hit).map (·.line)
    let stale (r : LineRead) : Bool := r.prefetch && s.net.requests.any fun q =>
      (match q.who with | .caravanLine v k => v.val = e.1 && k = r.line | _ => false) && q.phys.map (· / 128) = some (pa / 128)
    if lost.isEmpty ∧ ¬ x.reads.any stale then s
    else cvEvent (modCv s e.1 fun x =>
      { x with buffer := x.buffer.filter fun b => !hit b, demandOnly := x.demandOnly ++ lost
               reads := x.reads.map fun r => if stale r then { r with stale := true } else r }) e.1 0x56 lost.length none) s

/-- R234, R258: a line of translation entries: every entry is checked, then all are written, or none. DEDUCED (log entry 38). -/
def deliverEntries (s : State) (v : CaravanId) (line : Nat) (units : List (Nat × Nat)) (data : List Byte) (poison : Bool) : State :=
  let entries := units.zipIdx.map fun u => (bits u.1.2 3 33, leNat ((data.drop (8 * u.2)).take 8))
  if entries.any fun e => ttRefused (ttShape s) e.1 e.2 then failLine (raiseModEvent s 16) v line .denial (units.headD (0, 0)).2
  else
    let write (s : State) (e : Nat × Nat) : State := invalidatePrefetch (ttStore s e.1 e.2) ((ttShape s).base + 8 * e.1)
    deliverAt (entries.foldl write s) v 128 line poison

/-- R241, R253: the next line goes to its destination. -/
def deliverLine (s : State) (v : CaravanId) (b : BufLine) : State :=
  let x := getCv s v.val
  let d := cvDesc x.desc
  let sys := sysAddr s
  let units := unitsOf sys d b.line
  let data := pickUnits (unitSize d) b.bytes (units.map (·.1))
  let dsts := units.map (·.2)
  let out := placeUnits (unitSize d) data dsts
  let be := unitMask (unitSize d) dsts
  let dst := dsts.headD 0 / 128 * 128
  let marks := destPoison (unitSize d) b.poison units
  let poisoned : Bool := marks ≠ 0
  let credits := if d.op = 2 then (liveReceivers x).map fun r => creditKey x.core.val r.core else creditOfLine x.core.val dst
  if credits.all fun k => mapGet 0 s.net.spent k < strRoom then
    let s0 := { s with net := { s.net with spent := credits.foldl (fun m k => mapMod 0 m k (· + 1)) s.net.spent } }
    let s3 := modCv s0 v.val fun x =>
      { x with buffer := x.buffer.filter fun q => q.line ≠ b.line
               sent := x.sent ++ [{ line := b.line, prefetched := b.prefetched, timely := b.timely }] }
    if d.op = 2 then
      let o := openRequest s3.net
        { id := 0, who := .caravanWrite v b.line, write := true, addr := BitVec.ofNat 64 dst, phys := none, be := be, bytes := out
          poison := marks, prefetch := false, pasid := none, flit := none, left := [], state := .sent }
      sendLineMulticast { s3 with net := o.1 } x o.2 (cmAddr dst) be out marks
    else if spaceOf dst = 1 ∧ cmCore dst = x.core.val then
      let k := getCore s3 x.core
      let w0 := writeRows k.mem (lineRows (unitSize d) b.poison units data false) false
      let w := writeRows w0.1 (lineRows (unitSize d) b.poison units data true) true
      let s4 := setCore s3 x.core { k with mem := w.1 }
      let s5 := countEvent s4 .core x.core.val 0x32 { cvAttr x (some dst) with } w.2
      deliverAt s5 v x.core.val b.line poisoned
    else if spaceOf dst = 6 then deliverEntries s3 v b.line units data poisoned
    else submit s3 (.caravanWrite v b.line) true dst be out marks false d.pasid
  else s

/-- R241: the acknowledgement or the failure of a line's write. -/
def lineWriteAnswered (s : State) (v : CaravanId) (line : Nat) (poison : Bool) (a : ReadAnswer) : State :=
  let x := getCv s v.val
  let d := cvDesc x.desc
  if ¬ x.sent.any (fun b => b.line = line) then s
  else
    let dst := lineAddr s x line true
    match a with
    | .data _ _ => deliverAt s v ((x.receivers.headD { core := 128 }).core) line poison
    | _ => failLine (freeCredits s (creditOfLine x.core.val dst) 1) v line (faultKind (spaceOf (cvDst (sysAddr s) d)) a) dst

/-- R246: the report record of a state and a status. -/
def reportBytes (s : State) (x : Caravan) (st : CvState) (status : Nat) : List Byte :=
  let d := cvDesc x.desc
  let sys := sysAddr s
  let u := windowBase x
  let start := lineStart sys d u
  let run := st ≠ .done
  let pos := elemIndex d.counts (start / unitsPerElem d)
  let ahead := (List.range 64).foldl (fun m b => if lineDelivered x (u + b) then m + 2 ^ b else m) 0
  let f := x.fault
  natBytes 64 (status % 256 + (cvCode st) <<< 8 + (if run && (f.map (·.side)).getD false then 1 <<< 11 else 0)
    + (if run then (start % unitsPerElem d) <<< 16 else 0)
    + (if run then ((pos.zipIdx.map fun p => (p.1 % 2 ^ 32) <<< (64 + 32 * p.2)).sum) else 0)
    + (if run then ahead <<< 224 else 0) + ((f.map fun f => f.addr.toNat).getD 0) <<< 288 + (u % 2 ^ 64) <<< 352
    + x.pruned.toNat <<< 416)

/-- R246, R250, R263: a caravan that fails gives up its holds: the read hold is released, and the write hold ended without
setting COMPLETE. -/
def dropHolds (s : State) (v : CaravanId) : State :=
  { s with cores := s.cores.filterMap fun e =>
      let m := e.2.mem
      let k : Core := { e.2 with mem := { releaseAll m (.caravan v) with pendingHolds := m.pendingHolds.filter fun p => p.hold.owner ≠ .caravan v } }
      if k = {} then none else some (e.1, k) }

/-- R249: a caravan leaves its active slot. -/
def leaveSlot (s : State) (v : CaravanId) : State :=
  let c := (getCv s v.val).core
  let k := getCore s c
  setCore s c { k with stream := { k.stream with active := k.stream.active.filter (· ≠ v), armed := k.stream.armed.filter (· ≠ v) } }

/-- R246: the report record written, and the state entered. -/
def enterEnd (s : State) (v : CaravanId) (st : CvState) (status : Nat) : State :=
  let x := getCv s v.val
  let d := cvDesc x.desc
  let c := x.core
  let k := getCore s c
  let w := writeRows k.mem [(64 * d.granule, reportBytes s x st status)] false
  let r : Range := { base := 64 * d.granule, rowBytes := 64, pitch := 0, rows := 1 }
  let s1 := setCore s c { k with mem := { w.1 with incomplete := mapSet false w.1.incomplete d.granule false }, cc := dcacheDrop k.cc r }
  let s2 := if st = .failed then dropHolds s1 v else s1
  let s3 := leaveSlot s2 v
  let s4 := if st = .done ∧ x.poisoned then logEntry s3 2 0x6007 1 c.val (packData [(32, v.val)]) else s3
  touchContext (modCv s4 v.val fun x =>
    { x with state := st, status := status, ending := none, fault := if st = .halted then x.fault else none
             buffer := [], reads := [], irq := d.irqEn }) v

/-- R175, R177, R246: whether the report record may be written: no other owner holds its granule, and a hold of the core is free.
DEDUCED (log entry 37). -/
def mayReport (s : State) (v : CaravanId) : Bool :=
  let x := getCv s v.val
  let m := (getCore s x.core).mem
  holdsFree m 1 && mayWrite m (.caravan v) { base := 64 * (cvDesc x.desc).granule, rowBytes := 64, pitch := 0, rows := 1 }

/-- R243, R304: what a faulted caravan does when its drain ends: it waits for a page, or goes on to HALTED or FAILED. -/
def endDrain (s : State) (v : CaravanId) (f : CvFault) : State :=
  let s1 := modCv s v.val fun x => { x with buffer := [] }
  let page := f.addr.toNat % 2 ^ 57 / 4096
  let again := ((getCv s v.val).page.map (·.1)) = some page
  if f.target = .faultWait then
    if again ∨ ¬ s.pcie.pri ∨ s.pcie.priStopped then
      let s2 := modCv s1 v.val fun x => { x with ending := some (.halted, f.status) }
      { s2 with pcie := { s2.pcie with waiting := s2.pcie.waiting.filter (· ≠ v) } }
    else touchContext (modCv s1 v.val fun x => { x with state := .faultWait, status := f.status, page := some (page, none) }) v
  else modCv s1 v.val fun x => { x with ending := some (f.target, f.status) }

/-- R260: whether a faulted caravan has drained: no read under way, no write unacknowledged, nothing left to deliver. -/
def drained (x : Caravan) : Bool :=
  x.reads.isEmpty && x.sent.isEmpty && (x.buffer.all fun b => windowBase x + 63 < b.line)

/-- R314: a copy of a multicast line that a receiver takes or never will: its request ends with the last one. -/
def leaveCopy (n : Net) (id core : Nat) : Net :=
  match findRequest n id with
  | none => n
  | some r =>
    let left := r.left.filter (· ≠ core)
    if left.isEmpty then dropRequest n id else setRequest n id fun r => { r with left := left }

/-- R314: lines that wait at a receiver for its hold are dropped, and their receive entries free again. -/
def dropParked (s : State) (x : Caravan) (r : Receiver) : State :=
  let s1 := { s with net := r.parked.foldl (fun n id => leaveCopy n id r.core) s.net }
  freeCredits s1 (r.parked.map fun _ => creditKey x.core.val r.core) 1

/-- R265: a core-array, warm or module reset: every caravan of the module is FREE, without a report. Contexts keep their
places on die. -/
def resetCaravans (s : State) : State :=
  let s1 := s.caravans.foldl (fun (s : State) (e : Nat × Caravan) => e.2.receivers.foldl (fun s r => dropParked s e.2 r) s) s
  { s1 with caravans := []
            banks := s.banks.map fun b => (b.1, { b.2 with fetching := [] })
            pcie := { s.pcie with waiting := [] }
            net := abandon s1.net fun r => (match r.who with | .caravanLine _ _ | .caravanWrite _ _ | .holdReq _ _ => true | _ => false) }

end Sys2Proof.Machine
end

