-- ==== Sys2Proof/Machine/Crc.lean ====
section
/-! DEFINITION. The cyclic redundancy checks of the spec: CRC-32 of IEEE 802.3 (R361), CRC-32C, and the CRC-8 of control
blocks (R358). -/

namespace Sys2Proof.Machine

/-- `n` steps of a reflected 32-bit CRC with a polynomial. -/
def crcSteps (poly : U32) : Nat → U32 → U32
  | 0, r => r
  | n + 1, r => crcSteps poly n ((r >>> 1) ^^^ (if r.getLsbD 0 then poly else 0))

/-- A reflected 32-bit CRC over bytes, least significant bit first, from all ones, complemented at the end. -/
def crcReflected (poly : U32) (bytes : List Byte) : U32 :=
  ~~~ (bytes.foldl (fun r b => crcSteps poly 8 (r ^^^ b.setWidth 32)) 0xFFFFFFFF)

/-- CRC-32 of IEEE 802.3: generator 0x04C11DB7. -/
def crc32 (bytes : List Byte) : U32 := crcReflected 0xEDB88320 bytes

/-- CRC-32C: generator 0x1EDC6F41. -/
def crc32c (bytes : List Byte) : U32 := crcReflected 0x82F63B78 bytes

/-- `n` steps of the CRC-8 of polynomial x^8 + x^2 + x + 1, least significant bit first. PRESUMED (log entry 50). -/
def crc8Steps : Nat → Byte → Byte
  | 0, r => r
  | n + 1, r => crc8Steps n ((r >>> 1) ^^^ (if r.getLsbD 0 then 0xE0 else 0))

/-- CRC-8 over bytes in the order of the wire, bit 0 first (R357), from 0. PRESUMED (log entry 50). -/
def crc8 (bytes : List Byte) : Byte := bytes.foldl (fun r b => crc8Steps 8 (r ^^^ b)) 0

end Sys2Proof.Machine
end

