-- ==== Sys2Proof/Machine/Links.lean ====
section
/-! DEFINITION. The Askua node at work: packets and frames (R359 to R365), credits and virtual channels (R366, R367), routing
(R368 to R371), records (R373), replay (R374), and the reset of a port (R385). -/

namespace Sys2Proof.Machine

/-- R388: an event of a port. DEDUCED (log entry 24). -/
def portEvent (s : State) (p ev n : Nat) (cls : Option Nat) : State := countEvent s .link p ev { cls := cls } n

/-- R307: the class of a packet's opcode. -/
def opcodeClass (op : Byte) : Nat :=
  if op = 0x01 ∨ op = 0x05 then 0 else if op = 0x02 then 2 else if op = 0x03 then 3 else 1

/-- Whether an opcode is a request. -/
def isRequestOp (op : Byte) : Bool := op = 0x01 || op = 0x02 || op = 0x03 || op = 0x05

/-- R364: blocks of a packet's header and byte enables, and of its data. -/
def packetLengths (op : Byte) (explicit err : Bool) (lenM1 : Nat) : Nat × Nat :=
  let h := if explicit then 4 else 2
  if op = 0x01 then (h, 0)
  else if op = 0x02 then (h, 16 * (lenM1 + 1))
  else if op = 0x03 then (h, 16)
  else if op = 0x05 then (2, 1)
  else if op = 0x81 then (2, if err then 0 else 16)
  else (2, 0)

/-- R364: the opcodes that cross. -/
def crosses (op : Byte) : Bool :=
  [(0x01 : Byte), 0x02, 0x03, 0x05, 0x81, 0x82, 0x85, 0x86, 0x87].contains op

/-- The 64-bit blocks of bytes. -/
def toBlocks : Nat → List Byte → List U64
  | 0, _ => []
  | n + 1, l => BitVec.ofNat 64 (leNat (l.take 8)) :: toBlocks n (l.drop 8)

def blockBytes (bs : List U64) : List Byte := bs.flatMap fun b => natBytes 8 b.toNat

/-- R363: the header of a packet. -/
def packetHeader (p : Packet) : Nat :=
  p.opcode.toNat + (p.dstSys % 2 ^ 15) <<< 8 + (p.srcSys % 2 ^ 15) <<< 23 + (p.srcEp % 2 ^ 13) <<< 38 + (p.dstEp % 2 ^ 13) <<< 51
    + (p.rspace % 4) <<< 64 + (p.vc % 2) <<< 66 + (p.tag % 2 ^ 14) <<< 67 + p.poison.toNat <<< 81
    + (if p.err then 1 <<< 83 else 0) + (if p.ackReq then 1 <<< 84 else 0) + (if p.be.isSome then 1 <<< 85 else 0)
    + (p.lenM1 % 4) <<< 86 + (p.addr % 2 ^ 39) <<< 88

/-- R364, R365: a packet's blocks. DEDUCED (log entry 51). -/
def packetBlocks (p : Packet) : List U64 :=
  let n := packetLengths p.opcode p.be.isSome p.err p.lenM1
  [BitVec.ofNat 64 (packetHeader p), BitVec.ofNat 64 (packetHeader p >>> 64)]
    ++ (match p.be with | some b => [BitVec.ofNat 64 b.toNat, BitVec.ofNat 64 (b.toNat >>> 64)] | none => [])
    ++ toBlocks n.2 p.data

/-- R363: a packet from its header's two blocks, the byte enables and the data. -/
def packetOf (h : Nat) (be : Option (BitVec 128)) (data : List Byte) : Packet :=
  { opcode := BitVec.ofNat 8 (bits h 0 8), dstSys := bits h 8 15, srcSys := bits h 23 15, srcEp := bits h 38 13, dstEp := bits h 51 13
    rspace := bits h 64 2, vc := bits h 66 1, tag := bits h 67 14, poison := BitVec.ofNat 2 (bits h 81 2), err := bit h 83
    ackReq := bit h 84, be := be, lenM1 := bits h 86 2, addr := bits h 88 39, data := data }

/-- R365: the packets that a run of packet blocks completes, and the blocks of one that goes on in a later frame. A block that
starts no packet that crosses carries nothing. -/
def takePackets : Nat → List U64 → List Packet → List Packet × List U64
  | 0, bs, acc => (acc, bs)
  | _ + 1, [], acc => (acc, [])
  | n + 1, b :: t, acc =>
    let op : Byte := b.setWidth 8
    if ¬ crosses op then takePackets n t acc
    else
      match t with
      | [] => (acc, [b])
      | c :: u =>
        let h := b.toNat + c.toNat <<< 64
        let explicit := bit h 85
        let len := packetLengths op explicit (bit h 83) (bits h 86 2)
        let body := u.take (len.1 + len.2 - 2)
        if body.length < len.1 + len.2 - 2 then (acc, b :: c :: u)
        else
          let be : Option (BitVec 128) := if len.1 = 4 then some (BitVec.ofNat 128 (leNat (blockBytes (body.take 2)))) else none
          takePackets n (u.drop (len.1 + len.2 - 2)) (acc ++ [packetOf h be (blockBytes (body.drop (len.1 - 2)))])

/-- R361: the CRC of a data frame. -/
def frameCrc (blocks : List U64) (trailer : Nat) : U32 := crc32 (blockBytes blocks ++ natBytes 4 trailer)

/-- R360: a trailer with its CRC. -/
def frameTrailer (blocks : List U64) (low : Nat) : U64 :=
  BitVec.ofNat 64 (low % 2 ^ 32 + (frameCrc blocks low).toNat <<< 32)

/-- R366: units of a packet. -/
def packetUnits (p : Packet) : Nat :=
  let n := packetLengths p.opcode p.be.isSome p.err p.lenM1
  ceilDiv (n.1 + n.2) 32

/-- R366: the key of a (class, VC) pair. -/
def creditPair (op : Byte) (vc : Nat) : Nat := 2 * opcodeClass op + vc

/-- R366: whether a port holds the credit a packet needs. DEDUCED (log entry 51). -/
def hasCredit (x : Port) (p : Packet) : Bool := mapGet 0 x.used (creditPair p.opcode p.vc) + packetUnits p ≤ 192

/-- R372: whether two packets of one class go from one source endpoint to one destination endpoint. Of stacked memory, which endpoint a
line is at is the destination module's to know. DEDUCED (log entry 51). -/
def sameEnds (p q : Packet) : Bool :=
  p.srcSys = q.srcSys && p.srcEp = q.srcEp && p.dstSys = q.dstSys && p.rspace = q.rspace && p.dstEp = q.dstEp
    && (p.rspace ≠ 2 || bits p.addr 22 7 = bits q.addr 22 7)

/-- R372, R382: the first packet of a class that has credit and that no packet between the same endpoints stands before, with the others;
`ahead` stand before the list. -/
def takePacket (x : Port) (c : Nat) (ahead : List Packet) : List Packet → Option (Packet × List Packet)
  | [] => none
  | p :: rest =>
    if opcodeClass p.opcode = c ∧ hasCredit x p ∧ ahead.all (fun q => opcodeClass q.opcode ≠ c || !sameEnds q p) then some (p, ahead ++ rest)
    else takePacket x c (ahead ++ [p]) rest

/-- R382: the packet a transmitter serves next: responses first, then the class after the last one served, within a class the
oldest that may go. -/
def nextPacket (x : Port) : Option (Packet × List Packet) :=
  let pick (c : Nat) := takePacket x c [] x.queue
  let order := match x.lastClass with | 0 => [1, 2, 3, 0] | 2 => [1, 3, 0, 2] | _ => [1, 0, 2, 3]
  order.findSome? pick

/-- R364: packets taken for sending while credit and the replay window of 127 frames allow. -/
def takeForSending : Nat → Port → List U64 → Port × List U64 × List Packet
  | 0, x, bs => (x, bs, [])
  | n + 1, x, bs =>
    match nextPacket x with
    | none => (x, bs, [])
    | some (p, rest) =>
      let bs' := bs ++ packetBlocks p
      if 127 < x.unacked.length + ceilDiv bs'.length 31 then (x, bs, [])
      else
        let x' := { x with queue := rest, used := mapMod 0 x.used (creditPair p.opcode p.vc) (· + packetUnits p)
                           lastClass := if opcodeClass p.opcode = 1 then x.lastClass else opcodeClass p.opcode }
        let r := takeForSending n x' bs'
        (r.1, r.2.1, p :: r.2.2)

/-- The credits a trailer returns: the first (class, VC) pair with units to return, at most 7 (R366). -/
def returnedCredits (x : Port) : Option (Nat × Nat) := (x.returning.find? fun e => 0 < e.2).map fun e => (e.1, min 7 e.2)

/-- R359, R383: whether a port's transmitter drives frames. -/
def sending (x : Port) : Bool := (x.state = .up || x.state = .elecIdle) && !x.idleTx

/-- R358: a control block of this module's. PRESUMED (log entry 50). -/
def makeControl (type content : Nat) : U64 :=
  let low := type + (content % 2 ^ 48) <<< 8
  BitVec.ofNat 64 (low + (crc8 (natBytes 7 low)).toNat <<< 56)

/-- R376, R387: the code of a port's state. -/
def portStateCode : PortState → Nat
  | .disabled => 0 | .down => 1 | .training => 2 | .up => 3 | .elecIdle => 4 | .recovery => 5 | .miswired => 6

/-- R355: the lane of the smallest eye margin reported, with its margin. -/
def worstLane (l : List (Nat × U32)) : Option (Nat × U32) :=
  l.foldl (fun m e => match m with
    | none => some e
    | some w => if e.2.toNat < w.2.toNat then some e else some w) none

/-- R355: an eye margin as a code of 1/256 of a unit interval. PRESUMED (log entry 72). -/
def marginCode (m : U32) : Nat := (List.range 256).foldl (fun n k => if fp32Code (numDiv (.fin false k 0) (.fin false 256 0)) ≤ m.toNat then k else n) 0

/-- R354, R355, R358: an EQ block of this module's for a lane. Which steps its receiver asks for is its own: a free value. -/
def eqBlock (s : State) (lane : Nat) (margin : U32) : U64 := makeControl 0x33 (lane + (freshNat s % 64) <<< 4 + marginCode margin <<< 16)

/-- R355: the EQ block that a port calls for: in a step window, for its worst lane while that is below EQ_MARGIN_MIN. -/
def eqCall (s : State) (x : Port) : Option U64 :=
  if x.eqWindow then
    match worstLane x.margins with
    | some w => if w.2.toNat < dictGet s keyEqMarginMin then some (eqBlock s w.1 w.2) else none
    | none => none
  else none

/-- R393: the GTC block of a control frame. -/
def gtcBlock (s : State) : U64 :=
  makeControl 0x2D (s.gtc.toNat % 2 ^ 40 + (if s.lockstep.aligned then (dictGet s keyLsHops % 64) <<< 40 + 1 <<< 46 else 63 <<< 40))

/-- R358: the STATUS block of a port. -/
def statusBlock (s : State) (p : Nat) : U64 :=
  makeControl 0x4B (portStateCode (getPort s.links p).state + (dictGet s (keyOf (0x4100 + p) 6) % 65536) <<< 8)

/-- R359: the ALIGN blocks of a control frame. -/
def alignBlocks (x : Port) (p : Nat) : List U64 := (List.range 16).map fun i => makeControl 0x1E (i + p <<< 4 + x.slot.toNat <<< 8)

/-- R406: the blocks of the messages that a control frame has room for, and what is left to send of each. -/
def takeMessages : Nat → List PortMessage → List U64 × List PortMessage
  | _, [] => ([], [])
  | room, m :: t =>
    if m.blocks.length ≤ room then
      let r := takeMessages (room - m.blocks.length) t
      (m.blocks ++ r.1, if m.copies ≤ 1 then r.2 else { m with copies := m.copies - 1 } :: r.2)
    else
      let r := takeMessages room t
      (r.1, m :: r.2)

/-- R406: SLIP and FAULT go before other messages; at most 8 LOCKSTEP blocks a control frame. -/
def frameMessages (l : List PortMessage) : List U64 × List PortMessage := takeMessages 8 (l.filter (·.urgent) ++ l.filter fun m => !m.urgent)

/-- R358, R359, R393, R406: a control frame sent: 16 ALIGN blocks, a GTC, a STATUS and an EQ block where one is called for, the LOCKSTEP
blocks of the messages it carries, and NOPs. -/
def controlFrame (s : State) (p : Nat) : State :=
  let x := getPort s.links p
  let eq := (eqCall s x).toList
  let ms := frameMessages x.messages
  let busy := [gtcBlock s, statusBlock s p] ++ eq ++ ms.1
  let blocks := alignBlocks x p ++ busy ++ List.replicate (16 - busy.length) (makeControl 0 0)
  { s with links := setPort s.links p { x with slot := x.slot + 1, messages := ms.2 }, out := s.out ++ blocks.map (fun b => Out.askuaControl p b)
           free := s.free + eq.length }

/-- R359: the control frame that is due before a data frame: every 128th slot carries one. -/
def controlSlot (s : State) (p : Nat) : State := if (getPort s.links p).slot.toNat % 128 = 0 then controlFrame s p else s

/-- R360, R374: a data frame sent, after the control frame that is due: its trailer with the port's acknowledgement and the credits it
returns. -/
def emitFrame (s0 : State) (p : Nat) (blocks : List U64) (seq : Byte) (tick : Nat) (empty nak : Bool) : State :=
  let s := controlSlot s0 p
  let x := getPort s.links p
  let padded := blocks ++ List.replicate (31 - blocks.length) 0
  let cr := returnedCredits x
  let low := seq.toNat + ((x.expect - 1).toNat) <<< 8 + (if x.accepted then 1 <<< 16 else 0) + (if nak then 1 <<< 17 else 0)
    + (if empty then 1 <<< 18 else 0)
    + (match cr with | some c => (c.1 / 2) <<< 19 + (c.1 % 2) <<< 21 + c.2 <<< 22 | none => 0) + (tick % 128) <<< 25
  let x' : Port := { x with slot := x.slot + 1, returning := match cr with | some c => mapMod 0 x.returning c.1 (· - c.2) | none => x.returning }
  { s with links := setPort s.links p x', out := s.out ++ [.askuaFrame p padded (frameTrailer padded low)] }

/-- R32: the tick that a GTC count lies in (16 counts each). -/
def tickOf (s : State) : Nat := s.gtc.toNat / 16

/-- The blocks of a run cut into frames of 31. DEDUCED (log entry 51). -/
def cutFrames : Nat → List U64 → List (List U64)
  | 0, _ => []
  | n + 1, bs => if bs.isEmpty then [] else bs.take 31 :: cutFrames n (bs.drop 31)

/-- R359, R374: a port sends every packet it may. -/
def transmit (s : State) (p : Nat) : State :=
  let x := getPort s.links p
  if sending x then
    let t := takeForSending x.queue.length x []
    let tick := tickOf s
    let s1 := (cutFrames t.2.1.length t.2.1).foldl (fun s bs =>
      let x := getPort s.links p
      let f : SentFrame := { seq := x.txSeq, blocks := bs ++ List.replicate (31 - bs.length) 0, tick := tick }
      emitFrame { s with links := setPort s.links p { x with unacked := x.unacked ++ [f], txSeq := x.txSeq + 1 } } p bs f.seq tick false false)
      { s with links := setPort s.links p t.1 }
    t.2.2.foldl (fun s q => portEvent s p 0x10 1 (some (opcodeClass q.opcode))) s1
  else s

/-- R367: the dimension of a port: 3 for the express ports. -/
def portDim (p : Nat) : Nat := p / 2

/-- R367: the virtual channel on which a packet leaves by a port, having entered its dimension on `vc`. -/
def leaveVc (s : State) (p vc : Nat) : Nat :=
  let i := portDim p
  if 3 ≤ i then 0
  else
    let c := coord ((sysAddr s).getD 0) i
    if (p % 2 = 0 ∧ c + 1 = torusSize s i) ∨ (p % 2 = 1 ∧ c = 0) then 1 else vc

/-- R370, R384: whether a port takes packets: it is UP, or UP but for an electrical idle that a packet ends. -/
def portOpen (x : Port) : Bool := x.state = .up || x.state = .elecIdle

def getCorner (l : Links) (east : Bool) : Corner := mapGet {} l.corners (if east then 1 else 0)

def setCorner (l : Links) (east : Bool) (x : Corner) : Links := { l with corners := mapSet {} l.corners (if east then 1 else 0) x }

/-- R363: an endpoint in a packet's layout, and back. -/
def epCode (e : Nat × Nat × Nat) : Nat := e.1 + e.2.1 <<< 4 + e.2.2 <<< 8

def epOf (n : Nat) : Nat × Nat × Nat := (bits n 0 4, bits n 4 4, bits n 8 5)

/-- The corner of a port. DEDUCED (log entry 47). -/
def portEast (p : Nat) : Bool := 4 ≤ p

/-- A packet queued at a port. -/
def enqueue (s : State) (p : Nat) (q : Packet) : State :=
  let x := getPort s.links p
  transmit { s with links := setPort s.links p { x with queue := x.queue ++ [q] } } p

/-- R370: the answer of ERR, with a cause, to a request that a unit of this module has sent to a corner. -/
def answerLocal (s : State) (port : Nat) (srcEp tag : Nat) (op : Byte) (cause : Nat) : State :=
  let resp : Byte := if op = 0x01 then 0x81 else if op = 0x05 then 0x85 else 0x82
  send s { mkFlit (portNode port) (epOf srcEp) clsRsp resp tag cause 0 [] 0 false with err := true }

/-- R363, R369: the packet of a request flit that leaves the module. -/
def requestPacket (s : State) (f : Flit) (vc : Nat) : Packet :=
  let a := f.addr.toNat
  { opcode := f.opcode, dstSys := bits a 39 15, srcSys := (sysAddr s).getD 0, srcEp := epCode (flitSrc f), dstEp := 0
    rspace := if spaceOf a = 4 then 1 else 2, vc := vc, tag := f.tag.toNat, poison := f.poison, err := false, ackReq := f.ackReq
    be := if f.byteEn = BitVec.allOnes 128 ∨ f.opcode = 0x05 then none else some f.byteEn, lenM1 := 0, addr := bits a 0 39
    data := f.payload }

/-- R368, R370, R373: a request flit taken at a corner: recorded where it expects a response, and queued at its port, or
answered with ERR. None: all 4,096 records are in use and the flit waits. -/
def cornerRequest (s : State) (f : Flit) : Option State :=
  let wants := f.opcode = 0x01 ∨ f.opcode = 0x05 ∨ f.ackReq
  match routePort s (bits f.addr.toNat 39 15) with
  | none => some (answerLocal s (if f.dstX = 14 then 4 else 0) (epCode (flitSrc f)) f.tag.toNat f.opcode 0)
  | some p =>
    if ¬ portOpen (getPort s.links p) then some (answerLocal s p (epCode (flitSrc f)) f.tag.toNat f.opcode 0)
    else
      let c := getCorner s.links (portEast p)
      if wants ∧ 4096 ≤ c.records.length then none
      else
        let r : OutRecord := { port := Fin.ofNat 8 p, srcEp := epCode (flitSrc f), tag := f.tag.toNat, cls := f.cls.val, opcode := f.opcode }
        let s1 := if wants then { s with links := setCorner s.links (portEast p) { c with records := c.records ++ [r] } } else s
        some (enqueue s1 p (requestPacket s f (leaveVc s p 0)))

/-- R370: a packet sent on its way by a port that takes packets, or answered, or dropped and counted at the port it would have left by.
`inPort` is the port a through packet came by. -/
def routePacket (s : State) (q : Packet) (inPort : Option Nat) : State :=
  let counted (s : State) (dst : Nat) : State :=
    portEvent s (((routePort s dst).orElse fun _ => inPort).getD 0) 0x1B 1 (some (opcodeClass q.opcode))
  let reply (s : State) : State :=
    let e : Packet := { opcode := if q.opcode = 0x01 then 0x81 else if q.opcode = 0x05 then 0x85 else 0x82
                        dstSys := q.srcSys, srcSys := (sysAddr s).getD 0, srcEp := 0, dstEp := q.srcEp, rspace := 0, vc := 0, tag := q.tag
                        poison := 0, err := true, ackReq := false, be := none, lenM1 := 0, addr := 0, data := [] }
    match routePort s q.srcSys with
    | some p => if portOpen (getPort s.links p) then enqueue s p { e with vc := leaveVc s p 0 } else counted s q.srcSys
    | none => counted s q.srcSys
  match routePort s q.dstSys with
  | some p =>
    if portOpen (getPort s.links p) then
      let same := inPort.map portDim = some (portDim p)
      let s1 := match inPort with | some i => portEvent s i 0x1A 1 (some (opcodeClass q.opcode)) | none => s
      enqueue s1 p { q with vc := leaveVc s p (if same then q.vc else 0) }
    else if isRequestOp q.opcode then reply s else counted s q.dstSys
  | none => if isRequestOp q.opcode then reply s else counted s q.dstSys

/-- R309: a response flit that reaches a corner goes back to the module that asked. The request's record ends with its last response: a
CREDIT is the last one of a line that asks for no acknowledgement. -/
def cornerResponse (s : State) (f : Flit) : State :=
  let east := f.dstX = 14
  let c := getCorner s.links east
  match c.inbound.find? fun r => r.tag = f.tag.toNat with
  | none => s
  | some r =>
    let q : Packet :=
      { opcode := f.opcode, dstSys := r.sys, srcSys := (sysAddr s).getD 0, srcEp := epCode (flitSrc f), dstEp := r.ep, rspace := 0
        vc := 0, tag := r.remoteTag, poison := f.poison, err := f.err, ackReq := false, be := none, lenM1 := 0
        addr := if f.opcode = 0x86 then leNat (f.payload.take 2) else if f.err then f.addr.toNat % 4 else 0
        data := f.payload ++ List.replicate (128 - f.payload.length) 0 }
    let ends : Bool := f.opcode ≠ 0x86 || !r.acked
    let s1 := if ends then
        { s with links := setCorner s.links east { c with inbound := c.inbound.filter fun x => x.tag ≠ f.tag.toNat }, net := dropRequest s.net f.tag.toNat }
      else s
    routePacket s1 q none

/-- R369: an inbound request noted at the corner of its port, with the tag of its flits. -/
def noteInbound (s : State) (east : Bool) (q : Packet) (tag : Nat) : State :=
  let c := getCorner s.links east
  { s with links := setCorner s.links east { c with inbound := c.inbound ++
      [{ tag := tag, sys := q.srcSys, ep := q.srcEp, remoteTag := q.tag, opcode := q.opcode
         acked := q.opcode = 0x01 || q.opcode = 0x05 || q.ackReq }] } }

/-- R309, R314: whether something comes back for an inbound request: a response, a CREDIT, or the acknowledgement of a ring forward. -/
def answeredOp (q : Packet) : Bool := q.opcode ≠ 0x02 || q.ackReq || (q.rspace = 0 && epOf q.dstEp = (7, 0, 1))

/-- An inbound request put into the mesh is recorded where something comes back for it, and forgotten where nothing does. -/
def keepInbound (s : State) (east : Bool) (q : Packet) (tag : Nat) : State :=
  if answeredOp q then noteInbound s east q tag else { s with net := dropRequest s.net tag }

/-- R370, R371: the answer of ERR from this module, with a cause, to an inbound request. -/
def refuseInbound (s : State) (q : Packet) (cause : Nat) : State :=
  routePacket s
    { opcode := if q.opcode = 0x01 then 0x81 else if q.opcode = 0x05 then 0x85 else 0x82
      dstSys := q.srcSys, srcSys := (sysAddr s).getD 0, srcEp := 0, dstEp := q.srcEp, rspace := 0, vc := 0, tag := q.tag, poison := 0
      err := true, ackReq := false, be := none, lenM1 := 0, addr := cause, data := [] } none

/-- R369, R371: flit `i` of a request packet that ends here: translated and sent to its tower, sent to its core, or sent to the
endpoint it names. -/
def deliverRequest (s : State) (p : Nat) (q : Packet) (i : Nat) : State :=
  let east := portEast p
  let be := q.be.getD (BitVec.allOnes 128)
  let data := (q.data.drop (128 * i)).take 128
  let addr := q.addr + 128 * i
  let write := q.opcode = 0x02 ∨ q.opcode = 0x03
  let base : Request :=
    { id := 0, who := .corner east, write := write, addr := BitVec.ofNat 64 addr, phys := none, be := be, bytes := data
      poison := q.poison, prefetch := false, pasid := none, flit := none, left := [], state := .sent }
  if q.rspace = 1 then
    let template := mkFlit (portNode p) (0, 0, 0) clsReq q.opcode 0 addr be data q.poison q.ackReq
    let o := openRequest s.net { base with state := .translating, flit := some template }
    let s1 := if answeredOp q then noteInbound { s with net := o.1 } east q o.2 else { s with net := o.1 }
    { s1 with queues := { s1.queues with translating := s1.queues.translating ++ [o.2] } }
  else
    let o := openRequest s.net base
    let s1 := keepInbound { s with net := o.1 } east q o.2
    let core := bits addr 22 7
    if q.rspace = 2 then
      if 96 ≤ core then refuseInbound s q 0
      else if coreOff s core then refuseInbound (logTargetOff s core 0) q 3
      else
        launchRequest s1 o.2 { mkFlit (portNode p) (coreEp s core)
          (if q.opcode = 0x03 then clsStr else if q.opcode = 0x02 then clsWr else clsReq) q.opcode o.2 (bits addr 0 22) be data q.poison
          q.ackReq with }
    else launchRequest s1 o.2 (mkFlit (portNode p) (epOf q.dstEp) (if q.opcode = 0x02 then clsWr else clsReq) q.opcode o.2 addr be data
      q.poison q.ackReq)

/-- R373: a response packet that ends here goes to the requester its record names; one without a record is dropped and
counted. A CREDIT has no record. -/
def deliverResponse (s : State) (p : Nat) (q : Packet) : State :=
  let isIt (r : OutRecord) : Bool := r.srcEp = q.dstEp && r.tag = q.tag
  let f := { mkFlit (portNode p) (epOf q.dstEp) clsRsp q.opcode q.tag (if q.err then q.addr % 4 else 0) 0
    (if q.opcode = 0x86 then natBytes 2 q.addr else q.data) q.poison false with err := q.err }
  if q.opcode = 0x86 then send s f
  else
    let east := (getCorner s.links true).records.any isIt
    let c := getCorner s.links east
    match takeFirst isIt c.records with
    | some (_, rest) => send { s with links := setCorner s.links east { c with records := rest } } f
    | none => portEvent s p 0x1B 1 (some 1)

/-- R368, R371: a packet released from a port: it goes through, or ends here. -/
def releasePacket (s : State) (p : Nat) (q : Packet) : State :=
  let x := getPort s.links p
  let s1 := { s with links := setPort s.links p { x with returning := mapMod 0 x.returning (creditPair q.opcode q.vc) (· + packetUnits q) } }
  if p < 6 ∧ some q.dstSys ≠ sysAddr s then routePacket s1 q (some p)
  else if isUnsealing s ∧ isRequestOp q.opcode then refuseInbound s1 q 0
  else if isRequestOp q.opcode then (List.range (q.lenM1 + 1)).foldl (fun s i => deliverRequest s p q i) s1
  else deliverResponse s1 p q

/-- R373, R385: every record of a port answered with ERR and cause 0. -/
def answerRecords (s : State) (p : Nat) : State :=
  let c := getCorner s.links (portEast p)
  let mine := c.records.filter fun r => r.port.val = p
  let s1 := { s with links := setCorner s.links (portEast p) { c with records := c.records.filter fun r => r.port.val ≠ p } }
  mine.foldl (fun s r => answerLocal s p r.srcEp r.tag r.opcode 0) s1

end Sys2Proof.Machine
end

