-- ==== Sys2Proof/Machine/Towers.lean ====
section
/-! DEFINITION. The towers' controllers: a request taken at its port (R331, R332), the command order (R333), column commands
(R336), what a read decodes (R337 to R339), refresh stops and scrubbing (R341 to R344), and erasing (R347). -/

namespace Sys2Proof.Machine

/-- R306, R328, R329, R331: whether the controllers serve a request flit: a source with a port, an address of stacked memory at the
endpoint that serves it, and the reserved region for the caravanserai banks alone. -/
def smServes (f : Flit) : Bool :=
  (smPort f).isSome && decide (f.addr.toNat < stackedBytes) && flitDst f = stackEp f.addr.toNat
    && (!isReserved f.addr.toNat || smPort f = some 2)

/-- R309, R332: the answer of a write at its acceptance: WR_ACK where it asked for one, MGT_RSP for a management write. -/
def smAccepted (s : State) (f : Flit) : State :=
  if f.opcode = 0x11 then send s (mkResponse f 0x90 [] 0 false)
  else if f.ackReq then send s (mkResponse f 0x82 [] 0 false) else s

/-- R332, R348, R350: a request flit at a tower: queued, answered with ERR where the tower has failed or does not serve it, or left
waiting while the tower is not ready or its queue is full. MGT flits find room (R314). A wake of the tower's group starts for any
flit addressed to it. -/
def towerTake (s : State) (f : Flit) (net : Net) : State :=
  let pa := f.addr.toNat
  let q := placeOf pa
  let t := getTower s.stacked q.tower
  match t.state with
  | .failed => refuse { s with net := net } f
  | .ready =>
    if ¬ smServes f then refuse { s with net := net } f
    else
      let pc := getPc s.stacked q.tower (pcIndex q)
      if (64 ≤ pc.queue.length ∧ f.cls ≠ clsMgt) ∨ s.power.toSelfRefresh.getLsbD q.tower then s
      else
        let s1 := { s with net := net }
        let none_ := isWriteFlit f ∧ f.byteEn = 0
        let s2 := if none_ then s1 else
          let pc' := { pc with queue := pc.queue ++ [{ flit := f, port := (smPort f).getD 0, aged := false, opened := false }] }
          { s1 with stacked := setPc s1.stacked q.tower (pcIndex q) pc' }
        if isWriteFlit f then
          let kind := nodeKind f.srcX.val f.srcY.val
          smAccepted (if kind = .core ∨ kind = .askua ∨ kind = .fabric then invalidatePrefetch s2 pa else s2) f
        else s2
  | _ =>
    let d := 13 + q.tower / 2
    if t.state = .selfRefresh ∧ s.power.off.getLsbD d ∧ ¬ s.power.waking.getLsbD d then
      let s1 := dictSet s keyDomainOff ((BitVec.ofNat 24 (dictGet s keyDomainOff) &&& ~~~(1#24 <<< d)).toNat)
      smLineEvent { s1 with power := { s1.power with waking := s1.power.waking ||| (1#24 <<< d) } } q 0x1D pa
    else s

/-- R333: a request comes before another: lower class, then open row, then earlier arrival (the queue's order). -/
def smBefore (s : State) (pc : PseudoChannel) (a b : SmRequest) : Bool :=
  let open_ (r : SmRequest) : Bool :=
    mapGet none pc.openRows (bankIndex (placeOf r.flit.addr.toNat)) = some (placeOf r.flit.addr.toNat).row
  let ca := effectiveClass s a
  let cb := effectiveClass s b
  ca < cb || (ca = cb && open_ a && !open_ b)

/-- R333: the first eligible request of a queue, with its place: no earlier request, and no read under way, touches its line. -/
def smChoose (s : State) (pc : PseudoChannel) : Option (Nat × SmRequest) :=
  let eligible (e : SmRequest × Nat) : Bool :=
    !((pc.queue.take e.2).any fun r => r.flit.addr.toNat / 128 = e.1.flit.addr.toNat / 128)
      && !(pc.reading.any fun r => r.flit.addr.toNat / 128 = e.1.flit.addr.toNat / 128)
  match pc.queue.zipIdx.filter eligible with
  | [] => none
  | e :: t =>
    let b := t.foldl (fun (m : SmRequest × Nat) x => if smBefore s pc x.1 m.1 then x else m) e
    some (b.2, b.1)

/-- R333, R335, R336: a pseudo-channel's next command: PRECHARGE, ACTIVATE, or the column command of the first eligible
request. Of a read-modify-write this is the read of the line. -/
def smCommand (s : State) (t k c : Nat) : State :=
  let i := 2 * k + c
  let pc := getPc s.stacked t i
  if (getTower s.stacked t).state ≠ .ready then s
  else
    match smChoose s pc with
    | none => s
    | some (n, r) =>
      let q := placeOf r.flit.addr.toNat
      let b := bankIndex q
      match mapGet none pc.openRows b with
      | none =>
        let pc' := { pc with openRows := mapSet none pc.openRows b (some q.row), queue := listMod (fun r => { r with opened := true }) pc.queue n }
        smEvent { s with stacked := setPc s.stacked t i pc' } q r 0x13
      | some row =>
        if row ≠ q.row then
          smEvent { s with stacked := setPc s.stacked t i { pc with openRows := mapSet none pc.openRows b none } } q r 0x14
        else
          let rest := pc.queue.eraseIdx n
          let s0 := if r.opened then s else smEvent s q r 0x12
          if isWriteFlit r.flit ∧ ¬ needsRmw r.flit then
            smEvent { s0 with stacked := stackApply (setPc s.stacked t i { pc with queue := rest }) r.flit } q r 0x11
          else
            let s1 := smEvent { s0 with stacked := setPc s.stacked t i { pc with queue := rest, reading := pc.reading ++ [r] } } q r 0x10
            if isWriteFlit r.flit then smEvent s1 q r 0x15 else s1

/-- R339, R340: the data of a pseudo-channel's oldest read is decoded and handed to the crossing; of a read-modify-write the enabled
bytes are merged into it and the whole line is written (R336). -/
def smRead (s : State) (t k c : Nat) (low high : HalfRead) : State :=
  let i := 2 * k + c
  let pc := getPc s.stacked t i
  match pc.reading with
  | [] => s
  | r :: rest =>
    let pa := r.flit.addr.toNat / 128 * 128
    let q := placeOf pa
    let s1 := { s with stacked := setPc s.stacked t i { pc with reading := rest } }
    if isWriteFlit r.flit then
      let s2 := rewriteLine s1 q pa low high
      smEvent (smEvent { s2 with stacked := stackApply s2.stacked r.flit } q r 0x12) q r 0x11
    else
      let a := decodeHalf s1 q pa low
      let b := decodeHalf a.1 q (pa + 64) high
      send b.1 (mkResponse r.flit (if r.flit.cls = clsMgt then 0x90 else 0x81) (a.2.1 ++ b.2.1)
        ((if a.2.2 then 1 else 0) + (if b.2.2 then 2 else 0)) false)

/-- R342: lines of a pseudo-channel. -/
def pcLines : Nat := 9437184

/-- R342: the physical address of line `n` of a pseudo-channel, column fastest, then bank, row and stack ID. -/
def scrubLine (t k c n : Nat) : Nat :=
  lineOf { tower := t, ctl := k, pc := c, col := n % 8, bank := n / 8 % 16, row := n / 128 % 24576, sid := n / 128 / 24576 }

/-- R342: a complete pass: every pseudo-channel's pointer has wrapped as often as this one. DEDUCED (log entry 48). -/
def passComplete (m : Stacked) (wraps : Nat) : Bool :=
  (List.range 8).all fun t => (List.range 32).all fun i => wraps ≤ (getPc m t i).wraps

/-- R342: the pointer's line read, decoded and written back: corrected, or as stored poison; the pointer steps. -/
def scrub (s : State) (t k c : Nat) (low high : HalfRead) : State :=
  let i := 2 * k + c
  let pa := scrubLine t k c (getPc s.stacked t i).scrub
  let q := placeOf pa
  let s1 := smLineEvent (rewriteLine s q pa low high) q 0x19 pa
  let pc := getPc s1.stacked t i
  let n := pc.scrub + 1
  let pc' := if n = pcLines then { pc with scrub := 0, wraps := pc.wraps + 1 } else { pc with scrub := n }
  let s2 := { s1 with stacked := setPc s1.stacked t i pc' }
  if n = pcLines ∧ passComplete s2.stacked pc'.wraps then dictBump s2 keyScrubPasses 1 else s2

/-- R341: a stop of a pseudo-channel: every row closed, and where `sc`, a scrub. -/
def refreshStop (s : State) (t k c : Nat) (sc : Bool) (low high : HalfRead) : State :=
  let i := 2 * k + c
  let pc := getPc s.stacked t i
  let s1 := { s with stacked := setPc s.stacked t i { pc with openRows := [], stops := pc.stops + 1 } }
  if sc then scrub s1 t k c low high else s1

/-- R347: a tower's zero fill: every byte 0 with valid check symbols, no poison. -/
def zeroFill (m : Stacked) (t : Nat) : Stacked :=
  { m with bytes := m.bytes.filter fun b => (placeOf b.1).tower ≠ t
           poison := m.poison.filter fun b => (placeOf (64 * b.1)).tower ≠ t }

end Sys2Proof.Machine
end

