-- ==== Sys2Proof/Machine/QueueOps.lean ====
section
/-! DEFINITION. The queue manager: ring contexts (R273 to R276), indices and doorbells (R277 to R281), fetches, claims, posts and
completions (R283 to R288, R591), rings between modules (R290 to R292), and ring errors (R293). -/

namespace Sys2Proof.Machine

def getRing (s : State) (r : Nat) : Ring := mapGet {} s.queues.rings r

def setRing (s : State) (r : Nat) (x : Ring) : State := { s with queues := { s.queues with rings := mapSet {} s.queues.rings r x } }

/-- The number of a field of a ring context. -/
def ringFld (x : Ring) (lo n : Nat) : Nat := fld x.ctx lo n

/-- A context with a field set. -/
def ctxSet (c : BitVec 512) (lo n v : Nat) : BitVec 512 :=
  (c &&& ~~~ BitVec.ofNat 512 ((2 ^ n - 1) <<< lo)) ||| BitVec.ofNat 512 ((v % 2 ^ n) <<< lo)

def ringSet (x : Ring) (lo n v : Nat) : Ring := { x with ctx := ctxSet x.ctx lo n v }

def ringEn (x : Ring) : Bool := ringFld x 0 1 = 1
def ringErr (x : Ring) : Bool := ringFld x 1 1 = 1
def ringProducer (x : Ring) : Nat := ringFld x 2 2
def ringConsumer (x : Ring) : Nat := ringFld x 4 2
def ringSize (x : Ring) : Nat := 2 ^ ringFld x 8 5
def ringHead (x : Ring) : Nat := ringFld x 160 17
def ringTail (x : Ring) : Nat := ringFld x 192 17
def ringPasid (x : Ring) : Option (BitVec 20) := if ringFld x 68 1 = 1 then some (BitVec.ofNat 20 (ringFld x 48 20)) else none

/-- R277: the occupancy. -/
def ringCount (x : Ring) : Nat := (ringTail x + 2 * ringSize x - ringHead x) % (2 * ringSize x)

/-- R277: the index `n` beyond the head. -/
def headPlus (x : Ring) (n : Nat) : Nat := (ringHead x + n) % (2 * ringSize x)

/-- R277: the address of the slot of an index. -/
def slotAddr (x : Ring) (i : Nat) : Nat := ringFld x 96 64 + 64 * (i % ringSize x)

/-- Claims and posts in flight that the ring's present indices count (R275). -/
def liveClaims (x : Ring) : Nat := (x.claims.filter fun k => !k.stale).length

def livePosts (x : Ring) : Nat := (x.posts.filter fun p => !p.stale).length

/-- R12, R294: a saturating count of BAR0. -/
def barError (s : State) : State := { s with bar0 := { s.bar0 with barErrors := sat32 (s.bar0.barErrors + 1) } }
def dbIgnore (s : State) : State := { s with bar0 := { s.bar0 with dbIgnored := sat32 (s.bar0.dbIgnored + 1) } }
def qmDrop (s : State) (n : Nat) : State := { s with bar0 := { s.bar0 with qmDropped := sat32 (s.bar0.qmDropped + n) } }

/-- R295, R300: a read completed with Completer Abort: bit 15 of the AER status. PRESUMED (log entry 79). -/
def completerAbort (s : State) : State :=
  { s with out := s.out ++ [.completerAbort], pcie := { s.pcie with aerStatus := s.pcie.aerStatus ||| 0x8000 } }

/-- R293: a ring stops with an error code. DEDUCED (log entry 28). -/
def stopRing (s : State) (r code : Nat) : State :=
  let s1 := setRing s r (ringSet (ringSet (getRing s r) 1 1 1) 72 8 code)
  let s2 := if s.bar0.modEvent.getLsbD 0 then s1 else { s1 with bar0 := { s1.bar0 with ringErrFirst := BitVec.ofNat 14 r } }
  logEntry (raiseModEvent s2 1) 2 0x6009 5 r (packData [(8, code)])

/-- R272: the valid bindings; rings 0 and 1 alone carry the mailbox. -/
def bindingOk (r p c : Nat) : Bool :=
  (p = 0 && c = 1) || (p = 1 && c = 0) || (p = 1 && c = 1) || (p = 1 && c = 2) || (p = 2 && c = 1)
    || (r = 0 && p = 0 && c = 3) || (r = 1 && p = 3 && c = 0)

/-- R274: the checks of an enable. -/
def contextOk (s : State) (r : Nat) (x : Ring) : Bool :=
  let base := ringFld x 96 64
  let core (n : Nat) : Bool := n < 96 || n = 0x7F
  bindingOk r (ringProducer x) (ringConsumer x) && 4 ≤ ringFld x 8 5 && ringFld x 8 5 ≤ 16
    && base % 4096 = 0 && (spaceOf base = 0 || spaceOf base = 2)
    && core (ringFld x 16 7) && core (ringFld x 24 7)
    && (ringFld x 7 1 = 0 || ringConsumer (if ringFld x 256 14 = r then x else getRing s (ringFld x 256 14)) = 0)

/-- R274, R275: EN set from 0 to 1. What is in flight from before completes, and moves no index. DEDUCED (log entry 28). -/
def enableRing (s : State) (r : Nat) : State :=
  let x := getRing s r
  if contextOk s r x then
    let c := ctxSet (ctxSet (ctxSet (ctxSet (ctxSet x.ctx 0 1 1) 1 1 0) 72 8 0) 160 17 0) 192 17 0
    setRing s r { ctx := c, claims := x.claims.map fun k => { k with stale := true }, posts := x.posts.map fun p => { p with stale := true } }
  else stopRing s r 4

/-- R282: a completion entry that the queue manager writes. -/
def completionEntry (ring status cookie : Nat) : List Byte :=
  natBytes 64 (3 + (ring % 2 ^ 14) <<< 16 + (status % 2 ^ 16) <<< 32 + (cookie % 2 ^ 64) <<< 64)

/-- R282: the COOKIE of an entry. -/
def entryCookie (e : List Byte) : Nat := leNat ((e.drop 8).take 8)

/-- The bytes of a written and untaken entry that a fetch has brought: forwarded, or in the pool. -/
def heldEntry (x : Ring) (i : Nat) : Option PoolEntry := (x.forwarded ++ x.pool).find? fun e => e.index = i

/-- R591: a completion of the queue manager put in line for its ring. -/
def queueCompletion (s : State) (ring : Nat) (entry : List Byte) : State :=
  { s with queues := { s.queues with qmWrites := s.queues.qmWrites ++ [{ ring := ring, entry := entry }] } }

/-- R275, R282: a completion of an untaken entry in line for CQ_RING: with its COOKIE, which is read first where no fetch has brought
the entry. -/
def completeEntry (s : State) (r : Nat) (x : Ring) (status i : Nat) : State :=
  match heldEntry x i with
  | some e => queueCompletion s (ringFld x 256 14) (completionEntry r status (entryCookie e.bytes))
  | none =>
    let w : QmWrite := { ring := ringFld x 256 14, entry := completionEntry r status 0
                         source := some { ring := Fin.ofNat 16384 r, slot := slotAddr x i, pasid := ringPasid x } }
    { s with queues := { s.queues with qmWrites := s.queues.qmWrites ++ [w] } }

/-- R275: EN cleared: every entry written and not yet taken is discarded, and completed where CQ_EN is 1. Claims, posts and forwards
in flight complete; a fetch comes back for no one. HEAD, TAIL and ERR stay as they are until the ring is enabled (DEDUCED: no rule
changes them). DEDUCED (log entry 28). -/
def disableRing (s : State) (r : Nat) : State :=
  let x := getRing s r
  let first := liveClaims x
  let idx := (List.range (ringCount x - first)).map fun n => headPlus x (first + n)
  let s1 := if ringFld x 7 1 = 1 then idx.foldl (fun s i => completeEntry s r x 0x50 i) s else s
  let s2 := { s1 with net := abandon s1.net fun q => q.who = .ringFetch (Fin.ofNat 16384 r) || q.who = .ringTail (Fin.ofNat 16384 r) }
  setRing s2 r { ringSet x 0 1 0 with pool := [], fetching := none, unsignalled := 0, due := false, writebackDue := false, forwarded := [] }

/-- R286: the write of the `n`th post in flight of a ring sets out. -/
def submitPost (s : State) (r : RingId) (x : Ring) (n : Nat) (bytes : List Byte) (poison : Bool) : State :=
  let a := slotAddr x ((ringTail x + n) % (2 * ringSize x))
  submit s (.ringPost r) true (a / 128 * 128) (byteMask (a % 128) 64) (List.replicate (a % 128) 0 ++ bytes ++ List.replicate (64 - a % 128) 0)
    (if poison then 3 else 0) false (ringPasid x)

/-- ERR cleared, and ERR_CODE with it (R273, R276). -/
def ringClear (x : Ring) : Ring := ringSet (ringSet x 1 1 0) 72 8 0

/-- R276, R291: ERR cleared with EN at 1: the ring restarts from its indices, a failed write is made again, and entries that no peer
has acknowledged are sent again from HEAD. DEDUCED (log entry 28). -/
def clearRingErr (s : State) (r : RingId) : State :=
  let x := getRing s r.val
  let s1 := setRing s r.val { ringClear x with forwarded := [], pool := x.forwarded ++ x.pool }
  if (requestOf s.net (.ringPost r)).isSome then s1
  else ((x.posts.filter fun p => !p.stale).zipIdx).foldl (fun s p => submitPost s r x p.2 p.1.bytes p.1.poison) s1

/-- The bits of a ring context that a write sets while EN is 0 (R273): every RW field but EN and ERR. -/
def ringWritable (r : Nat) : BitVec 512 :=
  let f (lo n : Nat) : Nat := (2 ^ n - 1) <<< lo
  BitVec.ofNat 512 ((if r < 2 then 0 else f 2 4) + f 6 7 + f 16 7 + f 24 7 + f 32 13 + f 48 21 + f 96 64 + f 224 15 + f 240 14
    + f 256 14 + f 272 24 + f 320 64)

/-- R273 to R276: a write of 4 or 8 bytes at an offset of a ring context. -/
def ringWrite (s : State) (r : RingId) (off : Nat) (size8 : Bool) (value : U64) : State :=
  let x := getRing s r.val
  let n := if size8 then 64 else 32
  let mask : BitVec 512 := BitVec.ofNat 512 ((2 ^ n - 1) <<< (8 * off))
  let v : BitVec 512 := BitVec.ofNat 512 ((value.toNat % 2 ^ n) <<< (8 * off))
  let w := ringWritable r.val &&& mask
  let merged := (x.ctx &&& ~~~ w) ||| (v &&& w)
  let irq : BitVec 512 := 64
  let clears := mask.getLsbD 1 && v.getLsbD 1
  if ringEn x then
    let s1 := if merged &&& ~~~ irq ≠ x.ctx &&& ~~~ irq then barError s else s
    let s2 := setRing s1 r.val { x with ctx := (x.ctx &&& ~~~ (irq &&& w)) ||| (v &&& irq &&& w) }
    if mask.getLsbD 0 && !v.getLsbD 0 then
      let s3 := disableRing s2 r.val
      if clears then setRing s3 r.val (ringClear (getRing s3 r.val)) else s3
    else if clears && ringErr x then clearRingErr s2 r else s2
  else
    let x1 := { x with ctx := merged }
    let s1 := setRing s r.val (if clears then ringClear x1 else x1)
    if mask.getLsbD 0 && v.getLsbD 0 then enableRing s1 r.val else s1

/-- R283: how many entries beyond HEAD are claimed, forwarded or in the pool. -/
def ringAhead (x : Ring) : Nat := liveClaims x + x.forwarded.length + x.pool.length

/-- R283: whether entries of a ring are still to be fetched. -/
def unfetched (x : Ring) : Bool := ringEn x && decide (ringAhead x + (if x.fetching.isSome then 1 else 0) < ringCount x)

/-- R283: a ring takes its place among those that wait for pool room, by its doorbell or by an entry from a peer. -/
def noteArrival (s : State) (r : Nat) : State :=
  let id : RingId := Fin.ofNat 16384 r
  let keeps (q : RingId) : Bool := q ≠ id && unfetched (getRing s q.val)
  if s.queues.roomOrder.contains id ∧ unfetched (getRing s r) then s
  else { s with queues := { s.queues with roomOrder := s.queues.roomOrder.filter keeps ++ [id] } }

/-- R279: a TAIL_DB. -/
def tailDoorbell (s : State) (r : Nat) (value : Nat) : State :=
  let x := getRing s r
  let s2 := 2 * ringSize x
  let v := value % 2 ^ 17
  if ¬ ringEn x ∨ ringErr x ∨ ringProducer x ≠ 0 then dbIgnore s
  else if s2 ≤ v ∨ ringSize x - ringCount x < (v + s2 - ringTail x) % s2 then stopRing s r 1
  else setRing (noteArrival s r) r (ringSet x 192 17 v)

/-- R279: a HEAD_DB. -/
def headDoorbell (s : State) (r : Nat) (value : Nat) : State :=
  let x := getRing s r
  let s2 := 2 * ringSize x
  let v := value % 2 ^ 17
  if ¬ ringEn x ∨ ringErr x ∨ ringConsumer x ≠ 0 then dbIgnore s
  else if s2 ≤ v ∨ ringCount x < (v + s2 - ringHead x) % s2 then stopRing s r 1
  else setRing s r (ringSet x 160 17 v)

/-- R283: entries in the pool, over all rings of HOST or REMOTE producers. -/
def poolUsed (s : State) : Nat :=
  (s.queues.rings.map fun e => if ringProducer e.2 = 1 then 0 else e.2.pool.length + (if e.2.fetching.isSome then 1 else 0)).sum

/-- R283: whether a ring's next fetch may set out: of a HOST or REMOTE producer up to 8 entries ahead of the claims, with pool room
left beside the rings whose doorbells came earlier; of a CORE producer the next entry alone. DEDUCED (log entry 28). -/
def mayFetch (s : State) (r : RingId) : Bool :=
  let x := getRing s r.val
  let wants (q : RingId) : Bool := let y := getRing s q.val; unfetched y && y.fetching.isNone && decide (y.pool.length < 8)
  if ringProducer x = 1 then x.pool.isEmpty
  else
    let before := (s.queues.roomOrder.takeWhile (· ≠ r)).filter wants
    decide (x.pool.length < 8) && decide (poolUsed s + before.length < 4096)

/-- R283: the fetch of a ring's next entry starts. -/
def startFetch (s : State) (r : RingId) : State :=
  let x := getRing s r.val
  if ringEn x ∧ ¬ ringErr x ∧ ringConsumer x ≠ 0 ∧ x.fetching.isNone ∧ mayFetch s r ∧ ringAhead x < ringCount x then
    let i := headPlus x (ringAhead x)
    let a := slotAddr x i
    submit (setRing s r.val { x with fetching := some i }) (.ringFetch r) false (a / 128 * 128) (byteMask (a % 128) 64) [] 0 false
      (ringPasid x)
  else s

/-- R285: an entry for a core that is not powered: completed with TARGET_OFF into CQ_RING, or dropped and counted. -/
def targetOffEntry (s : State) (r : Nat) (x : Ring) (e : List Byte) : State :=
  let c := ringFld x 24 7
  let s1 := setRing s r (ringSet x 160 17 (headPlus x 1))
  let s2 := if ringFld x 7 1 = 1 then queueCompletion s1 (ringFld x 256 14) (completionEntry r 0x45 (entryCookie e)) else qmDrop s1 1
  logTargetOff s2 c 1

/-- R285: every entry in the pool of a ring whose consumer core is not powered is taken in its place. -/
def targetOffPool (s : State) (r : Nat) : State :=
  let x := getRing s r
  x.pool.foldl (fun s e => targetOffEntry s r (getRing s r) e.bytes) (setRing s r { x with pool := [] })

/-- R283, R285: the answer of a ring's fetch. -/
def fetchAnswered (s : State) (r : RingId) (i : Nat) (a : ReadAnswer) : State :=
  let x := getRing s r.val
  let x0 := { x with fetching := none }
  match a with
  | .data bytes poison =>
    let e := (bytes.drop (slotAddr x i % 128)).take 64
    if ringConsumer x = 1 ∧ ringFld x 24 7 < 96 ∧ coreOff s (ringFld x 24 7) ∧ x.pool.isEmpty ∧ x.claims.isEmpty then
      targetOffEntry s r.val x0 e
    else setRing s r.val { x0 with pool := x.pool ++ [{ index := i, bytes := e, poison := poison ≠ 0 }] }
  | _ => stopRing (setRing s r.val x0) r.val 2

/-- A request under way finished: its record taken off, and what it came to, where the host's answer is given from outside. -/
def finishRequest (s : State) (w : Requester) (given : ReadAnswer) : Option (State × Request × ReadAnswer) :=
  match requestOf s.net w with
  | none => none
  | some r =>
    match r.state with
    | .answered a => some ({ s with net := dropRequest s.net r.id }, r, a)
    | .host =>
      let s1 := { s with net := dropRequest s.net r.id }
      some ((match r.flit with
        | some f => countRoute s1 (mkResponse f 0x81 [] 0 false) (routeOf (f.dstX.val, f.dstY.val) (f.srcX.val, f.srcY.val))
        | none => s1), r, given)
    | _ => none

/-- R288: whether a completion ring's interrupt falls due by its count. DEDUCED (log entry 30). -/
def coalesced (x : Ring) : Bool := ringFld x 6 1 = 1 && decide (max 1 (ringFld x 272 8) ≤ x.unsignalled)

/-- R275, R286, R287: a delivered post: TAIL advances, unless the ring has been enabled anew since, and a completion ring counts it
towards its write-back and its interrupt. DEDUCED (log entry 29). -/
def postDelivered (x : Ring) (p : Post) (rest : List Post) : Ring :=
  let x1 := { ringSet x 192 17 ((ringTail x + 1) % (2 * ringSize x)) with posts := rest }
  if p.stale then { x with posts := rest }
  else if ringConsumer x = 0 then
    let x2 := { x1 with unsignalled := x1.unsignalled + ringFld x1 6 1, writebackDue := x1.writebackDue || ringFld x 320 64 ≠ 0 }
    if coalesced x2 then { x2 with due := true, unsignalled := 0 } else x2
  else x1

/-- R287: the write of TAIL has left the port, with nothing newer to write, or its translation has failed. -/
def tailWritten (s : State) (q : Request) (r : RingId) (a : ReadAnswer) : State :=
  let x := getRing s r.val
  match a with
  | .data _ _ =>
    let off := q.addr.toNat % 128 + (ringFld x 320 57 / 8 * 8) % 128
    if leNat ((q.bytes.drop off).take 8) = ringTail x then setRing s r.val { x with writebackDue := false } else s
  | _ => stopRing s r.val 5

/-- R286: room for one more post. -/
def ringRoom (x : Ring) : Bool := ringCount x + livePosts x < ringSize x

/-- R275: the slot of a discarded entry read for its COOKIE. -/
def readDiscarded (s : State) (d : Discard) : State :=
  if (requestOf s.net (.ringDiscard d.ring)).isSome then s
  else submit s (.ringDiscard d.ring) false (d.slot / 128 * 128) (byteMask (d.slot % 128) 64) [] 0 false d.pasid

/-- A completion entry with its COOKIE set. -/
def withCookie (e : List Byte) (cookie : Nat) : List Byte := e.take 8 ++ natBytes 8 cookie ++ e.drop 16

/-- R275: the COOKIE of the oldest discarded entry of a ring has been read; where the read failed, the spec gives none and it is a
free value. DESIGN CHOICE (log entry 12). -/
def cookieRead (s : State) (r : RingId) (a : ReadAnswer) : State :=
  let isIt (w : QmWrite) : Bool := match w.source with | some d => d.ring = r | none => false
  match s.queues.qmWrites.find? isIt, s.queues.qmWrites.findIdx? isIt with
  | some w, some i =>
    let slot := (w.source.map (·.slot)).getD 0
    let c := match a with | .data bytes _ => entryCookie (bytes.drop (slot % 128)) | _ => freshNat s
    let s1 := match a with | .data _ _ => s | _ => useFree s 1
    { s1 with queues := { s1.queues with qmWrites := s1.queues.qmWrites.set i { w with entry := withCookie w.entry c, source := none } } }
  | _, _ => s

/-- R591: the queue manager's next write: dropped where its ring is disabled or stopped, waiting where it is full or its COOKIE is
still to be read. -/
def writeCompletion (s : State) : State :=
  match s.queues.qmWrites with
  | [] => s
  | w :: rest =>
    let x := getRing s w.ring
    let s1 := { s with queues := { s.queues with qmWrites := rest } }
    if ¬ ringEn x ∨ ringErr x then qmDrop s1 1
    else if w.source.isSome then (w.source.map (readDiscarded s)).getD s
    else if ringRoom x then
      submitPost (setRing s1 w.ring { x with posts := x.posts ++ [{ poster := none, ack := none, bytes := w.entry, poison := false }] }) (Fin.ofNat 16384 w.ring) x
        (livePosts x) w.entry false
    else s

/-- R290, R364: the packet of a forwarded entry. Its TAG names the forwarding ring. DEDUCED (log entry 29). -/
def forwardPacket (s : State) (r : Nat) (x : Ring) (e : PoolEntry) : Packet :=
  { opcode := 0x02, dstSys := ringFld x 224 15, srcSys := (sysAddr s).getD 0, srcEp := epCode (7, 0, 1), dstEp := epCode (7, 0, 1)
    rspace := 0, vc := 0, tag := r, poison := if e.poison then 1 else 0, err := false, ackReq := true, be := some (byteMask 0 64), lenM1 := 0
    addr := ringFld x 240 14 + (e.index % 2 ^ 17) <<< 14, data := e.bytes ++ List.replicate 64 0 }

/-- R290: the next entry of a forwarding ring goes to its peer, within the window of 8. -/
def forwardNext (s : State) (r : Nat) : State :=
  let x := getRing s r
  match x.pool with
  | [] => s
  | e :: rest =>
    if ringEn x ∧ ¬ ringErr x ∧ ringConsumer x = 2 ∧ x.forwarded.length < 8 then
      let s1 := setRing s r { x with pool := rest, forwarded := x.forwarded ++ [e] }
      let q := forwardPacket s r x e
      match routePort s q.dstSys with
      | none => answerLocal s1 0 q.srcEp r 0x02 0
      | some p =>
        if portOpen (getPort s.links p) then
          let c := getCorner s1.links (portEast p)
          let rec_ : OutRecord := { port := Fin.ofNat 8 p, srcEp := q.srcEp, tag := r, cls := 2, opcode := 0x02 }
          if 4096 ≤ c.records.length then s
          else enqueue { s1 with links := setCorner s1.links (portEast p) { c with records := c.records ++ [rec_] } } p { q with vc := leaveVc s p 0 }
        else answerLocal s1 p q.srcEp r 0x02 0
    else s

/-- R290 to R292: the acknowledgement of a forwarded entry: HEAD advances, or the ring stops. A rejection carries cause 2. -/
def forwardAnswered (s : State) (r : Nat) (err : Bool) (cause : Nat) : State :=
  let x := getRing s r
  if x.forwarded.isEmpty ∨ ringErr x ∨ ¬ ringEn x then s
  else if ¬ err then setRing s r { ringSet x 160 17 (headPlus x 1) with forwarded := x.forwarded.drop 1 }
  else if cause = 2 then
    let s1 := stopRing s r 3
    if ringFld x 7 1 = 1 then completeEntry s1 r x 0x51 (ringHead x) else s1
  else stopRing s r 6

/-- R291, R292: a forwarded entry taken by the peer: written once, acknowledged again where its index was taken before,
rejected where the ring does not match. DEDUCED (log entry 29). -/
def takeForwarded (s : State) (r : RingId) (sender senderRing index : Nat) (entry : List Byte) (f : Flit) (net : Net) : State :=
  let x := getRing s r.val
  let s1 := { s with net := net }
  if ¬ ringEn x ∨ ringProducer x ≠ 2 ∨ ringConsumer x ≠ 1 ∨ ringFld x 224 15 ≠ sender then
    send (qmDrop s1 1) { mkResponse f 0x82 [] 0 true with addr := 2 }
  else if x.taken.contains (sender, senderRing, index) then send s1 (mkResponse f 0x82 [] 0 false)
  else if ringErr x ∨ ¬ ringRoom x then s
  else
    let mine := x.taken.filter fun t => t.1 = sender && t.2.1 = senderRing
    let rest := x.taken.filter fun t => !(t.1 = sender && t.2.1 = senderRing)
    let x' := { x with posts := x.posts ++ [{ poster := none, ack := some f, bytes := entry, poison := f.poison.getLsbD 0 }]
                       taken := rest ++ ((sender, senderRing, index) :: mine).take 8 }
    submitPost (setRing s1 r.val x') r x (livePosts x) entry (f.poison.getLsbD 0)

/-- R224: whether a ring bound to a thread holds an entry not yet claimed. DEDUCED (log entry 30). -/
def queueIrq (s : State) (c : Nat) (t : Nat) : Bool :=
  s.queues.rings.any fun e => ringEn e.2 && ringConsumer e.2 = 1 && ringFld e.2 24 7 = c && ringFld e.2 32 2 = t
    && decide (liveClaims e.2 < ringCount e.2)

/-- R291, R385: forwarding rings with entries unacknowledged over a port stop with REMOTE_LOST. -/
def loseForwards (s : State) (p : Nat) : State :=
  s.queues.rings.foldl (fun s e =>
    if ringConsumer e.2 = 2 ∧ e.2.forwarded ≠ [] ∧ ¬ ringErr e.2 ∧ routePort s (ringFld e.2 224 15) = some p then stopRing s e.1 6 else s) s

end Sys2Proof.Machine
end

