-- ==== Sys2Proof/Machine/UnitCmds.lean ====
section
/-! DEFINITION. The commands of the engines, the vector unit and the gather engines (R138 to R196). -/

namespace Sys2Proof.Machine

/-- What a command answers. -/
abbrev Result := Host.Outcome State Fault Refusal

/-- An operation of core `c`: its new state and its notes take effect. -/
def coreDo (s : State) (c : CoreId) (r : Core × List Note) : State := applyNotes c (setCore s c r.1) r.2

/-- R163: DUMMY_WINDOW and WARMUP_CYCLES, and the full density. -/
def dummyWindow (s : State) : Nat := dictGet s keyDummyWindow
def warmupCycles (s : State) : Nat := dictGet s keyWarmupCycles
def dummyDensity (s : State) : Nat := dictGet s keyDummyDensity

/-- R138, R150: MMA: the head of an engine's queue issues. -/
def execMma (c : CoreId) (e : EngineId) (s : State) : Result :=
  .next (coreDo s c (issueEngine (dummyWindow s) (warmupCycles s) (dummyDensity s) 1 (getCore s c) e))

/-- R142, R150: CONV: the head of an engine's queue issues. -/
def execConv (c : CoreId) (e : EngineId) (s : State) : Result :=
  .next (coreDo s c (issueEngine (dummyWindow s) (warmupCycles s) (dummyDensity s) 2 (getCore s c) e))

/-- R151, R153: the last slice is injected; A and B are released. -/
def execEngineInjectEnd (c : CoreId) (e : EngineId) (s : State) : Result := .next (coreDo s c (injectEnd (getCore s c) e))

/-- R133, R153, R161: the drain ends; what of the tile has not reached core memory is in the output buffer. A poisoned tile
holds free bytes. -/
def execEngineDrainEnd (c : CoreId) (e : EngineId) (s : State) : Result :=
  .next (coreDo (useFree s (drainJunk (getCore s c) e)) c (drainEnd (getCore s c) e fun i => Config.freeByte (s.free + i)))

/-- R157, R161: the output reaches core memory and is marked. -/
def execEngineOutputMark (c : CoreId) (e : EngineId) (s : State) : Result := .next (coreDo s c (outputMark (getCore s c) e))

/-- R154: a seed load starts. -/
def execSeedLoadStart (c : CoreId) (e : EngineId) (s : State) : Result := .next (coreDo s c (seedStart (getCore s c) e))

/-- R154: a seed load ends. -/
def execSeedLoadEnd (c : CoreId) (e : EngineId) (s : State) : Result := .next (coreDo s c (seedEnd (getCore s c) e))

/-- An engine of a core replaced. -/
def engineDo (s : State) (c : CoreId) (e : EngineId) (x : Engine) : State := setCore s c (setEngine (getCore s c) e x)

/-- R163: a gap passes DUMMY_WINDOW. -/
def execDummyWindowExpire (c : CoreId) (e : EngineId) (s : State) : Result :=
  .next (engineDo s c e (dummyExpire (dummyWindow s) (getEngine (getCore s c) e)))

/-- R163: the density falls by one step. -/
def execDummyDensityStep (c : CoreId) (e : EngineId) (s : State) : Result :=
  .next (engineDo s c e (dummyStep (getEngine (getCore s c) e)))

/-- R163: a warm-up starts. -/
def execWarmupStart (c : CoreId) (e : EngineId) (s : State) : Result :=
  .next (engineDo s c e (warmupBegin (dummyWindow s) (warmupCycles s) (getCore s c) e))

/-- R163: a warm-up ends. -/
def execWarmupEnd (c : CoreId) (e : EngineId) (s : State) : Result :=
  .next (engineDo s c e (warmupFinish (dummyDensity s) (getEngine (getCore s c) e)))

/-- R168: an aged bank request goes first. The order of requests at a bank is timing; no state of the model changes.
DEDUCED (log entry 9). -/
def execBankRequestAged (_c : CoreId) (_bank : Fin 32) (_requester : Nat) (s : State) : Result := .next s

/-- R183: WCVT of every tile of a descriptor. -/
def wideConvert (m : CoreMem) (d : VectorDesc) (a : EvAttr) : VectorResult :=
  let r := (List.range d.rows).map (wcvtTile m d a)
  { rows := r.flatMap (·.1), notes := r.flatMap (·.2) }

/-- R183: ADD: the head descriptor of the vector unit starts. -/
def execAdd (c : CoreId) (s : State) : Result :=
  .next (coreDo s c (startVector 0x1 (fun m d a => elementwise m d a fun x y _ => numAdd x y) (getCore s c)))

/-- R183: SUB: the head descriptor of the vector unit starts. -/
def execSub (c : CoreId) (s : State) : Result :=
  .next (coreDo s c (startVector 0x2 (fun m d a => elementwise m d a fun x y _ => numAdd x (numNegate y)) (getCore s c)))

/-- R183: MUL: the head descriptor of the vector unit starts. -/
def execMul (c : CoreId) (s : State) : Result :=
  .next (coreDo s c (startVector 0x3 (fun m d a => elementwise m d a fun x y _ => numMul x y) (getCore s c)))

/-- R183: FMA, rounded once: the head descriptor of the vector unit starts. -/
def execFma (c : CoreId) (s : State) : Result :=
  .next (coreDo s c (startVector 0x4 (fun m d a => elementwise m d a fun x y z => numAdd (numMul x y) z) (getCore s c)))

/-- R183, R100: MAX: the head descriptor of the vector unit starts. -/
def execMax (c : CoreId) (s : State) : Result :=
  .next (coreDo s c (startVector 0x5 (fun m d a => elementwise m d a fun x y _ => numMax x y) (getCore s c)))

/-- R183, R100: MIN: the head descriptor of the vector unit starts. -/
def execMin (c : CoreId) (s : State) : Result :=
  .next (coreDo s c (startVector 0x6 (fun m d a => elementwise m d a fun x y _ => numMin x y) (getCore s c)))

/-- R183: MAXI: the head descriptor of the vector unit starts. -/
def execMaxi (c : CoreId) (s : State) : Result :=
  .next (coreDo s c (startVector 0x7 (fun m d a => elementwise m d a fun x _ _ => numMax x (fp32Num d.imm)) (getCore s c)))

/-- R183: MINI: the head descriptor of the vector unit starts. -/
def execMini (c : CoreId) (s : State) : Result :=
  .next (coreDo s c (startVector 0x8 (fun m d a => elementwise m d a fun x _ _ => numMin x (fp32Num d.imm)) (getCore s c)))

/-- R183: SCALE: the head descriptor of the vector unit starts. -/
def execScale (c : CoreId) (s : State) : Result :=
  .next (coreDo s c (startVector 0x9 (fun m d a => elementwise m d a fun x _ _ => numMul x (fp32Num d.imm)) (getCore s c)))

/-- R183, R99: ABS: the head descriptor of the vector unit starts. -/
def execAbs (c : CoreId) (s : State) : Result :=
  .next (coreDo s c (startVector 0xa (fun m d a => elementwise m d a fun x _ _ => numAbs x) (getCore s c)))

/-- R183: NEG: the head descriptor of the vector unit starts. -/
def execNeg (c : CoreId) (s : State) : Result :=
  .next (coreDo s c (startVector 0xb (fun m d a => elementwise m d a fun x _ _ => numNegate x) (getCore s c)))

/-- R183: CVT: the head descriptor of the vector unit starts. -/
def execCvt (c : CoreId) (s : State) : Result :=
  .next (coreDo s c (startVector 0xc (fun m d a => elementwise m d a fun x _ _ => x) (getCore s c)))

/-- R107, R183: QUANT: the head descriptor of the vector unit starts. -/
def execQuant (c : CoreId) (s : State) : Result :=
  .next (coreDo s c (startVector 0xd (fun m d a => quantise m d a) (getCore s c)))

/-- R101, R184: CMP: the head descriptor of the vector unit starts. -/
def execCmp (c : CoreId) (s : State) : Result :=
  .next (coreDo s c (startVector 0xe (fun m d _a => compareRows m d) (getCore s c)))

/-- R183, R184: SELECT: the head descriptor of the vector unit starts. -/
def execSelect (c : CoreId) (s : State) : Result :=
  .next (coreDo s c (startVector 0xf (fun m d a => selectRows m d a) (getCore s c)))

/-- R183: COPY: the head descriptor of the vector unit starts. -/
def execCopy (c : CoreId) (s : State) : Result :=
  .next (coreDo s c (startVector 0x10 (fun m d _a => copyRows m d) (getCore s c)))

/-- R183: FILL: the head descriptor of the vector unit starts. -/
def execFill (c : CoreId) (s : State) : Result :=
  .next (coreDo s c (startVector 0x11 (fun m d a => elementwise m d a fun _ _ _ => fp32Num d.imm) (getCore s c)))

/-- R185: RSUM: the head descriptor of the vector unit starts. -/
def execRsum (c : CoreId) (s : State) : Result :=
  .next (coreDo s c (startVector 0x20 (fun m d a => rowwise m d a rowSum) (getCore s c)))

/-- R183, R100: RMAX: the head descriptor of the vector unit starts. -/
def execRmax (c : CoreId) (s : State) : Result :=
  .next (coreDo s c (startVector 0x21 (fun m d a => rowwise m d a fun xs => xs.foldl numMax .nan) (getCore s c)))

/-- R183, R100: RMIN: the head descriptor of the vector unit starts. -/
def execRmin (c : CoreId) (s : State) : Result :=
  .next (coreDo s c (startVector 0x22 (fun m d a => rowwise m d a fun xs => xs.foldl numMin .nan) (getCore s c)))

/-- R183, R100: RAMAX: the head descriptor of the vector unit starts. -/
def execRamax (c : CoreId) (s : State) : Result :=
  .next (coreDo s c (startVector 0x23 (fun m d a => rowwise m d a fun xs => (xs.map numAbs).foldl numMax .nan) (getCore s c)))

/-- R105, R106: SCALEFIND: the head descriptor of the vector unit starts. -/
def execScalefind (c : CoreId) (s : State) : Result :=
  .next (coreDo s c (startVector 0x30 (fun m d _a => scaleFindRows (dictGet s keyClipPpm) m d) (getCore s c)))

/-- R118, R119: ANCHOR: the head descriptor of the vector unit starts. -/
def execAnchor (c : CoreId) (s : State) : Result :=
  .next (coreDo s c (startVector 0x31 (fun m d _a => anchorRows m d) (getCore s c)))

/-- R128: WADD: the head descriptor of the vector unit starts. -/
def execWadd (c : CoreId) (s : State) : Result :=
  .next (coreDo s c (startVector 0x40 (fun m d a => tiles d (waddTile m d a)) (getCore s c)))

/-- R128, R130: WALIGN: the head descriptor of the vector unit starts. -/
def execWalign (c : CoreId) (s : State) : Result :=
  .next (coreDo s c (startVector 0x41 (fun m d a => tiles d (walignTile m d a)) (getCore s c)))

/-- R128, R130: WEXP: the head descriptor of the vector unit starts. -/
def execWexp (c : CoreId) (s : State) : Result :=
  .next (coreDo s c (startVector 0x42 (fun m d _a => tiles d fun t => (wexpTile m d t, [])) (getCore s c)))

/-- R128, R133, R183: WCVT: the head descriptor of the vector unit starts. -/
def execWcvt (c : CoreId) (s : State) : Result :=
  .next (coreDo s c (startVector 0x43 (fun m d a => wideConvert m d a) (getCore s c)))

/-- R186, R190: the running vector descriptor ends. -/
def execVectorEnd (c : CoreId) (s : State) : Result :=
  .next (coreDo (useFree s (vectorJunk (getCore s c))) c (vectorFinish (getCore s c) fun i => Config.freeByte (s.free + i)))

/-- R193, R194: the lines a gather fetches are asked for, each the part of it that lies inside the window. -/
def requestLines (s : State) (c : CoreId) (g : GatherId) (wants : List (Nat × Nat × Nat)) : State :=
  wants.foldl (fun s w =>
    let a := ownSpace (sysAddr s) w.2.1
    submit s (.gatherLine c g w.1) false (a / 128 * 128) (byteMask (a % 128) w.2.2) [] 0 false none) s

/-- R192, R193: the head gather of an engine starts. -/
def execGather (c : CoreId) (g : GatherId) (s : State) : Result :=
  let r := gatherStart c (sysAddr s) (getCore s c) g
  .next (requestLines (coreDo s c (r.1, r.2.1)) c g r.2.2)

/-- R194: the bytes of a fill that lie inside the window. -/
def fillAnswer (q : Request) (a : ReadAnswer) : ReadAnswer :=
  match a with
  | .data bytes poison => .data ((List.range 128).filterMap fun i => if q.be.getLsbD i then some (bytes.getD i 0) else none) poison
  | x => x

/-- R194, R195: a line fill returns to a gather engine. -/
def execGatherLineFill (c : CoreId) (g : GatherId) (line : Nat) (s : State) : Result :=
  match requestOf s.net (.gatherLine c g line) with
  | some q =>
    match q.state with
    | .answered a =>
      let s1 := { s with net := dropRequest s.net q.id }
      let r := gatherFill c (sysAddr s) (getCore s c) g line (fillAnswer q a)
      .next (requestLines (coreDo s1 c (r.1, r.2.1)) c g r.2.2)
    | _ => .next s
  | none => .next s

/-- R193: the last element is written and the destination marked. -/
def execGatherEnd (c : CoreId) (g : GatherId) (s : State) : Result := .next (coreDo s c (gatherFinish (getCore s c) g))

end Sys2Proof.Machine
end

