-- ==== Sys2Proof/Machine/StreamCmds.lean ====
section
/-! DEFINITION. The commands of the caravans (R241 to R267). -/

namespace Sys2Proof.Machine

/-- R243, R249: the oldest ARMED caravan of a core takes a free active slot; one whose context is not on die has it fetched
first. -/
def execCaravanStart (c : CoreId) (s : State) : Result :=
  let k := getCore s c
  match k.stream.armed with
  | [] => .next s
  | v :: rest =>
    if 32 ≤ k.stream.active.length then .next s
    else
      let b := mapGet {} s.banks (cvBank v.val)
      if b.onDie.contains v then
        .next (startCaravan (setCore s c { k with stream := { k.stream with armed := rest, active := k.stream.active ++ [v] } }) v)
      else if b.fetching.contains v then .next s
      else .next { s with banks := mapSet {} s.banks (cvBank v.val) { b with fetching := b.fetching ++ [v] } }

/-- R248: a fetched context arrives on die. -/
def execContextFetchDone (v : CaravanId) (s : State) : Result :=
  if (mapGet {} s.banks (cvBank v.val)).fetching.contains v then .next (touchContext s v) else .next s

/-- R253 to R256: the read of a line issues. -/
def execLineReadIssue (v : CaravanId) (line : Nat) (s : State) : Result := .next (issueRead s v line)

/-- R253, R257, R260: source data of a line arrives. -/
def execLineDataArrival (v : CaravanId) (line : Nat) (answer : ReadAnswer) (s : State) : Result :=
  match (getCv s v.val).reads.find? fun r => r.line = line with
  | none => .next s
  | some r =>
    match finishRequest s (.caravanLine v line) answer with
    | none => .next s
    | some (s1, q, a) => .next (lineArrives s1 v line r (q.phys.map (· / 128)) a)

/-- R241, R253: a line goes to its destination, in the order of arrival. -/
def execLineDeliver (v : CaravanId) (line : Nat) (_receiver : CoreId) (s : State) : Result :=
  let x := getCv s v.val
  match nextDelivery x with
  | none => .next s
  | some b => if x.state = .running ∧ x.ending.isNone ∧ b.line = line then .next (deliverLine s v b) else .next s

/-- R260, R243: a faulted caravan's drain ends. -/
def execFaultDrainEnd (v : CaravanId) (s : State) : Result :=
  let x := getCv s v.val
  match x.fault with
  | none => .next s
  | some f => if x.state = .running ∧ x.ending.isNone ∧ drained x then .next (endDrain s v f) else .next s

/-- R246: the report record is complete and the caravan enters HALTED, DONE or FAILED. -/
def execCaravanEnd (v : CaravanId) (s : State) : Result :=
  match (getCv s v.val).ending with
  | none => .next s
  | some e => if mayReport s v then .next (enterEnd s v e.1 e.2) else .next s

/-- R267: a straggler's timeout: counted, and under PRUNE the receiver is dropped. In lock-step mode the timer does not run
(R268). -/
def execMcStragglerTimeout (v : CaravanId) (receiver : CoreId) (s : State) : Result :=
  let x := getCv s v.val
  let u := windowBase x
  let ahead := x.buffer.any fun b => u + 63 < b.line
  let r := (liveReceivers x).find? fun r => r.core = receiver.val
  let slow : Bool := match r with | some r => decide (r.low = u) | none => false
  if x.state = .running ∧ (cvDesc x.desc).op = 2 ∧ ahead ∧ slow ∧ ¬ lockstepMode s then
    let s1 := cvEvent s v.val 0x5E 1 none
    if dictGet s keyMcStragglerPolicy = 1 then
      let s2 := cvEvent s1 v.val 0x5F 1 none
      let s3 := modCv s2 v.val fun x =>
        { x with pruned := x.pruned ||| (1#96 <<< receiver.val)
                 receivers := x.receivers.map fun q => if q.core = receiver.val then { q with parked := [] } else q }
      let held : Bool := match r with | some r => r.holdGranted | none => false
      let s4 := match r with | some r => dropParked s3 x r | none => s3
      .next (finishIfDone (settleSent (if held then pruneReceiver s4 v receiver else s4) v) v)
    else .next s1
  else .next s

end Sys2Proof.Machine
end

