-- ==== Sys2Proof/Machine/NetCmds.lean ====
section
/-! DEFINITION. The commands of the packet network and of the border ports (R306 to R326), and the grant of a hold (R250). -/

namespace Sys2Proof.Machine

/-- R323, R324, R491: a request flit at a border port: queued, answered with RETRY where the port is full or its region drains,
or with ERR while its region is isolated. In a lock-step run a port whose clock is not tick-locked breaks cycle match (R399,
R426). -/
def borderTake (s0 : State) (f : Flit) : State :=
  let p := nodeBorder f.dstX.val f.dstY.val f.dstSub.val
  let s := if lockstepMode s0 ∧ dictGet s0 keyLsState = 5 ∧ ¬ portTickLocked s0 p then breachCm s0 7 else s0
  let b := mapGet {} s.net.border p
  if portIsolated s p then refuse s f
  else if portDraining s p ∨ 64 ≤ b.taken.length ∨ 16 ≤ b.queue.length then
    countEvent (send s (mkResponse f 0x87 [] 0 false)) .waystation (16 * f.dstY.val + f.dstX.val) 0x15 {} 1
  else { s with net := { s.net with border := mapSet {} s.net.border p { b with queue := b.queue ++ [f] } } }

/-- Whether every byte of a flit lies in a range. -/
def flitInside (f : Flit) (base : Nat) (r : Range) : Bool :=
  (List.range 128).all fun b => !f.byteEn.getLsbD b || rangeHasByte r (base + b)

/-- The hold, for writing or for reading, under which a flit from an Askua corner reaches core memory: of a foreign caravan of the
module that the inbound record of its tag names. -/
def foreignHold (s : State) (f : Flit) (write : Bool) (m : CoreMem) : Option Hold :=
  let c := getCorner s.links (f.srcX = 14)
  match c.inbound.find? fun r => r.tag = f.tag.toNat with
  | none => none
  | some r => m.holds.find? fun h =>
      (match h.owner with | .foreign sys _ => sys = r.sys | _ => false) && h.write = write
        && flitInside f (f.addr.toNat % coreBytes / 128 * 128) h.range

/-- R175, R250: a foreign caravan's hold ends once its lines have covered every byte of its range. DEDUCED (log entry 36). -/
def foreignTouch (k : Core) (h : Hold) (base : Nat) (f : Flit) : Core :=
  let add (t : List (Nat × Bool)) : List (Nat × Bool) :=
    (List.range 128).foldl (fun t b => if f.byteEn.getLsbD b then mapSet false t (base + b) true else t) t
  let fs := k.mem.foreign.map fun x => if x.owner = h.owner then { x with touched := add x.touched } else x
  let full := fs.any fun x => x.owner = h.owner && (List.range h.range.rows).all fun i => (List.range h.range.rowBytes).all fun b =>
    mapGet false x.touched (h.range.base + i * h.range.pitch + b)
  let k1 := { k with mem := { k.mem with foreign := fs } }
  if full then
    let k2 := if h.write then coreEndWrite k1 h.owner h.part h.range else { k1 with mem := releaseHold k1.mem h.owner h.part }
    { k2 with mem := { k2.mem with foreign := k2.mem.foreign.filter fun x => x.owner ≠ h.owner } }
  else k1

/-- R309, R321: bytes of a core's memory read for an RD flit. -/
def coreServeRead (s : State) (c : CoreId) (f : Flit) : State :=
  let k := getCore s c
  let m := k.mem
  let line := f.addr.toNat % coreBytes / 128 * 128
  let bytes := (coreRead m line 128).zipIdx.map fun b => if f.byteEn.getLsbD b.2 then b.1 else 0
  let mark (h : Nat) : Bool := granulePoison m (line / 64 + h) && !(halfEnables f.byteEn h).2
  let k1 := if nodeKind f.srcX.val f.srcY.val = .askua then (match foreignHold s f false m with | some h => foreignTouch k h line f | none => k) else k
  send (setCore s c k1) (mkResponse f 0x81 bytes ((if mark 0 then 1 else 0) + (if mark 1 then 2 else 0)) false)

/-- R241, R295, R302: a request of a unit of this module for host memory reaches the PCIe endpoint, which keeps at most 1,024 reads
outstanding. -/
def hostServe (s : State) (f : Flit) (n : Net) : State :=
  let s1 := { s with net := n }
  match findRequest n f.tag.toNat with
  | none => refuse s1 f
  | some r =>
    if spaceOf r.addr.toNat ≠ 2 ∨ flitSrc f ≠ requesterEp s r.who then refuse s1 f
    else if ¬ r.write ∧ 1024 ≤ (n.requests.filter fun q => q.state = .host).length then s
    else hostSubmit s1 r

/-- A flit that reaches its destination: taken off the network and acted on there, or left where it is. -/
def arrive (s : State) (f : Flit) (act : State → State) : State :=
  match takeFlit s.fuses s.net f with
  | some n => act { s with net := n }
  | none => s

/-- R309: a read reaches its endpoint. -/
def serveRead (s : State) (f : Flit) (n : Net) : State :=
  let s1 := { s with net := n }
  if !endpointListed f.dstX.val f.dstY.val f.dstSub.val then refuse s1 f else
  match nodeKind f.dstX.val f.dstY.val with
  | .core =>
    match nodeCore s.fuses f.dstX.val f.dstY.val with
    | some c => if coreOff s c.val then refuse (logTargetOff s1 c.val 2) f else coreServeRead s1 c f
    | none => refuse s1 f
  | .tower => towerTake s f n
  | .fabric => borderTake s1 f
  | .askua => (cornerRequest s1 f).getD s
  | .pcie => hostServe s f n
  | _ => refuse s1 f

/-- R309: RD. -/
def execRd (f : Flit) (s : State) : Result :=
  if f.cls = clsReq ∧ f.opcode = 0x01 then
    match takeFlit s.fuses s.net f with
    | some n => .next (serveRead s f n)
    | none => .next s
  else .next s

/-- R178, R309: a WR flit's bytes written into a core's memory. -/
def coreServeWrite (s : State) (c : CoreId) (f : Flit) : State :=
  let k := getCore s c
  let w := coreFlitWrite k.mem (f.addr.toNat % coreBytes / 128 * 128) f
  let s1 := countEvent (setCore s c { k with mem := w.1 }) .core c.val 0x32 {} w.2
  if f.ackReq then send s1 (mkResponse f 0x82 [] 0 false) else s1

/-- R309: a write reaches its endpoint. The queue manager takes a forwarded entry as its own command. -/
def serveWrite (s : State) (f : Flit) (n : Net) : State :=
  let s1 := { s with net := n }
  if !endpointListed f.dstX.val f.dstY.val f.dstSub.val then refuse s1 f else
  match nodeKind f.dstX.val f.dstY.val with
  | .core =>
    match nodeCore s.fuses f.dstX.val f.dstY.val with
    | some c => if coreOff s c.val then refuse (logTargetOff s1 c.val 2) f else coreServeWrite s1 c f
    | none => refuse s1 f
  | .tower => towerTake s f n
  | .fabric => borderTake s1 f
  | .askua => (cornerRequest s1 f).getD s
  | .caravanserai => if f.dstY = 0 ∧ f.dstSub = 1 then s else refuse s1 f
  | .pcie => hostServe s f n
  | _ => refuse s1 f

/-- R309: WR. -/
def execWr (f : Flit) (s : State) : Result :=
  if f.cls = clsWr ∧ f.opcode = 0x02 then
    match takeFlit s.fuses s.net f with
    | some n => .next (serveWrite s f n)
    | none => .next s
  else .next s

/-- R314: core `c` grants the sender of a line its receive entry again. DEDUCED (log entry 36). -/
def grantEntry (s : State) (c : CoreId) (dst : Nat × Nat × Nat) (tag : Nat) : State :=
  send s (mkFlit (coreEp s c.val) dst clsRsp 0x86 tag 0 3 (natBytes 2 1) 0 false)

/-- R178, R250: a caravan's line written into a core's memory, under the hold placed for it; without one nothing is written. -/
def coreServeLine (s : State) (c : CoreId) (f : Flit) : State :=
  let k := getCore s c
  let base := f.addr.toNat % coreBytes / 128 * 128
  let local_ := (findRequest s.net f.tag.toNat).bind fun r => match r.who with | .caravanWrite v _ => some v | _ => none
  let hold := if nodeKind f.srcX.val f.srcY.val = .askua then foreignHold s f true k.mem
    else local_.bind fun v => k.mem.holds.find? fun h => h.owner = .caravan v && h.part = .destination
  match hold with
  | none => s
  | some h =>
    let w := coreFlitWrite k.mem base f
    let k1 := { k with mem := w.1 }
    let k2 := match h.owner with | .foreign _ _ => foreignTouch k1 h base f | _ => k1
    countEvent (setCore s c k2) .core c.val 0x32 {} w.2

/-- R309: LINE. -/
def execLine (f : Flit) (s : State) : Result :=
  if f.cls = clsStr ∧ f.opcode = 0x03 ∧ ¬ f.mcast then
    match takeFlit s.fuses s.net f with
    | none => .next s
    | some n =>
      let s1 := { s with net := n }
      match nodeKind f.dstX.val f.dstY.val, nodeCore s.fuses f.dstX.val f.dstY.val with
      | .core, some c =>
        if coreOff s c.val then .next (refuse (logTargetOff s1 c.val 2) f)
        else
          let s2 := grantEntry (coreServeLine s1 c f) c (flitSrc f) f.tag.toNat
          .next (if f.ackReq then send s2 (mkResponse f 0x82 [] 0 false) else s2)
      | .askua, _ => .next ((cornerRequest s1 f).getD s)
      | _, _ => .next (refuse s1 f)
  else .next s

/-- R178, R266: a multicast line written at a receiver, which grants its receive entry again. -/
def writeCopy (s : State) (v : CaravanId) (line : Nat) (r : Request) (receiver : CoreId) (tag : Nat) : State :=
  let k := getCore s receiver
  let f := mkFlit (0, 0, 0) (0, 0, 0) clsStr 0x04 tag 0 r.be r.bytes r.poison false
  let w := coreFlitWrite k.mem (cmAddr r.addr.toNat) f
  let s1 := countEvent (setCore s receiver { k with mem := w.1 }) .core receiver.val 0x32 {} w.2
  grantEntry (deliverAt { s1 with net := leaveCopy s1.net r.id receiver.val } v receiver.val line (r.poison ≠ 0)) receiver
    (coreEp s (getCv s v.val).core.val) tag

/-- R266, R320: MC_LINE: the copy of a multicast line at one receiver: written under its hold, or kept there until the hold is
granted. -/
def execMcLine (f : Flit) (receiver : CoreId) (s : State) : Result :=
  if f.cls = clsStr ∧ f.opcode = 0x04 then
    match takeCopy s.fuses s.net f receiver with
    | none => .next s
    | some n =>
      let s1 := { s with net := n }
      let gone := grantEntry { s1 with net := leaveCopy n f.tag.toNat receiver.val } receiver (flitSrc f) f.tag.toNat
      match findRequest n f.tag.toNat with
      | none => .next gone
      | some r =>
        match r.who with
        | .caravanWrite v line =>
          let live : Bool := (liveReceivers (getCv s v.val)).any fun q => q.core = receiver.val
          if (getCore s1 receiver).mem.holds.any fun h => h.owner = .caravan v && h.part = .destination then
            .next (writeCopy s1 v line r receiver f.tag.toNat)
          else if live then
            .next (modCv s1 v.val fun x =>
              { x with receivers := x.receivers.map fun q => if q.core = receiver.val then { q with parked := q.parked ++ [r.id] } else q })
          else .next gone
        | _ => .next gone
  else .next s

/-- R210: a range from the payload of a HOLD_REQ. DEDUCED (log entry 36). -/
def holdReqRange (f : Flit) : Range := unpackRange (f.addr.toNat % coreBytes) (leNat (f.payload.take 8))

/-- R314: a hold request enters a core's table, or finds it full and is answered with RETRY. -/
def coreHoldReq (s : State) (c : CoreId) (f : Flit) : State :=
  let k := getCore s c
  let waiting := (k.mem.pendingHolds.filter fun p => p.request.isSome).length
  let owner : Option Owner :=
    if nodeKind f.srcX.val f.srcY.val = .askua then
      (((getCorner s.links (f.srcX = 14)).inbound.find? fun r => r.tag = f.tag.toNat).map fun r => .foreign r.sys (r.ep * 16384 + r.remoteTag))
    else (findRequest s.net f.tag.toNat).bind fun r => match r.who with | .holdReq v _ => some (.caravan v) | _ => none
  match owner with
  | none => s
  | some o =>
    if 64 ≤ waiting then send s (mkResponse f 0x87 [] 0 false)
    else
      let w := f.ackReq
      let h : Hold := { owner := o, write := w, part := if w then .destination else .source, range := holdReqRange f }
      setCore s c { k with mem := { k.mem with pendingHolds := k.mem.pendingHolds ++ [{ hold := h, request := some f }] } }

/-- R314: HOLD_REQ. -/
def execHoldReq (f : Flit) (s : State) : Result :=
  if f.cls = clsReq ∧ f.opcode = 0x05 then
    match takeFlit s.fuses s.net f with
    | none => .next s
    | some n =>
      let s1 := { s with net := n }
      match nodeKind f.dstX.val f.dstY.val, nodeCore s.fuses f.dstX.val f.dstY.val with
      | .core, some c => if coreOff s c.val then .next (send (logTargetOff s1 c.val 2) { mkResponse f 0x85 [] 0 true with addr := 0 }) else .next (coreHoldReq s1 c f)
      | .askua, _ => .next ((cornerRequest s1 f).getD s)
      | _, _ => .next (refuse s1 f)
  else .next s

/-- R266: a line that waited at a receiver for the hold is written. -/
def writeParked (s : State) (v : CaravanId) (receiver : CoreId) (id : Nat) : State :=
  match findRequest s.net id with
  | some r => (match r.who with | .caravanWrite w line => if w = v then writeCopy s v line r receiver id else s | _ => s)
  | none => s

/-- R250, R266: a granted hold noted at the caravan that asked, and the lines that waited for it written; a receiver pruned meanwhile
is finished at once (R267). -/
def noteGrant (s : State) (v : CaravanId) (holder : CoreId) (part : Part) : State :=
  if part = .source then modCv s v.val fun x => { x with sourceHeld := true }
  else
    let parked := (((getCv s v.val).receivers.find? fun r => r.core = holder.val).map (·.parked)).getD []
    let s1 := modCv s v.val fun x =>
      { x with receivers := x.receivers.map fun r => if r.core = holder.val then { r with holdGranted := true, parked := [] } else r }
    if (getCv s v.val).pruned.getLsbD holder.val then pruneReceiver s1 v holder
    else parked.foldl (fun s id => writeParked s v holder id) s1

/-- R29, R309: why a request failed, as its response tells: the cause of R370 where an Askua corner or the PCIe node answers, and at a
core that it is not powered. DEDUCED (log entry 47). -/
def responseAnswer (f : Flit) (be : BitVec 128) : ReadAnswer :=
  if f.err then
    match nodeKind f.srcX.val f.srcY.val with
    | .askua | .pcie => (match f.addr.toNat % 4 with | 1 => .missed | 2 => .denied | 3 => .off | _ => .failed)
    | .core => .off
    | _ => .failed
  else .data f.payload (touchedPoison f.poison be)

/-- R250, R309: a HOLD_GRANT taken off the network: at the stream unit that asked, or at the corner of the module that did. -/
def grantArrives (s : State) (g : Flit) : State :=
  let s1 := { s with net := dropRequest s.net g.tag.toNat }
  if nodeKind g.dstX.val g.dstY.val = .askua then cornerResponse s1 g
  else
    match findRequest s.net g.tag.toNat with
    | none => s
    | some q =>
      match q.who with
      | .holdReq v core =>
        if g.err then demandFault s1 v (faultKind (spaceOf q.addr.toNat) (responseAnswer g 0)) q.write q.addr.toNat
        else noteGrant s1 v (Fin.ofNat 96 core) (if q.write then .destination else .source)
      | _ => s1

/-- R312: a HOLD_GRANT delivered, once no response of its stream stands before it. -/
def deliverGrant (s : State) (g : Flit) : State :=
  match takeFlit s.fuses s.net g with
  | some n => grantArrives { s with net := n } g
  | none => s

/-- The name by which HOLD_GRANT tells a foreign caravan: its endpoint and tag. DEDUCED (log entry 36). -/
def foreignName (ep tag : Nat) : Nat := (ep * 16384 + tag) % 262144

/-- Whether a HOLD_GRANT on its way is for a hold of `v` at a core, or for no one any more. -/
def grantIsFor (s : State) (v : CaravanId) (holder : CoreId) (g : Flit) : Bool :=
  g.opcode = 0x85 &&
    (if nodeKind g.dstX.val g.dstY.val = .askua then
      (getCorner s.links (g.dstX = 14)).inbound.any fun r => r.tag = g.tag.toNat && foreignName r.ep r.remoteTag = v.val
    else
      match findRequest s.net g.tag.toNat with
      | some q => q.who = .holdReq v holder.val || q.who = .nobody
      | none => true)

/-- R250: a hold of caravan `v` is granted at a core: one that waits in the core's table, whose HOLD_GRANT then leaves, or one whose
HOLD_GRANT is on its way and reaches the stream unit. -/
def execHoldGrant (v : CaravanId) (holder : CoreId) (s : State) : Result :=
  let k := getCore s holder
  let mine (o : Owner) : Bool := match o with | .caravan w => w = v | .foreign _ n => n % 262144 = v.val | _ => false
  match grantable k.mem mine [] k.mem.pendingHolds with
  | some (p, rest) =>
    let k1 := placeHold { k with mem := { k.mem with pendingHolds := rest } } p.hold
    let k2 := match p.hold.owner with
      | .foreign _ _ => { k1 with mem := { k1.mem with foreign := k1.mem.foreign ++ [{ owner := p.hold.owner, touched := [] }] } }
      | _ => k1
    match p.request with
    | some f =>
      let g := mkResponse f 0x85 [] 0 false
      .next (deliverGrant (send (setCore s holder k2) g) g)
    | none => .next (noteGrant (setCore s holder k2) v holder p.hold.part)
  | none =>
    match s.net.flits.find? fun g => grantIsFor s v holder g.flit with
    | some g => .next (deliverGrant s g.flit)
    | none => .next s

/-- R301: a line of a BAR2 access is answered: a read completes with its bytes, or with Completer Abort. -/
def bar2Answered (s : State) (r : Request) (a : ReadAnswer) : State :=
  match a with
  | .data bytes poison =>
    if r.write then s
    else { s with out := s.out ++ [.barData ((bytes.zipIdx.filter fun b => r.be.getLsbD b.2).map (·.1)) (poison ≠ 0)] }
  | _ => if r.write then barError s else barError (completerAbort s)

/-- R309: RD_DATA reaches its requester: the answer stands by its request; at a corner it leaves for the module that asked. -/
def execRdData (f : Flit) (s : State) : Result :=
  if f.cls = clsRsp ∧ f.opcode = 0x81 then
    .next (arrive s f fun s =>
      if nodeKind f.dstX.val f.dstY.val = .askua then cornerResponse { s with net := dropRequest s.net f.tag.toNat } f
      else
        match findRequest s.net f.tag.toNat with
        | some r =>
          match r.who with
          | .bar2 _ _ => bar2Answered { s with net := dropRequest s.net r.id } r (responseAnswer f r.be)
          | .nobody => { s with net := dropRequest s.net r.id }
          | _ => answerRequest s r.id (responseAnswer f r.be)
        | none => s)
  else .next s

/-- R309: WR_ACK reaches its requester. -/
def execWrAck (f : Flit) (s : State) : Result :=
  if f.cls = clsRsp ∧ f.opcode = 0x82 then
    .next (arrive s f fun s =>
      if nodeKind f.dstX.val f.dstY.val = .askua then cornerResponse { s with net := dropRequest s.net f.tag.toNat } f
      else if flitDst f = (7, 0, 1) ∧ nodeKind f.srcX.val f.srcY.val = .askua then
        forwardAnswered s f.tag.toNat f.err (f.addr.toNat % 4)
      else
        match findRequest s.net f.tag.toNat with
        | some r =>
          match r.who with
          | .caravanWrite v line => lineWriteAnswered { s with net := dropRequest s.net r.id } v line (r.poison ≠ 0) (responseAnswer f r.be)
          | .bar2 _ _ => bar2Answered { s with net := dropRequest s.net r.id } r (responseAnswer f r.be)
          | .ringTail q => tailWritten { s with net := dropRequest s.net r.id } r q (responseAnswer f r.be)
          | .nobody => { s with net := dropRequest s.net r.id }
          | _ => answerRequest s r.id (responseAnswer f r.be)
        | none => s)
  else .next s

/-- R314: CREDIT reaches a stream unit: receive entries of the core that sent it are free again; of a core of another module, the one
that its line names. -/
def execCredit (f : Flit) (s : State) : Result :=
  if f.cls = clsRsp ∧ f.opcode = 0x86 then
    .next (arrive s f fun s =>
      match nodeKind f.dstX.val f.dstY.val, nodeCore s.fuses f.srcX.val f.srcY.val, nodeCore s.fuses f.dstX.val f.dstY.val with
      | .askua, _, _ => cornerResponse s f
      | .core, some r, some c => freeCredits s [creditKey c.val r.val] (leNat (f.payload.take 2))
      | .core, none, some c =>
        (match findRequest s.net f.tag.toNat with
        | some q => freeCredits s (creditOfLine c.val q.addr.toNat) (leNat (f.payload.take 2))
        | none => s)
      | _, _, _ => s)
  else .next s

/-- R323: RETRY reaches a requester: the request was not taken. -/
def execRetry (f : Flit) (s : State) : Result :=
  if f.cls = clsRsp ∧ f.opcode = 0x87 then
    .next (arrive s f fun s =>
      if nodeKind f.dstX.val f.dstY.val = .askua then cornerResponse { s with net := dropRequest s.net f.tag.toNat } f
      else { s with net := setRequest s.net f.tag.toNat fun r => { r with state := .retrying } })
  else .next s

/-- R314, R323: after its delay a refused request is sent again. -/
def execRetryResend (tag : BitVec 14) (s : State) : Result :=
  match findRequest s.net tag.toNat with
  | some r =>
    match r.state, r.flit with
    | .retrying, some f => .next (launchRequest s r.id f)
    | _, _ => .next s
  | none => .next s

/-- R309, R331: a management request reaches its endpoint: a tower's controller takes it at port MGT; another block answers it,
with ERR where it does not come from the management complex. -/
def serveMgt (s : State) (f : Flit) (n : Net) (answer : State → State) : State :=
  let s1 := { s with net := n }
  if !endpointListed f.dstX.val f.dstY.val f.dstSub.val then refuse s1 f
  else if nodeKind f.dstX.val f.dstY.val = .tower then towerTake s f n
  else if nodeKind f.srcX.val f.srcY.val ≠ .management then refuse s1 f
  else answer s1

/-- R309: a management read: its block answers with MGT_RSP. What a block's management registers hold is not given: the
bytes are free values. -/
def execMgtRd (f : Flit) (s : State) : Result :=
  if f.cls = clsMgt ∧ f.opcode = 0x10 then
    match takeFlit s.fuses s.net f with
    | some n => .next (serveMgt s f n fun s => send (useFree s 128) (mkResponse f 0x90 (freshBytes s 128) 0 false))
    | none => .next s
  else .next s

/-- R309: a management write: its block answers with MGT_RSP. -/
def execMgtWr (f : Flit) (s : State) : Result :=
  if f.cls = clsMgt ∧ f.opcode = 0x11 then
    match takeFlit s.fuses s.net f with
    | some n => .next (serveMgt s f n fun s => send s (mkResponse f 0x90 [] 0 false))
    | none => .next s
  else .next s

/-- R309: a management response reaches the management complex. -/
def execMgtRsp (f : Flit) (s : State) : Result :=
  if f.cls = clsMgt ∧ f.opcode = 0x90 then .next (arrive s f fun s => s) else .next s

/-- R315: a further 256 cycles at the head of a buffer: URGENCY one higher, to 15 at most. -/
def ageFlight (g : Flight) : Flight :=
  { g with flit := { g.flit with urgency := if g.flit.urgency.val < 15 then g.flit.urgency + 1 else g.flit.urgency } }

/-- R315, R326: the URGENCY of the flit at the head of a waystation's buffer, by its place among the flits on their way, rises by
one, and NW_URGENCY_UP counts the rise there. -/
def execUrgencyAge (place : Nat) (s : State) : Result :=
  match s.net.flits[place]? with
  | some g =>
    match g.spot with
    | .buffer x y _ _ =>
      if (s.net.flits.take place).any (fun h => sameLane h g) then .next s
      else
        let s1 := { s with net := { s.net with flits := listMod ageFlight s.net.flits place } }
        .next (if g.flit.urgency.val < 15 then countEvent s1 .waystation (16 * y + x) 0x13 (flitAttr g.flit 0) 1 else s1)
    | _ => .next s
  | none => .next s

/-- R323: the first tag of a port's cycle that no outstanding request has. -/
def freeTag (b : BorderPort) : Nat :=
  ((List.range 64).map fun i => (b.nextTag + i) % 64).find? (fun t => !(b.taken.any fun x => x.1 = t)) |>.getD 0

/-- R322, R323: a border port presents its head request; with READY the design takes it. -/
def execBpRequestPresent (p : BorderId) (ready : Bool) (s : State) : Result :=
  let b := mapGet {} s.net.border p.val
  match b.queue with
  | [] => .next s
  | f :: rest =>
    if ready ∧ b.taken.length < 64 ∧ ¬ portIsolated s p.val then
      let tag := freeTag b
      let nb : BorderPort := { b with queue := rest, taken := b.taken ++ [(tag, f)], nextTag := (tag + 1) % 64 }
      .next { s with net := { s.net with border := mapSet {} s.net.border p.val nb }
                     out := s.out ++ [.borderRequest p.val (f.opcode = 0x02) (f.addr.setWidth 32) tag f.byteEn f.payload f.poison] }
    else .next s

/-- The fabric node of a border port, as a block of counters. -/
def borderBlock (p : Nat) : Nat := 16 * (borderNode p).2.1 + (borderNode p).1

/-- R323: a request of a border port completed to its requester. -/
def borderComplete (s : State) (p tag : Nat) (f : Flit) (err : Bool) (data : List Byte) (poison : BitVec 2) : State :=
  let b := mapGet {} s.net.border p
  let s1 := { s with net := { s.net with border := mapSet {} s.net.border p { b with taken := b.taken.filter fun x => x.1 ≠ tag } } }
  if err then refuse s1 f
  else if f.opcode = 0x02 then (if f.ackReq then send s1 (mkResponse f 0x82 [] 0 false) else s1)
  else send s1 (mkResponse f 0x81 ((List.range 128).map fun i => if f.byteEn.getLsbD i then data.getD i 0 else 0) poison false)

/-- R323: the design answers a request by its tag; an unknown tag is counted as BP_STRAY. -/
def execBpResponse (p : BorderId) (tag : Fin 64) (err : Bool) (data : List Byte) (poison : BitVec 2) (s : State) : Result :=
  let b := mapGet {} s.net.border p.val
  if portIsolated s p.val then .next s
  else
    match b.taken.find? fun x => x.1 = tag.val with
    | none => .next (countEvent s .waystation (borderBlock p.val) 0x17 {} 1)
    | some (_, f) => .next (borderComplete s p.val tag.val f err data poison)

/-- R324: a request without a response after BP_TIMEOUT. -/
def execBpTimeout (p : BorderId) (tag : Fin 64) (s : State) : Result :=
  match (mapGet {} s.net.border p.val).taken.find? fun x => x.1 = tag.val with
  | none => .next s
  | some (_, f) =>
    let s1 := borderComplete s p.val tag.val f true [] 0
    .next (logEntry (countEvent s1 .waystation (borderBlock p.val) 0x16 {} 1) 2 0x5007 8 p.val (packData [(8, tag.val)]))

end Sys2Proof.Machine
end

