-- ==== Sys2Proof/Machine/TowerCmds.lean ====
section
/-! DEFINITION. The commands of the towers and their controllers (R327 to R352). -/

namespace Sys2Proof.Machine

/-- R333: a pseudo-channel issues a command for its first eligible request. -/
def execSmCommandIssue (t : TowerId) (k : CtlId) (pc : PcId) (s : State) : Result := .next (smCommand s t.val k.val pc.val)

/-- R339: a read's halves are decoded and handed to the crossing. -/
def execSmReadData (t : TowerId) (k : CtlId) (pc : PcId) (low high : HalfRead) (s : State) : Result :=
  .next (smRead s t.val k.val pc.val low high)

/-- R333: the request at a place of the queue has waited AGE_LIMIT and is promoted to class 0. -/
def execSmAgePromote (t : TowerId) (k : CtlId) (pc : PcId) (place : Nat) (s : State) : Result :=
  let i := 2 * k.val + pc.val
  let p := getPc s.stacked t.val i
  match p.queue[place]? with
  | none => .next s
  | some r =>
    if r.aged then .next s
    else
      let p' : PseudoChannel := { p with queue := listMod (fun r => { r with aged := true }) p.queue place }
      .next (smEvent { s with stacked := setPc s.stacked t.val i p' } (placeOf r.flit.addr.toNat) r 0x16)

/-- R343, R347: a tower that trains is being filled once its stops have begun, for they are counted from the end of its training. -/
def beginFilling (s : State) (t : Nat) : State :=
  let x := getTower s.stacked t
  if x.state = .training then { s with stacked := setTower s.stacked t { x with state := .filling } } else s

/-- R343: an elastic refresh stop of a pseudo-channel; a scrub stop where its count is a multiple of SCRUB_EVERY. The stops begin at
the end of the tower's training. -/
def execRefreshStop (t : TowerId) (k : CtlId) (pc : PcId) (low high : HalfRead) (s : State) : Result :=
  let x := (getTower s.stacked t.val).state
  if (x = .ready ∨ x = .filling ∨ x = .training) ∧ ¬ lockstepMode s then
    let n := (getPc s.stacked t.val (2 * k.val + pc.val)).stops
    .next (refreshStop (beginFilling s t.val) t.val k.val pc.val (n % dictGet s keyScrubEvery = 0) low high)
  else .next s

/-- R344: a refresh slot of a tower at this tick: all its pseudo-channels stop; a scrub slot where the slot number is a
multiple of SCRUB_EVERY. `halves` are what the scrubs of pseudo-channels 0 to 31 read. -/
def execLsRefreshSlot (t : TowerId) (halves : List (HalfRead × HalfRead)) (s : State) : Result :=
  let p := slotPeriod s t.val
  let k := tickOf s
  if (getTower s.stacked t.val).state = .ready ∧ lockstepMode s ∧ 15 * t.val ≤ k ∧ (k - 15 * t.val) % p = 0 then
    let sc : Bool := (k - 15 * t.val) / p % dictGet s keyScrubEvery = 0
    let none_ : HalfRead × HalfRead := ({ symbols := 0, asRead := [] }, { symbols := 0, asRead := [] })
    .next ((List.range 32).foldl (fun s i =>
      refreshStop s t.val (i / 2) (i % 2) sc (halves.getD i none_).1 (halves.getD i none_).2) s)
  else .next s

/-- R343, R345: a temperature reading of a tower, with its value in thousandths of a degree. -/
def execTowerTempReading (t : TowerId) (reading : U32) (milli : Nat) (s : State) : Result :=
  let x := getTower s.stacked t.val
  let rise : Bool := decide (85000 < milli) && (!lockstepMode s || lowRateNow s)
  let high : Bool := if rise then true else if milli ≤ 80000 then false else x.high
  let s1 := { s with stacked := setTower s.stacked t.val { x with temp := reading, high := high } }
  if lockstepMode s ∧ rise ∧ ¬ x.high then
    .next (breachCm (logEntry s1 2 0x3003 2 t.val reading.toNat) 9)
  else .next s1

/-- R349: with every queued request served, a tower told to do so enters self-refresh. -/
def execSelfRefreshEntry (t : TowerId) (s : State) : Result :=
  let x := getTower s.stacked t.val
  let served := x.pcs.all fun e => e.2.queue.isEmpty && e.2.reading.isEmpty
  if s.power.toSelfRefresh.getLsbD t.val ∧ x.state = .ready ∧ served then
    let x' : Tower := { x with state := .selfRefresh, pcs := mapAll {} (fun p => { p with openRows := [] }) x.pcs }
    let s1 := { s with power := { s.power with toSelfRefresh := s.power.toSelfRefresh &&& ~~~(1#8 <<< t.val) } }
    .next { s1 with stacked := setTower s1.stacked t.val x' }
  else .next s

/-- R349, R350: a tower whose group wakes is READY again; with both towers of the group, the group is on. -/
def execSelfRefreshExitDone (t : TowerId) (s : State) : Result :=
  let x := getTower s.stacked t.val
  let d := 13 + t.val / 2
  if x.state = .selfRefresh ∧ s.power.waking.getLsbD d then
    let m := setTower s.stacked t.val { x with state := .ready }
    let other := getTower m (t.val / 2 * 2 + (1 - t.val % 2))
    let done := other.state ≠ .selfRefresh
    let bit_ := 1#24 <<< d
    let pw0 := { s.power with toSelfRefresh := s.power.toSelfRefresh &&& ~~~(1#8 <<< t.val) }
    let pw := if done then { pw0 with off := pw0.off &&& ~~~bit_, waking := pw0.waking &&& ~~~bit_ } else pw0
    .next { s with stacked := m, power := pw }
  else .next s

end Sys2Proof.Machine
end

