-- ==== Sys2Proof/Machine/ControlOps.lean ====
section
/-! DEFINITION. The control core at work: threads and their registers, traps and interrupts (R223 to R225), memory protection,
caches and the program image (R199 to R201, R222), prediction (R218 to R221), sampling of instructions (R555, R556), and the
execution of RV64IMAC instructions (R198). -/

namespace Sys2Proof.Machine

def getThread (s : State) (c : CoreId) (t : ThreadId) : Thread := mapGet {} (getCore s c).cc.threads t.val

def setCc (s : State) (c : CoreId) (k : ControlCore) : State := setCore s c { getCore s c with cc := k }

def getCc (s : State) (c : CoreId) : ControlCore := (getCore s c).cc

def setThread (s : State) (c : CoreId) (t : ThreadId) (x : Thread) : State :=
  setCc s c { getCc s c with threads := mapSet {} (getCc s c).threads t.val x }

def modThread (s : State) (c : CoreId) (t : ThreadId) (f : Thread → Thread) : State := setThread s c t (f (getThread s c t))

def allThreads : List ThreadId := [0, 1, 2, 3]

/-- R202: the active thread, in a DATA stall or not. -/
def activeThread (k : ControlCore) : Option ThreadId :=
  allThreads.find? fun t => (mapGet {} k.threads t.val).state = .active || (mapGet {} k.threads t.val).state = .dataStall

/-- A register: x0 reads as 0. -/
def regGet (x : Thread) (r : Nat) : U64 := if r = 0 then 0 else mapGet 0 x.regs r

/-- A write of a register: x0 takes none. -/
def regSet (x : Thread) (r : Nat) (v : U64) : Thread := if r = 0 then x else { x with regs := mapSet 0 x.regs r v }

/-- R548: attributes of a control-core event. -/
def threadAttr (x : Thread) (t : ThreadId) : EvAttr := { unit := 8 + t.val, machine := some x.machine, master := some t.val }

/-- R230: an event of a thread. -/
def ccEvent (s : State) (c : CoreId) (t : ThreadId) (ev n : Nat) : State :=
  countEvent s .core c.val ev (threadAttr (getThread s c t) t) n

/-- R223, R401: what the time CSR reads, and what XGTCCMP compares with. -/
def ccTime (s : State) : Nat := if lockstepMode s then 16 * (tickOf s - 1) else s.gtc.toNat

/-- R224: whether some unit of a core is halted. -/
def unitHalted (k : Core) : Bool :=
  (k.engines.any fun e => e.2.halted) || k.vector.halted || (k.gathers.any fun g => g.2.halted)

/-- R224: whether a caravan armed by a thread has ended with its interrupt flag set and its status not read. -/
def caravanIrq (s : State) (c : CoreId) (t : ThreadId) : Bool :=
  s.caravans.any fun e => e.2.core = c && e.2.thread = t && e.2.irq && cvEnded e.2

/-- R224: mip of a thread. PRESUMED (log entry 44). -/
def mipOf (s : State) (c : CoreId) (t : ThreadId) : Nat :=
  let x := getThread s c t
  (if x.csr.msip then 2 ^ 3 else 0) + (if x.csr.xgtccmp.toNat ≤ ccTime s then 2 ^ 7 else 0) + (if queueIrq s c.val t.val then 2 ^ 16 else 0)
    + (if caravanIrq s c t then 2 ^ 17 else 0) + (if t = 0 ∧ unitHalted (getCore s c) then 2 ^ 18 else 0)

/-- The pending interrupts that mie enables. PRESUMED (log entry 45). -/
def locallyPending (s : State) (c : CoreId) (t : ThreadId) : Nat := mipOf s c t &&& (getThread s c t).csr.mie.toNat

/-- R224: the interrupt a thread takes under the machine-level enable rules, lowest code first. PRESUMED (log entry 44). -/
def takeable (s : State) (c : CoreId) (t : ThreadId) : Option Nat :=
  let x := getThread s c t
  if x.machine ∧ ¬ x.csr.mstatus.getLsbD 3 then none
  else [3, 7, 16, 17, 18].find? fun i => bit (locallyPending s c t) i

/-- A trap: pc, cause and mtval saved, machine mode entered with interrupts off, pc at the handler; a vectored interrupt goes to
its own entry. PRESUMED (log entry 44). -/
def trapThread (x : Thread) (interrupt : Bool) (cause : Nat) (mtval : U64) : Thread :=
  let st := x.csr.mstatus
  let mie := st.getLsbD 3
  let cleared := st &&& ~~~ (0x1888 : U64)
  let st' := cleared ||| (if mie then 0x80 else 0) ||| (if x.machine then 0x1800 else 0)
  let base := x.csr.mtvec &&& ~~~ (3 : U64)
  let pc := if interrupt ∧ x.csr.mtvec.getLsbD 0 then base + BitVec.ofNat 64 (4 * cause) else base
  { x with
    pc := pc, machine := true, issued := false, tagged := false
    csr := { x.csr with
      mstatus := st', mepc := x.pc, mtval := mtval
      mcause := BitVec.ofNat 64 (cause + if interrupt then 2 ^ 63 else 0) } }

/-- R555: the INSN countdown of a core counts an instruction of a sampled thread; the one that brings it to 0 is tagged.
DEDUCED (log entry 23). -/
def sampleInsn (s : State) (c : CoreId) (t : ThreadId) : State :=
  if bit (dictGet s keySampleSrc) 0 ∧ bit (dictGet s keySampleThreads) t.val then
    let k := getCore s c
    let x := samplingOf s.sampleInit c.val k
    if x.insnDown ≤ 1 then
      let x' := { x with insnDown := sampleReload (dictGet s keySamplePeriod) (dictGet s keySampleJitter) x.lfsr, lfsr := lfsrStep x.lfsr }
      modThread (setCore s c { k with sampling := some x' }) c t fun y => { y with tagged := true }
    else setCore s c { k with sampling := some { x with insnDown := x.insnDown - 1 } }
  else s

/-- R556: the record of a tagged instruction at its retire or trap. -/
def sampleRetire (s : State) (c : CoreId) (t : ThreadId) (cls tag status daddr : Nat) : State :=
  let x := getThread s c t
  if x.tagged then
    writeSample s c { kind := 1, thread := t.val, machine := x.machine, unit := 0, opclass := cls, tag := tag, status := status, pc := x.pc
                      daddr := daddr }
  else s

/-- R556: a sample lost. -/
def sampleLost (s : State) (c : CoreId) : State :=
  let k := getCore s c
  let x := samplingOf s.sampleInit c.val k
  setCore s c { k with sampling := some { x with lost := sat32 (x.lost + 1) } }

/-- R230, R555: an instruction issues; the first issue counts towards the sampling. DEDUCED (log entry 23). -/
def issueInsn (s : State) (c : CoreId) (t : ThreadId) : State :=
  let s1 := ccEvent s c t 0x40 1
  if (getThread s c t).issued then s1 else modThread (sampleInsn s1 c t) c t fun x => { x with issued := true }

/-- What a sample record says of an instruction (R557). -/
structure InsnInfo where
  cls : Nat
  tag : Nat := 0
  daddr : Nat := 0
deriving DecidableEq, Repr

/-- R534: a thread that the debugger steps halts after its instruction. -/
def afterStep (x : Thread) : Thread := if x.debugStep then { x with debugHalted := true, debugStep := false } else x

/-- An instruction retires: its sample, minstret, and the next pc. -/
def retireInsn (s : State) (c : CoreId) (t : ThreadId) (i : InsnInfo) (next : U64) : State :=
  modThread (sampleRetire s c t i.cls i.tag 0 i.daddr) c t fun x =>
    afterStep { x with pc := next, issued := false, tagged := false, word := 0
                       csr := { x.csr with minstret := if x.csr.mcountinhibit.getLsbD 2 then x.csr.minstret else x.csr.minstret + 1 } }

/-- R225: an exception of a thread; poison has its entry. -/
def raiseTrap (s : State) (c : CoreId) (t : ThreadId) (i : InsnInfo) (cause : Nat) (mtval : U64) : State :=
  let s1 := sampleRetire s c t i.cls i.tag (0x80 + cause) i.daddr
  let s2 := if cause = 24 ∨ cause = 25 then
      logEntry s1 2 0x6005 1 c.val (packData [(8, t.val), (8, cause), (64, mtval.toNat)]) else s1
  modThread s2 c t fun x => afterStep (trapThread x false cause mtval)

/-- The mtval of an illegal instruction or a breakpoint, which RISC-V leaves to the implementation: a free value.
PRESUMED (log entry 42). -/
def openMtval (s : State) : U64 := BitVec.ofNat 64 (freshNat s)

/-- An exception whose mtval is left open. PRESUMED (log entry 42). -/
def raiseOpen (s : State) (c : CoreId) (t : ThreadId) (i : InsnInfo) (cause : Nat) : State :=
  raiseTrap (useFree s 1) c t i cause (openMtval s)

/-- Kinds of access, as the fault causes take them. -/
inductive AccessKind where
  | fetch | load | store
deriving DecidableEq, Repr

def accessFault : AccessKind → Nat
  | .fetch => 1 | .load => 5 | .store => 7

/-- The range of bytes a PMP entry covers: none where it is off or its top is not above its bottom. -/
def pmpRange (x : Csrs) (i : Nat) : Option (Nat × Nat) :=
  let cfg := bits x.pmpcfg0.toNat (8 * i) 8
  let a := (mapGet 0 x.pmpaddr i).toNat
  match bits cfg 3 2 with
  | 0 => none
  | 1 =>
    let low := if i = 0 then 0 else 4 * (mapGet 0 x.pmpaddr (i - 1)).toNat
    if low < 4 * a then some (low, 4 * a) else none
  | 2 => some (4 * a, 4 * a + 4)
  | _ =>
    let k := ((List.range 55).find? fun b => !bit a b).getD 54
    let base := a / 2 ^ (k + 1) * 2 ^ (k + 1)
    some (4 * base, 4 * base + 2 ^ (k + 3))

/-- Whether PMP lets a mode make an access of `n` bytes: the lowest-numbered entry that covers any byte covers all of them and
permits it; with none, machine mode passes. -/
def pmpAllows (x : Csrs) (machine : Bool) (a n : Nat) (k : AccessKind) : Bool :=
  let hit (i : Nat) : Bool := match pmpRange x i with | some r => a < r.2 && r.1 < a + n | none => false
  match (List.range 8).find? hit with
  | none => machine
  | some i =>
    let cfg := bits x.pmpcfg0.toNat (8 * i) 8
    let all : Bool := match pmpRange x i with | some r => r.1 ≤ a && a + n ≤ r.2 | none => false
    let perm := bit cfg (match k with | .load => 0 | .store => 1 | .fetch => 2)
    all && (perm || (machine && !bit cfg 7))

/-- R199: the control-core address map. -/
def imageBase : Nat := 0x100000000
def imageSize : Nat := 0x4000000
def inCoreMem (a : Nat) : Bool := a < coreBytes
def inImage (a : Nat) : Bool := imageBase ≤ a && a < imageBase + imageSize

/-- R199: whether an access of a kind may touch an address; atomics reach core memory alone. -/
def mapAllows (a : Nat) (k : AccessKind) (atomic : Bool) : Bool :=
  inCoreMem a || (inImage a && k ≠ .store && !atomic)

/-- The first byte of an access that the map or PMP refuses. -/
def badByte (x : Csrs) (machine : Bool) (a n : Nat) (k : AccessKind) (atomic : Bool) : Option Nat :=
  match (List.range n).find? fun i => !mapAllows (a + i) k atomic with
  | some i => some (a + i)
  | none => if pmpAllows x machine a n k then none else some a

/-- R215: the first byte of a range of core memory that PMP refuses a command. -/
def rangeBad (x : Csrs) (machine : Bool) (r : Range) (k : AccessKind) : Option Nat :=
  if machine ∧ ¬ ((List.range 8).any fun i => bit x.pmpcfg0.toNat (8 * i + 7)) then none
  else ((List.range r.rows).flatMap fun i => (List.range r.rowBytes).map fun b => r.base + i * r.pitch + b).find? fun a =>
    !pmpAllows x machine a 1 k

/-- The mode a load or store is made in: MPRV stands in for the current mode. -/
def dataMode (x : Thread) : Bool :=
  if x.machine ∧ x.csr.mstatus.getLsbD 17 then x.csr.mstatus.getLsbD 11 else x.machine

/-- R222: a line of a cache, moved to the front of its set. -/
def cacheFind (m : List (Nat × List CacheLine)) (line : Nat) : Option (CacheLine × List (Nat × List CacheLine)) :=
  match takeFirst (fun l => l.line = line) (mapGet [] m (line % 128)) with
  | some (l, rest) => some (l, mapSet [] m (line % 128) (l :: rest))
  | none => none

/-- R222: a line filled; the least recently used of a full set is replaced. -/
def cacheFill (m : List (Nat × List CacheLine)) (l : CacheLine) : List (Nat × List CacheLine) :=
  mapSet [] m (l.line % 128) ((l :: (mapGet [] m (l.line % 128)).filter fun x => x.line ≠ l.line).take 4)

/-- A cache miss: of a line of core memory, or of the program image, whose line is read through its translation (R201). -/
def startMiss (s : State) (c : CoreId) (inst : Bool) (line va : Nat) : State :=
  let image := inImage (64 * line)
  let s1 := setCc s c { getCc s c with miss := some { inst := inst, line := line, image := image, va := va } }
  if image then
    let a := dictGet s keyCcImageBase + (64 * line - imageBase)
    submit s1 (.image c line) false (a / 128 * 128) (byteMask (a % 128) 64) [] 0 false none
  else s1

/-- The lines that `n` bytes touch. -/
def linesOf (a n : Nat) : List Nat := if a / 64 = (a + n - 1) / 64 then [a / 64] else [a / 64, (a + n - 1) / 64]

/-- A byte of a line. -/
def lineByte (ls : List CacheLine) (a : Nat) : Byte :=
  match ls.find? fun l => l.line = a / 64 with
  | some l => l.bytes.getD (a % 64) 0
  | none => 0

/-- What an access through a cache finds. -/
inductive CacheRead where
  | hit (cache : List (Nat × List CacheLine)) (lines : List CacheLine)
  | miss (line : Nat)
deriving DecidableEq, Repr

def cacheLines (m : List (Nat × List CacheLine)) : List Nat → List CacheLine → CacheRead
  | [], acc => .hit m acc
  | l :: t, acc =>
    match cacheFind m l with
    | some r => cacheLines r.2 t (acc ++ [r.1])
    | none => .miss l

/-- R199, R201: the stacked physical address of a line of the program image, where its translation hits. -/
def imagePhys (s : State) (line : Nat) : Option Nat :=
  match (translate s (dictGet s keyCcImageBase + (64 * line - imageBase))).1 with
  | .hit pa _ => some pa
  | _ => none

/-- R199: whether a cached line of the program image has been written since it filled the cache. DEDUCED (log entry 84). -/
def overwritten (s : State) (l : CacheLine) : Bool :=
  inImage (64 * l.line) && (match imagePhys s l.line with
    | some pa => decide (stackRead s.stacked pa 64 ≠ l.bytes)
    | none => false)

/-- R199: a cache as an access finds it: a store into the image leaves the written lines that it holds undefined.
DEDUCED (log entry 84). -/
def heldCache (s : State) (data : Bool) (m : List (Nat × List CacheLine)) : List (Nat × List CacheLine) :=
  m.map fun e => (e.1, e.2.map fun l =>
    if overwritten s l then
      { l with bytes := (List.range 64).map fun i => Config.cacheByte s.free (2 * (64 * l.line + i) + (if data then 1 else 0)) }
    else l)

/-- What follows an instruction of core `c` that ran from state `s`: the undefined bytes of its caches, if any, were drawn.
DEDUCED (log entry 84). -/
def cacheDrawn (s : State) (c : CoreId) (t : State) : State :=
  let k := getCc s c
  if (k.icache ++ k.dcache).any fun e => e.2.any (overwritten s) then useFree t 1 else t

/-- R225: the first byte of an access in a poisoned granule of core memory, or in a marked line. -/
def poisonByte (m : CoreMem) (ls : List CacheLine) (a n : Nat) : Option Nat :=
  ((List.range n).map (a + ·)).find? fun b =>
    if inCoreMem b then granulePoison m (b / 64) else ls.any fun l => l.line = b / 64 && l.poison

/-- What the fetch at a thread's pc comes to: an instruction with its length, a miss, or an exception. -/
inductive Fetched where
  | insn (cache : List (Nat × List CacheLine)) (op : CcOp) (len word : Nat)
  | miss (line va : Nat)
  | trap (cause va : Nat)
deriving DecidableEq, Repr

/-- R199, R225: `n` bytes fetched at `a`. -/
def fetchBytes (x : Thread) (cache : List (Nat × List CacheLine)) (a n : Nat) :
    Fetched ⊕ (List (Nat × List CacheLine) × List Byte) :=
  match badByte x.csr x.machine a n .fetch false with
  | some b => .inl (.trap 1 b)
  | none =>
    match cacheLines cache (linesOf a n) [] with
    | .miss l => .inl (.miss l (max a (64 * l)))
    | .hit cache' ls =>
      match ((List.range n).map (a + ·)).find? fun b => ls.any fun l => l.line = b / 64 && l.poison with
      | some b => .inl (.trap 25 b)
      | none => .inr (cache', (List.range n).map fun i => lineByte ls (a + i))

/-- R208, R215: what a mode may not run is an illegal instruction. -/
def permitted (x : Thread) (op : CcOp) : CcOp :=
  match op with
  | .mret => if x.machine then op else .illegal
  | .wfi => if x.machine ∨ ¬ x.csr.mstatus.getLsbD 21 then op else .illegal
  | .xgrn _ _ _ _ _ => if x.machine ∨ x.csr.xgrnctl then op else .illegal
  | _ => op

/-- The fetch at a thread's pc. -/
def fetchAt (x : Thread) (cache : List (Nat × List CacheLine)) : Fetched :=
  let a := x.pc.toNat
  match fetchBytes x cache a 2 with
  | .inl f => f
  | .inr (c1, b) =>
    if leNat b % 4 ≠ 3 then .insn c1 (permitted x (decode16 (leNat b))) 2 (leNat b)
    else
      match fetchBytes x c1 (a + 2) 2 with
      | .inl f => f
      | .inr (c2, b2) =>
        let w := leNat b + 65536 * leNat b2
        .insn c2 (permitted x (decode32 w)) 4 w

/-- R202, R206: the thread whose next instruction the core may issue now: active, not stalled on a miss or on the queue
manager, not halted by the debugger, with no interrupt to take first. -/
def issuing (s : State) (c : CoreId) : Option ThreadId :=
  let k := getCc s c
  if k.miss.isSome then none
  else
    match activeThread k with
    | none => none
    | some t =>
      let x := getThread s c t
      if x.state = .active ∧ ¬ x.inFlight ∧ ¬ x.debugHalted ∧ (takeable s c t).isNone then some t else none

/-- R179, R222, R225: `n` bytes loaded at `a`: what the load finds. -/
inductive LoadResult where
  | ok (s : State) (bytes : List Byte)
  | miss (s : State)
  | trap (cause va : Nat)
deriving DecidableEq, Repr

/-- R179: bytes of a load; those of a granule that is not COMPLETE are undefined. PRESUMED (log entry 42). -/
def loadBytes (s : State) (c : CoreId) (t : ThreadId) (a n : Nat) (atomic : Bool) : LoadResult :=
  let x := getThread s c t
  let k := getCore s c
  match badByte x.csr (dataMode x) a n .load atomic with
  | some b => .trap 5 b
  | none =>
    match cacheLines (heldCache s true k.cc.dcache) (linesOf a n) [] with
    | .miss l => .miss (startMiss s c false l (max a (64 * l)))
    | .hit d ls =>
      match poisonByte k.mem ls a n with
      | some b => .trap 24 b
      | none =>
        let s1 := setCore s c { k with cc := { k.cc with dcache := d } }
        let bad := (List.range n).any fun i => inCoreMem (a + i) && !granuleComplete k.mem ((a + i) / 64)
        let bytes := (List.range n).map fun i =>
          if inCoreMem (a + i) ∧ ¬ granuleComplete k.mem ((a + i) / 64) then Config.freeByte (s.free + i) else lineByte ls (a + i)
        .ok (if bad then useFree s1 n else s1) bytes

/-- A thread's reservation that a store to these bytes ends: they share a doubleword. PRESUMED (log entry 43). -/
def breakReservation (a n : Nat) (x : Thread) : Thread :=
  match x.reservation with
  | some r => if r / 8 ≤ (a + n - 1) / 8 ∧ a / 8 ≤ r / 8 then { x with reservation := none } else x
  | none => x

/-- R178, R179, R222: bytes stored in core memory, written through the data cache where it holds their lines.
PRESUMED (log entry 42). -/
def storeBytes (s : State) (c : CoreId) (t : ThreadId) (a : Nat) (bytes : List Byte) : State :=
  let k := getCore s c
  let w := writeRows k.mem [(a, bytes)] false
  let patch (l : CacheLine) : CacheLine :=
    { l with bytes := (List.range 64).map fun i =>
        if a ≤ 64 * l.line + i ∧ 64 * l.line + i < a + bytes.length then bytes.getD (64 * l.line + i - a) 0 else l.bytes.getD i 0 }
  let d := k.cc.dcache.map fun e => (e.1, e.2.map fun l => if (linesOf a bytes.length).contains l.line then patch l else l)
  let ths := allThreads.foldl (fun (m : List (Nat × Thread)) (u : ThreadId) =>
    if u = t then m else mapMod {} m u.val (breakReservation a bytes.length)) k.cc.threads
  setCore s c { k with mem := w.1, cc := { k.cc with dcache := d, threads := ths } }

/-- R218: the index of a conditional branch's counter. -/
def predictorIndex (x : Thread) : Nat := (bits x.pc.toNat 1 11) ^^^ x.history.toNat

/-- R218: a target buffer's answer for a pc. -/
def btbGet (k : ControlCore) (pc : U64) : Option U64 :=
  match mapGet none k.btb (bits pc.toNat 1 8) with
  | some (tag, target) => if tag = pc then some target else none
  | none => none

/-- R219, R230: the cycles a branch or jump loses are counted. DEDUCED (log entry 46). -/
def branchLost (s : State) (c : CoreId) (t : ThreadId) (n : Nat) : State :=
  let s1 := if n = 4 then ccEvent s c t 0x4B 1 else s
  ccEvent s1 c t 0x4D n

/-- R218: a return address pushed on the thread's return stack; a full stack drops its oldest. -/
def pushReturn (x : Thread) (a : U64) : Thread := { x with returns := (a :: x.returns).take 8 }

/-- R218, R219: a conditional branch resolves. DEDUCED (log entry 46). -/
def resolveBranch (s : State) (c : CoreId) (t : ThreadId) (taken : Bool) (target : U64) : State :=
  let x := getThread s c t
  let k := getCc s c
  let on := dictGet s keyBpEnable = 1
  let i := predictorIndex x
  let n := mapGet 1 k.counters i
  let guess : Bool := on && decide (2 ≤ n)
  let lost := if taken then (if guess then (match btbGet k x.pc with | some a => if a = target then 0 else 4 | none => 2) else 4)
    else (if guess then 4 else 0)
  let k' := { k with counters := mapSet 1 k.counters i (if taken then min 3 (n + 1) else n - 1)
                     btb := if taken ∧ on then mapSet none k.btb (bits x.pc.toNat 1 8) (some (x.pc, target)) else k.btb }
  let s1 := branchLost s c t lost
  modThread (setCc s1 c k') c t fun x => { x with history := (x.history <<< 1) ||| (if taken then 1 else 0) }

/-- R218, R219: JAL (`indirect` false) or JALR resolves; `next` is the return address. DEDUCED (log entry 46). -/
def resolveJump (s : State) (c : CoreId) (t : ThreadId) (indirect : Bool) (rd rs1 : Nat) (next target : U64) : State :=
  let x := getThread s c t
  let k := getCc s c
  let on := dictGet s keyBpEnable = 1
  let link (r : Nat) : Bool := r = 1 || r = 5
  let pops : Bool := indirect && link rs1 && !link rd
  let top := if on ∧ pops then x.returns.head? else none
  let lost :=
    if ¬ indirect then 2
    else match top with
      | some a => if a = target then 0 else 4
      | none => match (if on then btbGet k x.pc else none) with
        | some a => if a = target then 0 else 4
        | none => 2
  let k' := if on then { k with btb := mapSet none k.btb (bits x.pc.toNat 1 8) (some (x.pc, target)) } else k
  let s1 := modThread (setCc (branchLost s c t lost) c k') c t fun x =>
    if on ∧ pops then { x with returns := x.returns.drop 1 } else x
  if on ∧ link rd then modThread s1 c t fun x => pushReturn x next else s1

end Sys2Proof.Machine
end

