-- ==== Sys2Proof/Machine/ControlExec.lean ====
section
/-! DEFINITION. CSRs of the control cores (R223, R552), and the execution of an RV64IMAC instruction (R198). -/

namespace Sys2Proof.Machine

/-- R202, R223: XTHSTATE. -/
def threadCode : ThreadState → Nat
  | .idle => 0 | .active => 1 | .ready => 2 | .taskWait => 3 | .dataStall => 4

def xthState (k : ControlCore) : Nat :=
  (allThreads.map fun t => threadCode (mapGet {} k.threads t.val).state <<< (4 * t.val)).sum

/-- misa: RV64 with A, C, I, M, U and the non-standard extension bit. PRESUMED (log entry 40). -/
def misaValue : U64 := 0x8000000000901105

/-- The bits of mstatus a write sets: MIE, MPIE, MPRV, TW; MPP takes 0 or 3. UXL reads 2. PRESUMED (log entry 40). -/
def mstatusWrite (old new : U64) : U64 :=
  let m : U64 := 0x220088
  let mpp := (new >>> 11) &&& 3
  let o := (old &&& ~~~ m) ||| (new &&& m)
  if mpp = 0 ∨ mpp = 3 then (o &&& ~~~ (0x1800 : U64)) ||| (mpp <<< 11) else o

/-- R552: the counters of its core a thread reads: counters 0 to 15 at 3 to 18. -/
def hpmValue (s : State) (c : CoreId) (n : Nat) : Nat := if n < 16 then counterValue s .core c.val n else 0

def hpmEvent (s : State) (c : CoreId) (n : Nat) : Nat :=
  if n < 16 then mapGet 0 s.counters.selects (keyOf (counterBase .core + c.val) (n + 1)) else 0

/-- R223, R401, R552: what a CSR reads as, none where it does not exist. mcycle counts cycles, which the model does not keep: a
free value. DESIGN CHOICE (log entry 8). PRESUMED (log entry 40). -/
def csrRead (s : State) (c : CoreId) (t : ThreadId) (n : Nat) : Option U64 :=
  let x := getThread s c t
  let v := x.csr
  let nat (a : Nat) : Option U64 := some (BitVec.ofNat 64 a)
  if n = 0x300 then some (v.mstatus ||| 0x200000000)
  else if n = 0x301 then some misaValue
  else if n = 0x304 then some v.mie
  else if n = 0x305 then some v.mtvec
  else if n = 0x306 then some (v.mcounteren.setWidth 64)
  else if n = 0x30A then some 0
  else if n = 0x320 then some (v.mcountinhibit.setWidth 64)
  else if 0x323 ≤ n ∧ n ≤ 0x33F then nat (hpmEvent s c (n - 0x323))
  else if n = 0x340 then some v.mscratch
  else if n = 0x341 then some v.mepc
  else if n = 0x342 then some v.mcause
  else if n = 0x343 then some v.mtval
  else if n = 0x344 then nat (mipOf s c t)
  else if n = 0x3A0 then some v.pmpcfg0
  else if n = 0x3A2 then some 0
  else if 0x3B0 ≤ n ∧ n ≤ 0x3B7 then some (mapGet 0 v.pmpaddr (n - 0x3B0))
  else if 0x3B8 ≤ n ∧ n ≤ 0x3BF then some 0
  else if n = 0x7C0 then some v.xgtccmp
  else if n = 0x7C1 then nat (xthState (getCc s c))
  else if n = 0x7C2 then some (if v.xgrnctl then 1 else 0)
  else if n = 0xB00 ∨ n = 0xC00 then nat (freshNat s)
  else if n = 0xB02 ∨ n = 0xC02 then some v.minstret
  else if n = 0xC01 then nat (ccTime s)
  else if 0xB03 ≤ n ∧ n ≤ 0xB1F then nat (hpmValue s c (n - 0xB03))
  else if 0xC03 ≤ n ∧ n ≤ 0xC1F then nat (hpmValue s c (n - 0xC03))
  else if 0xF11 ≤ n ∧ n ≤ 0xF13 ∨ n = 0xF15 then some 0
  else if n = 0xF14 then nat (4 * c.val + t.val)
  else none

/-- Whether a PMP entry's address register is locked: its own lock, or a locked TOR entry above it. -/
def pmpLocked (v : Csrs) (i : Nat) : Bool :=
  bit v.pmpcfg0.toNat (8 * i + 7) || (i < 7 && bit v.pmpcfg0.toNat (8 * i + 15) && bits v.pmpcfg0.toNat (8 * i + 11) 2 = 1)

/-- A write of pmpcfg0: a locked byte keeps its value, and so does one that the write would leave writable and not readable.
PRESUMED (log entry 40). -/
def pmpcfgWrite (old new : Nat) : Nat :=
  ((List.range 8).map fun i =>
    let o := bits old (8 * i) 8
    let w := bits new (8 * i) 8 &&& 0x9F
    (if bit o 7 ∨ (bit w 1 ∧ ¬ bit w 0) then o else w) <<< (8 * i)).sum

/-- A write of a CSR; read-only fields keep their values, and the writes of R552 are ignored. PRESUMED (log entry 40). -/
def csrWrite (x : Thread) (n : Nat) (w : U64) : Thread :=
  let v := x.csr
  let set (v' : Csrs) : Thread := { x with csr := v' }
  if n = 0x300 then set { v with mstatus := mstatusWrite v.mstatus w }
  else if n = 0x304 then set { v with mie := w &&& 0x70088 }
  else if n = 0x305 then set { v with mtvec := w &&& ~~~ (2 : U64) }
  else if n = 0x306 then set { v with mcounteren := w.setWidth 32 }
  else if n = 0x320 then set { v with mcountinhibit := w.setWidth 32 &&& ~~~ (2 : U32) }
  else if n = 0x340 then set { v with mscratch := w }
  else if n = 0x341 then set { v with mepc := w &&& ~~~ (1 : U64) }
  else if n = 0x342 then set { v with mcause := w }
  else if n = 0x343 then set { v with mtval := w }
  else if n = 0x344 then set { v with msip := v.msip && w.getLsbD 3 }
  else if n = 0x3A0 then set { v with pmpcfg0 := BitVec.ofNat 64 (pmpcfgWrite v.pmpcfg0.toNat w.toNat) }
  else if 0x3B0 ≤ n ∧ n ≤ 0x3B7 then
    if pmpLocked v (n - 0x3B0) then x else set { v with pmpaddr := mapSet 0 v.pmpaddr (n - 0x3B0) (w &&& 0x3FFFFFFFFFFFFF) }
  else if n = 0x7C0 then set { v with xgtccmp := w }
  else if n = 0x7C2 then set { v with xgrnctl := w.getLsbD 0 }
  else if n = 0xB02 then set { v with minstret := w }
  else x

/-- Whether a mode may reach a CSR: machine CSRs in machine mode, the user counters where mcounteren permits. -/
def csrPermitted (x : Thread) (n : Nat) : Bool :=
  x.machine || (bits n 8 2 = 0 && x.csr.mcounteren.getLsbD (n % 32))

/-- Whether a CSR instruction writes its CSR. -/
def csrWrites (f3 rs1 : Nat) : Bool := f3 % 4 = 1 || rs1 ≠ 0

/-- The CSR instructions: the old value to rd, and the new one written. -/
def csrInsn (s : State) (c : CoreId) (t : ThreadId) (f3 rd rs1 n : Nat) : Option State :=
  let x := getThread s c t
  let src : U64 := if 4 ≤ f3 then BitVec.ofNat 64 rs1 else regGet x rs1
  let writes := csrWrites f3 rs1
  if ¬ csrPermitted x n ∨ (writes ∧ bits n 10 2 = 3) then none
  else
    match csrRead s c t n with
    | none => none
    | some old =>
      let w := if f3 % 4 = 1 then src else if f3 % 4 = 2 then old ||| src else old &&& ~~~ src
      let set_ : Bool := (n = 0xC00 || n = 0xB00 || (0xB03 ≤ n && n ≤ 0xB1F) || (0xC03 ≤ n && n ≤ 0xC1F))
      let s1 := modThread s c t fun x => regSet (if writes then csrWrite x n w else x) rd old
      some (if set_ then useFree s1 1 else s1)

/-- R198: a CSR instruction retires. A write of minstret takes the place of the count of that instruction. -/
def retireCsr (s : State) (c : CoreId) (t : ThreadId) (i : InsnInfo) (next : U64) (written : Bool) : State :=
  let s1 := retireInsn s c t i next
  if written then
    modThread s1 c t fun x => { x with csr := { x.csr with minstret := (getThread s c t).csr.minstret } }
  else s1

/-- A loaded value extended to 64 bits. -/
def loadValue (size : Nat) (unsig : Bool) (bytes : List Byte) : U64 :=
  if unsig then BitVec.ofNat 64 (leNat bytes) else sext (8 * 2 ^ size) (leNat bytes)

/-- R557: the class of an instruction. -/
def insnClass : CcOp → Nat
  | .lui _ _ | .auipc _ _ => 0
  | .aluImm _ _ _ _ _ => 0
  | .alu op _ _ _ _ =>
    match op with
    | .mul | .mulh | .mulhsu | .mulhu | .div | .divu | .rem | .remu => 1
    | _ => 0
  | .jal _ _ | .jalr _ _ _ | .branch _ _ _ _ => 2
  | .load _ _ _ _ _ => 3
  | .store _ _ _ _ => 4
  | .lr _ _ _ | .sc _ _ _ _ | .amo _ _ _ _ _ => 5
  | .csr _ _ _ _ | .ecall | .ebreak | .mret | .wfi => 6
  | .fence | .fenceI => 7
  | .xgrn fn _ _ _ _ => if fn < 64 then 8 else if fn < 128 then 9 else if fn < 192 then 10 else if fn < 256 then 11 else 12
  | .illegal => 13

/-- R557: the address a sample record of an instruction holds. -/
def insnAddr (x : Thread) : CcOp → Nat
  | .load _ _ _ rs1 off | .store _ rs1 _ off => (regGet x rs1 + off).toNat
  | .lr _ _ rs1 | .sc _ _ rs1 _ | .amo _ _ _ rs1 _ => (regGet x rs1).toNat
  | .xgrn _ _ _ rs1 _ => (regGet x rs1).toNat
  | _ => 0

def insnInfo (x : Thread) (op : CcOp) : InsnInfo := { cls := insnClass op, daddr := insnAddr x op }

/-- An atomic operation on loaded bytes. -/
def amoBytes (op : AmoOp) (size : Nat) (m : List Byte) (r : U64) : List Byte :=
  if size = 3 then natBytes 8 (amoRun op 64 (BitVec.ofNat 64 (leNat m)) r).toNat
  else natBytes 4 (amoRun op 32 (BitVec.ofNat 32 (leNat m)) (r.setWidth 32)).toNat

/-- R198: an instruction runs: everything but the custom commands, MRET, WFI and FENCE.I, which are commands of their own. A load
that misses leaves the instruction to run again when its line is there. -/
def runInsn (s : State) (c : CoreId) (t : ThreadId) (op : CcOp) (len : Nat) : State :=
  let x := getThread s c t
  let i := insnInfo x op
  let next := x.pc + BitVec.ofNat 64 len
  let write (rd : Nat) (v : U64) : State := retireInsn (modThread s c t fun x => regSet x rd v) c t i next
  match op with
  | .lui rd imm => write rd imm
  | .auipc rd imm => write rd (x.pc + imm)
  | .jal rd off =>
    let target := x.pc + off
    let s1 := resolveJump s c t false rd 0 next target
    retireInsn (modThread s1 c t fun x => regSet x rd next) c t i target
  | .jalr rd rs1 off =>
    let target := (regGet x rs1 + off) &&& ~~~ (1 : U64)
    let s1 := resolveJump s c t true rd rs1 next target
    retireInsn (modThread s1 c t fun x => regSet x rd next) c t i target
  | .branch f3 rs1 rs2 off =>
    let taken := branchTaken f3 (regGet x rs1) (regGet x rs2)
    retireInsn (resolveBranch s c t taken (x.pc + off)) c t i (if taken then x.pc + off else next)
  | .load size unsig rd _ _ =>
    match loadBytes s c t i.daddr (2 ^ size) false with
    | .trap cause va => raiseTrap s c t i cause (BitVec.ofNat 64 va)
    | .miss s1 => s1
    | .ok s1 bytes => retireInsn (modThread s1 c t fun x => regSet x rd (loadValue size unsig bytes)) c t i next
  | .store size _ rs2 _ =>
    match badByte x.csr (dataMode x) i.daddr (2 ^ size) .store false with
    | some b => raiseTrap s c t i 7 (BitVec.ofNat 64 b)
    | none => retireInsn (storeBytes s c t i.daddr (natBytes (2 ^ size) (regGet x rs2).toNat)) c t i next
  | .aluImm op word rd rs1 imm => write rd (aluRun op word (regGet x rs1) imm)
  | .alu op word rd rs1 rs2 => write rd (aluRun op word (regGet x rs1) (regGet x rs2))
  | .fence => retireInsn s c t i next
  | .ecall => raiseTrap s c t i (if x.machine then 11 else 8) 0
  | .ebreak => raiseOpen s c t i 3
  | .csr f3 rd rs1 n =>
    match csrInsn s c t f3 rd rs1 n with
    | some s1 => retireCsr s1 c t i next (csrWrites f3 rs1 && n = 0xB02)
    | none => raiseOpen s c t { i with cls := 13 } 2
  | .lr size rd _ =>
    if i.daddr % 2 ^ size ≠ 0 then raiseTrap s c t i 4 (BitVec.ofNat 64 i.daddr)
    else
      match loadBytes s c t i.daddr (2 ^ size) true with
      | .trap cause va => raiseTrap s c t i cause (BitVec.ofNat 64 va)
      | .miss s1 => s1
      | .ok s1 bytes =>
        retireInsn (modThread s1 c t fun x => { regSet x rd (loadValue size false bytes) with reservation := some i.daddr }) c t i next
  | .sc size rd _ rs2 =>
    if i.daddr % 2 ^ size ≠ 0 then raiseTrap s c t i 6 (BitVec.ofNat 64 i.daddr)
    else
      match badByte x.csr (dataMode x) i.daddr (2 ^ size) .store true with
      | some b => raiseTrap s c t i 7 (BitVec.ofNat 64 b)
      | none =>
        match poisonByte (getCore s c).mem [] i.daddr (2 ^ size) with
        | some b => raiseTrap s c t i 24 (BitVec.ofNat 64 b)
        | none =>
          let held : Bool := x.reservation = some i.daddr
          let s1 := if held then storeBytes s c t i.daddr (natBytes (2 ^ size) (regGet x rs2).toNat) else s
          retireInsn (modThread s1 c t fun x => { regSet x rd (if held then 0 else 1) with reservation := none }) c t i next
  | .amo op size rd _ rs2 =>
    if i.daddr % 2 ^ size ≠ 0 then raiseTrap s c t i 6 (BitVec.ofNat 64 i.daddr)
    else
      match badByte x.csr (dataMode x) i.daddr (2 ^ size) .store true with
      | some b => raiseTrap s c t i 7 (BitVec.ofNat 64 b)
      | none =>
        match loadBytes s c t i.daddr (2 ^ size) true with
        | .trap cause va => raiseTrap s c t i (if cause = 5 then 7 else cause) (BitVec.ofNat 64 va)
        | .miss s1 => s1
        | .ok s1 bytes =>
          let s2 := storeBytes s1 c t i.daddr (amoBytes op size bytes (regGet x rs2))
          retireInsn (modThread s2 c t fun x => regSet x rd (loadValue size false bytes)) c t i next
  | .illegal => raiseOpen s c t i 2
  | .fenceI | .mret | .wfi | .xgrn _ _ _ _ _ => s

/-- The issue of a thread's next instruction, where it is one that `want` accepts: a fetch that misses or fails is the same
whatever row asks for it. -/
def issueWith (s : State) (c : CoreId) (want : CcOp → Bool) (run : State → ThreadId → CcOp → Nat → Nat → State) : State :=
  match issuing s c with
  | none => s
  | some t =>
    let x := getThread s c t
    match fetchAt x (heldCache s false (getCc s c).icache) with
    | .miss line va => startMiss s c true line va
    | .trap cause va => raiseTrap (issueInsn s c t) c t { cls := 13 } cause (BitVec.ofNat 64 va)
    | .insn cache op len word =>
      if want op then cacheDrawn s c (run (issueInsn (setCc s c { getCc s c with icache := cache }) c t) t op len word) else s

/-- Whether an instruction is one of CC_INSTRUCTION's. -/
def plainInsn : CcOp → Bool
  | .fenceI | .mret | .wfi | .xgrn _ _ _ _ _ => false
  | _ => true

end Sys2Proof.Machine
end

