-- ==== Sys2Proof/Machine/Xgrn.lean ====
section
/-! DEFINITION. The commands of the Xgrn extension (R208 to R217, R244, R284, R286): what each does when it may retire, and when
it waits. -/

namespace Sys2Proof.Machine

/-- What a command comes to: it retires, with a value for rd; it waits; it is in flight at the queue manager; or it faults. -/
inductive XOut where
  | done (s : State) (value : U64) (tag : Nat)
  | wait
  | flight (s : State)
  | fault (cause va : Nat)
deriving DecidableEq, Repr

/-- A command that retires with a status or a value. -/
def xDone (s : State) (v : Nat) : XOut := .done s (BitVec.ofNat 64 v) 0

/-- R216: a failed open or claim. -/
def xError (s : State) (status : Nat) : XOut := xDone s (2 ^ 63 + status)

/-- R210: the range a command names. -/
def xRange (base pack : U64) : Range := unpackRange base.toNat (pack.toNat % 2 ^ 61)

/-- R175, R212: every covered granule COMPLETE and under no write hold. -/
def settledRange (m : CoreMem) (r : Range) : Bool :=
  rangeComplete m r && m.holds.all fun h => !h.write || !rangesOverlap h.range r

/-- R215: 64 bytes of core memory that a command reads or writes at an address. DEDUCED (log entry 39). -/
def granuleBad (x : Thread) (a n : Nat) (k : AccessKind) : Option Nat :=
  match (List.range n).find? fun i => !inCoreMem (a + i) with
  | some i => some (a + i)
  | none => rangeBad x.csr x.machine { base := a, rowBytes := n, pitch := 0, rows := 1 } k

/-- R556: whether a tagged descriptor of a core is in flight. -/
def taggedDescriptor (k : Core) : Bool :=
  (k.engines.any fun e => (e.2.queue.any (·.tagged)) || (e.2.jobs.any (·.post.tagged)))
    || k.vector.queue.any (·.tagged) || (k.vector.running.map (·.post.tagged)).getD false
    || (k.gathers.any fun g => (g.2.queue.any (·.tagged)) || (g.2.running.map (·.post.tagged)).getD false)

/-- R555, R556: the UNIT countdown counts a queued descriptor of a sampled thread: the state, and whether it is tagged. -/
def sampleUnit (s : State) (c : CoreId) (t : ThreadId) : State × Bool :=
  if bit (dictGet s keySampleSrc) 1 ∧ bit (dictGet s keySampleThreads) t.val then
    let k := getCore s c
    let x := samplingOf s.sampleInit c.val k
    if x.unitDown ≤ 1 then
      let busy := taggedDescriptor k
      let x' := { x with unitDown := sampleReload (dictGet s keySamplePeriod) (dictGet s keySampleJitter) x.lfsr, lfsr := lfsrStep x.lfsr
                         lost := if busy then sat32 (x.lost + 1) else x.lost }
      (setCore s c { k with sampling := some x' }, !busy)
    else (setCore s c { k with sampling := some { x with unitDown := x.unitDown - 1 } }, false)
  else (s, false)

/-- R209: descriptors in a unit's queue, in flight included. -/
def unitDepth (k : Core) (u : Nat) : Nat :=
  if u < 4 then let e := getEngine k (Fin.ofNat 4 u); e.queue.length + e.jobs.length
  else if u = 4 then k.vector.queue.length + (if k.vector.running.isSome then 1 else 0)
  else let g := getGather k (Fin.ofNat 2 (u - 5)); g.queue.length + (if g.running.isSome then 1 else 0)

/-- R149, R181, R191: how many descriptors wait in a unit's queue. -/
def unitQueued (k : Core) (u : Nat) : Nat :=
  if u < 4 then (getEngine k (Fin.ofNat 4 u)).queue.length
  else if u = 4 then k.vector.queue.length
  else (getGather k (Fin.ofNat 2 (u - 5))).queue.length

/-- R209: the post checks of a unit. -/
def postStatus (s : State) (c : CoreId) (u : Nat) (desc : BitVec 512) : Nat :=
  if u < 4 then checkEngine desc else if u = 4 then checkVector desc else checkGather (sysAddr s) c.val desc

/-- R209: a descriptor put in a unit's queue. -/
def enqueuePost (k : Core) (u : Nat) (p : Posted) : Core :=
  if u < 4 then
    let e : EngineId := Fin.ofNat 4 u
    setEngine k e { getEngine k e with queue := (getEngine k e).queue ++ [p] }
  else if u = 4 then { k with vector := { k.vector with queue := k.vector.queue ++ [p] } }
  else
    let g : GatherId := Fin.ofNat 2 (u - 5)
    setGather k g { getGather k g with queue := (getGather k g).queue ++ [p] }

/-- R177, R208, R209, R216: XGRN.PUSH; its scoreboard read needs a free hold. DEDUCED (log entry 39). -/
def xPush (s : State) (c : CoreId) (t : ThreadId) (a b : U64) : XOut :=
  let x := getThread s c t
  let u := bits b.toNat 0 4
  if 7 ≤ u then xDone s 0x21
  else if a.toNat % 64 ≠ 0 then xDone s 0x06
  else
    match granuleBad x a.toNat 64 .load with
    | some v => .fault 5 v
    | none =>
      let k := getCore s c
      if ¬ settledRange k.mem { base := a.toNat, rowBytes := 64, pitch := 0, rows := 1 } ∨ ¬ holdsFree k.mem 1 then .wait
      else if (if u = 4 then 16 else 8) ≤ unitQueued k u then (if b.getLsbD 4 then xDone s 0x20 else .wait)
      else
        let desc : BitVec 512 := BitVec.ofNat 512 (leNat (coreRead k.mem a.toNat 64))
        let st := postStatus s c u desc
        if st ≠ 0 then xDone s st
        else
          let r := sampleUnit s c t
          let p : Posted := { desc := desc, thread := t, machine := x.machine, pc := x.pc, tagged := r.2 }
          .done (setCore r.1 c (enqueuePost (getCore r.1 c) u p)) 0
            (if u < 4 then (engineDesc desc).tag else if u = 4 then (vectorDesc desc).tag else (gatherDesc desc).tag)

/-- R213: the status word of a unit; of a halted one as it stood when it halted. -/
def unitWord (k : Core) (u : Nat) : Nat :=
  let w (st tag : Nat) (halted : Bool) (depth done : Nat) : Nat :=
    st % 256 + (tag % 65536) <<< 8 + (if halted then 1 <<< 24 else 0) + ((if halted then depth else unitDepth k u) % 32) <<< 25
      + (done % 2 ^ 32) <<< 32
  if u < 4 then let e := getEngine k (Fin.ofNat 4 u); w e.status e.statusTag e.halted e.haltDepth 0
  else if u = 4 then w k.vector.status k.vector.statusTag k.vector.halted k.vector.haltDepth 0
  else let g := getGather k (Fin.ofNat 2 (u - 5)); w g.status g.statusTag g.halted g.haltDepth g.done

def unitIsHalted (k : Core) (u : Nat) : Bool :=
  if u < 4 then (getEngine k (Fin.ofNat 4 u)).halted
  else if u = 4 then k.vector.halted
  else (getGather k (Fin.ofNat 2 (u - 5))).halted

/-- R209, R213: XGRN.STAT. -/
def xStat (s : State) (c : CoreId) (a : U64) : XOut :=
  let u := bits a.toNat 0 4
  if 7 ≤ u then xDone s 0x21 else xDone s (unitWord (getCore s c) u)

/-- R214: the head descriptor of an engine removed, with its sample record. -/
def engineDiscard (k : Core) (e : EngineId) : Core × List Note :=
  let x := getEngine k e
  match x.queue with
  | [] => (setEngine k e { x with halted := false }, [])
  | p :: rest =>
    let d := engineDesc p.desc
    (setEngine k e { x with halted := false, queue := rest }, unitSample p e.val x.status d.outAddr d.tag)

/-- R214: the head descriptor of the vector unit removed. -/
def vectorDiscard (k : Core) : Core × List Note :=
  match k.vector.queue with
  | [] => ({ k with vector := { k.vector with halted := false } }, [])
  | p :: rest =>
    let d := vectorDesc p.desc
    ({ k with vector := { k.vector with halted := false, queue := rest } }, unitSample p 4 k.vector.status d.dst d.tag)

/-- R195: a halted gather given up: both holds released, its destination left not complete. -/
def gatherDiscard (k : Core) (g : GatherId) : Core × List Note :=
  let x := getGather k g
  match x.running with
  | none => (setGather k g { x with halted := false }, [])
  | some j =>
    let d := gatherDesc j.post.desc
    (setGather { k with mem := releaseAll k.mem (.gather g) } g { x with halted := false, running := none },
      unitSample j.post (5 + g.val) x.status d.dst d.tag)

/-- R195: a halted gather resumes at DONE. -/
def gatherRetry (own : CoreId) (sys : Option Nat) (k : Core) (g : GatherId) : Core × List Note × List (Nat × Nat × Nat) :=
  let x := getGather k g
  match x.running with
  | none => (setGather k g { x with halted := false }, [], [])
  | some j =>
    let d := gatherDesc j.post.desc
    let r := gatherIssue own.val sys (postAttr j.post (6 + g.val)) (gatherSteps d)
      { core := setGather k g { x with halted := false }, job := { j with stop := none }, notes := [] }
    let z := gatherSettle r.core g r.job r.notes
    (z.1, z.2, gatherWants [] r.job.fetching d)

/-- R214, R216: XGRN.HCLR, to retry or to discard. -/
def xHclr (discard : Bool) (s : State) (c : CoreId) (a : U64) : XOut :=
  let u := bits a.toNat 0 4
  let k := getCore s c
  if 7 ≤ u then xDone s 0x21
  else if ¬ unitIsHalted k u then xDone s (unitWord k u / 256 * 256 + 0x26)
  else
    let w := unitWord k u
    if u < 4 then
      let e : EngineId := Fin.ofNat 4 u
      if discard then xDone (coreDo s c (engineDiscard k e)) w else xDone (setCore s c (setEngine k e { getEngine k e with halted := false })) w
    else if u = 4 then
      if discard then xDone (coreDo s c (vectorDiscard k)) w
      else xDone (setCore s c { k with vector := { k.vector with halted := false } }) w
    else
      let g : GatherId := Fin.ofNat 2 (u - 5)
      if discard then xDone (coreDo s c (gatherDiscard k g)) w
      else
        let r := gatherRetry c (sysAddr s) k g
        xDone (requestLines (coreDo s c (r.1, r.2.1)) c g r.2.2) w

/-- R211: the handles of a thread that are open. -/
def openHandles (m : CoreMem) (t : ThreadId) : List Nat :=
  (List.range 4).filter fun h => m.holds.any fun x => match x.owner with | .thread u i => u = t && i.val = h | _ => false

/-- R211: XGRN.WOPEN (`write`) and XGRN.ROPEN. -/
def xOpen (write : Bool) (s : State) (c : CoreId) (t : ThreadId) (a b : U64) : XOut :=
  let x := getThread s c t
  let k := getCore s c
  let r := xRange a b
  if ¬ rangeInside r then xError s 0x07
  else
    match rangeBad x.csr x.machine r (if write then .store else .load) with
    | some v => .fault (if write then 7 else 5) v
    | none =>
      let held := openHandles k.mem t
      match (List.range 4).find? fun h => !held.contains h with
      | none => xError s 0x22
      | some h =>
        let o : Owner := .thread t (Fin.ofNat 4 h)
        if ¬ (if write then mayWrite k.mem o r else mayRead k.mem o r) ∨ ¬ holdsFree k.mem 1 then .wait
        else if write then xDone (setCore s c { k with mem := beginWrite k.mem o .whole r }) h
        else xDone (setCore s c { k with mem := beginRead k.mem o .whole r }) h

/-- R211: XGRN.CLOSE. Stores reach core memory as they execute, so none is waited for. -/
def xClose (s : State) (c : CoreId) (t : ThreadId) (a : U64) : XOut :=
  let k := getCore s c
  let o : Owner := .thread t (Fin.ofNat 4 a.toNat)
  if 4 ≤ a.toNat then xDone s 0x23
  else
    match k.mem.holds.find? fun h => h.owner = o with
    | none => xDone s 0x23
    | some h => xDone (setCore s c { k with mem := if h.write then endWrite k.mem o .whole h.range else releaseHold k.mem o .whole }) 0

/-- R212: XGRN.RWAIT. -/
def xRwait (s : State) (c : CoreId) (t : ThreadId) (a b : U64) : XOut :=
  let x := getThread s c t
  let r := xRange a b
  if ¬ rangeInside r then xDone s 0x07
  else
    match rangeBad x.csr x.machine r .load with
    | some v => .fault 5 v
    | none => if settledRange (getCore s c).mem r then xDone s 0 else .wait

/-- R245: a status word with a given status, and the caravan's state and count. -/
def cvWord (x : Caravan) (status : Nat) : Nat := (cvStatusWord { x with status := status }).toNat

/-- R248: the context of a caravan that a core's command names, touched; the other bank's contexts are out of its reach. -/
def touchNamed (s : State) (c : CoreId) (v : CaravanId) : State := if cvBank v.val = c.val / 48 then touchFor s v c else s

/-- A caravan number a command names, where it is one. -/
def cvNumber (a : U64) : Option CaravanId := if h : a.toNat < 262144 then some ⟨a.toNat, h⟩ else none

/-- R239, R243, R247: XGRN.CVARM with a descriptor. -/
def xArm (s : State) (c : CoreId) (t : ThreadId) (a b : U64) : XOut :=
  let th := getThread s c t
  let n := a.toNat
  let first : Nat := leNat (coreRead (getCore s c).mem n 1)
  let size := if first = 2 then 192 else 128
  match granuleBad th n size .load with
  | some v => .fault 5 v
  | none =>
    let desc : BitVec 1536 := BitVec.ofNat 1536 (leNat (coreRead (getCore s c).mem n size))
    let d := cvDesc desc
    let st := checkCaravan (sysAddr s) n desc
    match cvNumber b with
    | none => xDone s (if st = 1 ∨ st = 6 then st else 0x07)
    | some v =>
      let x := getCv s v.val
      let busy : Bool := x.state = .armed || x.state = .running || x.state = .faultWait || x.state = .halted
      let off := (namedCores (sysAddr s) d).find? (coreOff s)
      let status := if st ≠ 0 then st else if busy then 0x40 else if cvBank v.val ≠ c.val / 48 then 0x41
        else if off.isSome then 0x45 else 0
      if status = 0 then
        let x' : Caravan := { state := .armed, desc := desc, core := c, thread := t, machine := th.machine }
        let s1 := touchContext (setCv s v.val x') v
        let k := getCore s1 c
        let s2 := setCore s1 c { k with stream := { k.stream with armed := k.stream.armed ++ [v] } }
        xDone (cvEvent s2 v.val 0x50 1 none) (cvWord x' 0)
      else
        xDone (if status = 0x45 then logTargetOff (touchNamed s c v) (off.getD 0) 0 else touchNamed s c v) (cvWord x status)

/-- R244, R248: the checks that a mark, a wait, a resume and a discard share: the caravan, or the command refused with its word. -/
def cvOwned (s : State) (c : CoreId) (b : U64) : XOut ⊕ CaravanId :=
  match cvNumber b with
  | none => .inl (xDone s 0x07)
  | some v =>
    let x := getCv s v.val
    if x.state = .free then .inl (xDone (touchNamed s c v) (cvWord {} 0x43))
    else if x.core ≠ c then .inl (xDone (touchNamed s c v) (cvWord x 0x42))
    else .inr v

/-- R29, R244, R262: XGRN.CVARM with rs1 = 1. -/
def xResume (s : State) (c : CoreId) (b : U64) : XOut :=
  match cvOwned s c b with
  | .inl w => w
  | .inr v =>
    let x := getCv s v.val
    let off := (namedCores (sysAddr s) (cvDesc x.desc)).find? (coreOff s)
    if x.state = .halted ∧ x.ending.isNone ∧ off.isSome then
      xDone (logTargetOff (touchContext s v) (off.getD 0) 0) (cvWord x 0x45)
    else if x.state = .halted ∧ x.ending.isNone then
      let x' := { x with state := .armed, status := 0, irq := false, fault := none, page := none }
      let s1 := touchContext (setCv s v.val x') v
      let k := getCore s1 c
      let s2 := setCore s1 c { k with stream := { k.stream with armed := k.stream.armed ++ [v] } }
      xDone (cvEvent s2 v.val 0x50 1 none) (cvWord x' 0)
    else xDone (touchContext s v) (cvWord x 0x43)

/-- R244, R263: XGRN.CVARM with rs1 = 2. The end is reported at once, or when the report granule is free. DEDUCED (log entry 37). -/
def xDiscard (s : State) (c : CoreId) (b : U64) : XOut :=
  match cvOwned s c b with
  | .inl w => w
  | .inr v =>
    let x := getCv s v.val
    if x.state = .halted ∧ x.ending.isNone then
      let w := cvWord { x with state := .failed } x.status
      if mayReport s v then xDone (enterEnd s v .failed x.status) w
      else xDone (touchContext (modCv s v.val fun x => { x with ending := some (.failed, x.status) }) v) w
    else xDone (touchContext s v) (cvWord x 0x43)

/-- R244: XGRN.CVWAIT. DEDUCED (log entry 37). -/
def xCvWait (s : State) (c : CoreId) (a : U64) : XOut :=
  match cvOwned s c a with
  | .inl w => w
  | .inr v =>
    let x := getCv s v.val
    if ¬ cvEnded x then .wait
    else
      let x' := { x with irq := false, state := if x.state = .halted then .halted else .free }
      xDone (touchContext (setCv s v.val x') v) (cvWord x' x.status)

/-- R244, R254: XGRN.CVMARK. A REGULATED caravan takes no mark. -/
def xCvMark (s : State) (c : CoreId) (a b : U64) : XOut :=
  match cvOwned s c a with
  | .inl w => w
  | .inr v =>
    let x := getCv s v.val
    if x.state = .done ∨ x.state = .failed then xDone (touchContext s v) (cvWord x 0x43)
    else
      let x' := if (cvDesc x.desc).regulated then x else { x with markLimit := max x.markLimit b.toNat }
      xDone (touchContext (setCv s v.val x') v) (cvWord x' 0)

/-- R284: whether a ring serves claims of a core. -/
def claimRing (x : Ring) (r : Nat) (c : CoreId) : Bool := 2 ≤ r && ringEn x && ringConsumer x = 1 && ringFld x 24 7 = c.val

/-- R284: XGRN.QCLAIM: the entry leaves the pool for the claimer, and the copy is under way. DEDUCED (log entry 39). -/
def xQclaim (s : State) (c : CoreId) (t : ThreadId) (rd : Nat) (a b : U64) : XOut :=
  let th := getThread s c t
  let r := bits a.toNat 0 14
  let x := getRing s r
  if b.toNat % 64 ≠ 0 then xError s 0x06
  else
    match granuleBad th b.toNat 64 .store with
    | some v => .fault 7 v
    | none =>
      if ¬ claimRing x r c then xError s 0x25
      else if ringErr x ∨ ringCount x ≤ liveClaims x then (if a.getLsbD 31 then xError s 0x24 else .wait)
      else
        match x.pool with
        | [] => .wait
        | e :: rest =>
          let k : Claim := { core := c, thread := t, dest := b.toNat, rd := rd, entry := e }
          .flight (setRing s r { x with pool := rest, claims := x.claims ++ [k] })

/-- R286: XGRN.QDONE: the entry is on its way to the ring. -/
def xQdone (s : State) (c : CoreId) (t : ThreadId) (rd : Nat) (a b : U64) : XOut :=
  let th := getThread s c t
  let r := bits a.toNat 0 14
  let x := getRing s r
  match granuleBad th b.toNat 64 .load with
  | some v => .fault 5 v
  | none =>
    if r < 2 ∨ ¬ ringEn x ∨ ringProducer x ≠ 1 ∨ (ringFld x 16 7 ≠ c.val ∧ ringFld x 16 7 ≠ 0x7F) then xDone s 0x25
    else if ringErr x ∨ ¬ ringRoom x then .wait
    else
      let m := (getCore s c).mem
      let e := coreRead m b.toNat 64
      let poison := rangePoison m { base := b.toNat, rowBytes := 64, pitch := 0, rows := 1 }
      let p : Post := { poster := some (c, t, rd), ack := none, bytes := e, poison := poison }
      .flight (submitPost (setRing s r { x with posts := x.posts ++ [p] }) (Fin.ofNat 16384 r) x (livePosts x) e poison)

/-- R217: a thread's handles released: each read hold ends, each write hold ends with its range left not complete, with an entry. -/
def releaseHandles (s : State) (c : CoreId) (t : ThreadId) : State :=
  let k := getCore s c
  let mine (h : Hold) : Bool := match h.owner with | .thread u _ => u = t | _ => false
  let s1 := setCore s c { k with mem := { k.mem with holds := k.mem.holds.filter fun h => !mine h } }
  (k.mem.holds.filter fun h => mine h && h.write).foldl (fun s h =>
    logEntry s 2 0x6004 1 c.val (packData [(8, t.val), (32, h.range.base)])) s1

/-- R217: a thread stopped. -/
def stopThread (s : State) (c : CoreId) (t : ThreadId) : State :=
  modThread (releaseHandles s c t) c t fun x => { x with state := .idle, wfi := false, issued := false, tagged := false, stopping := false }

/-- R217: XGRN.TSTART. -/
def xTstart (s : State) (c : CoreId) (a b : U64) : XOut :=
  if 4 ≤ a.toNat then xDone s 0x27
  else
    let u : ThreadId := Fin.ofNat 4 a.toNat
    if (getThread s c u).state ≠ .idle then xDone s 0x27
    else xDone (setThread s c u { pc := b &&& ~~~ (1 : U64), machine := true, state := .ready }) 0

/-- R217: XGRN.TSTOP of another thread; a thread that stops itself does so once the command retires. -/
def xTstop (s : State) (c : CoreId) (t : ThreadId) (a : U64) : XOut :=
  if 4 ≤ a.toNat then xDone s 0x27
  else
    let u : ThreadId := Fin.ofNat 4 a.toNat
    if u = t ∨ (getThread s c u).inFlight then xDone (modThread s c u fun x => { x with stopping := true }) 0
    else xDone (stopThread s c u) 0

/-- R217: XGRN.TSIG. -/
def xTsig (s : State) (c : CoreId) (t : ThreadId) (a : U64) : XOut :=
  if 4 ≤ a.toNat ∨ a.toNat = t.val then xDone s 0x27
  else xDone (modThread s c (Fin.ofNat 4 a.toNat) fun x => { x with csr := { x.csr with msip := true } }) 0

/-- R208: a command by its code. -/
def xRun (s : State) (c : CoreId) (t : ThreadId) (fn rd : Nat) (a b : U64) : XOut :=
  match fn with
  | 0 => xPush s c t a b
  | 1 => xStat s c a
  | 2 => xHclr (a.getLsbD 4) s c a
  | 64 => xOpen true s c t a b
  | 65 => xOpen false s c t a b
  | 66 => xClose s c t a
  | 67 => xRwait s c t a b
  | 128 => if a = 1 then xResume s c b else if a = 2 then xDiscard s c b else xArm s c t a b
  | 129 => xCvWait s c a
  | 130 => xCvMark s c a b
  | 192 => xQclaim s c t rd a b
  | 193 => xQdone s c t rd a b
  | 257 => xTstart s c a b
  | 258 => xTstop s c t a
  | 259 => xTsig s c t a
  | _ => xDone s 0

/-- R203: whether a command waits TASK-class: a caravan's own class for XGRN.CVWAIT, else funct7[0]. -/
def waitsTask (s : State) (fn : Nat) (task : Bool) (a : U64) : Bool :=
  if fn = 129 then (match cvNumber a with | some v => (cvDesc (getCv s v.val).desc).task | none => false) else task

/-- A command retires: rd takes its value, YIELD gives up the core, and a thread that was told to stop does. -/
def xRetire (s : State) (c : CoreId) (t : ThreadId) (fn rd : Nat) (i : InsnInfo) (v : U64) : State :=
  let x := getThread s c t
  let s1 := modThread s c t fun x => if fn = 256 then x else regSet x rd v
  let s2 := retireInsn s1 c t i (x.pc + 4)
  let s3 := modThread s2 c t fun x => { x with inFlight := false, state := if fn = 256 then .ready else x.state }
  if (getThread s3 c t).stopping then stopThread s3 c t else s3

/-- R203, R206: a command issues: it retires, waits by its class, or goes to the queue manager. -/
def xIssue (s : State) (c : CoreId) (t : ThreadId) (op : CcOp) (word : Nat) : State :=
  match op with
  | .xgrn fn task rd rs1 rs2 =>
    let x := getThread s c t
    let a := regGet x rs1
    let i := insnInfo x op
    match xRun s c t fn rd a (regGet x rs2) with
    | .done s1 v tag => xRetire s1 c t fn rd { i with tag := tag } v
    | .flight s1 => modThread s1 c t fun x => { x with inFlight := true, word := word }
    | .fault cause va => raiseTrap s c t i cause (BitVec.ofNat 64 va)
    | .wait =>
      if waitsTask s fn task a then
        ccEvent (modThread s c t fun x => { x with state := .taskWait, word := word }) c t 0x4C 1
      else modThread s c t fun x => { x with state := .dataStall, word := word }
  | _ => s

/-- R203: whether the command a thread waits in would not wait now. -/
def waitOver (s : State) (c : CoreId) (t : ThreadId) : Bool :=
  let x := getThread s c t
  match decode32 x.word with
  | .xgrn fn _ rd rs1 rs2 =>
    match xRun s c t fn rd (regGet x rs1) (regGet x rs2) with
    | .wait => false
    | _ => true
  | _ => true

end Sys2Proof.Machine
end

