-- ==== Sys2Proof/Machine/ControlCmds.lean ====
section
/-! DEFINITION. The commands of the control cores (R198 to R226). -/

namespace Sys2Proof.Machine

/-- A custom command of code `fn` issues at the core's active thread, where rs1 passes a test. -/
def xgrnRow (s : State) (c : CoreId) (fn : Nat) (test : U64 → Bool) : State :=
  match issuing s c with
  | none => s
  | some t =>
    let want (op : CcOp) : Bool := match op with | .xgrn f _ _ rs1 _ => f = fn && test (regGet (getThread s c t) rs1) | _ => false
    issueWith s c want fun s t op _ word => xIssue s c t op word

/-- R209: XGRN.PUSH. -/
def execXgrnPush (c : CoreId) (s : State) : Result := .next (xgrnRow s c 0 fun _ => true)

/-- R213: XGRN.STAT. -/
def execXgrnStat (c : CoreId) (s : State) : Result := .next (xgrnRow s c 1 fun _ => true)

/-- R214: XGRN.HCLR with rs1[4] = 0. -/
def execXgrnHclrRetry (c : CoreId) (s : State) : Result := .next (xgrnRow s c 2 fun a => !a.getLsbD 4)

/-- R214: XGRN.HCLR with rs1[4] = 1. -/
def execXgrnHclrDiscard (c : CoreId) (s : State) : Result := .next (xgrnRow s c 2 fun a => a.getLsbD 4)

/-- R211: XGRN.WOPEN. -/
def execXgrnWopen (c : CoreId) (s : State) : Result := .next (xgrnRow s c 64 fun _ => true)

/-- R211: XGRN.ROPEN. -/
def execXgrnRopen (c : CoreId) (s : State) : Result := .next (xgrnRow s c 65 fun _ => true)

/-- R211: XGRN.CLOSE. -/
def execXgrnClose (c : CoreId) (s : State) : Result := .next (xgrnRow s c 66 fun _ => true)

/-- R212: XGRN.RWAIT. -/
def execXgrnRwait (c : CoreId) (s : State) : Result := .next (xgrnRow s c 67 fun _ => true)

/-- R239: XGRN.CVARM with a descriptor address. -/
def execXgrnCvarm (c : CoreId) (s : State) : Result := .next (xgrnRow s c 128 fun a => a ≠ 1 && a ≠ 2)

/-- R262: XGRN.CVARM with rs1 = 1. -/
def execXgrnCvarmResume (c : CoreId) (s : State) : Result := .next (xgrnRow s c 128 fun a => a = 1)

/-- R263: XGRN.CVARM with rs1 = 2. -/
def execXgrnCvarmDiscard (c : CoreId) (s : State) : Result := .next (xgrnRow s c 128 fun a => a = 2)

/-- R244: XGRN.CVWAIT. -/
def execXgrnCvwait (c : CoreId) (s : State) : Result := .next (xgrnRow s c 129 fun _ => true)

/-- R254: XGRN.CVMARK. -/
def execXgrnCvmark (c : CoreId) (s : State) : Result := .next (xgrnRow s c 130 fun _ => true)

/-- R284: XGRN.QCLAIM. -/
def execXgrnQclaim (c : CoreId) (s : State) : Result := .next (xgrnRow s c 192 fun _ => true)

/-- R286: XGRN.QDONE. -/
def execXgrnQdone (c : CoreId) (s : State) : Result := .next (xgrnRow s c 193 fun _ => true)

/-- R204: XGRN.YIELD. -/
def execXgrnYield (c : CoreId) (s : State) : Result := .next (xgrnRow s c 256 fun _ => true)

/-- R217: XGRN.TSTART. -/
def execXgrnTstart (c : CoreId) (s : State) : Result := .next (xgrnRow s c 257 fun _ => true)

/-- R217: XGRN.TSTOP. -/
def execXgrnTstop (c : CoreId) (s : State) : Result := .next (xgrnRow s c 258 fun _ => true)

/-- R217: XGRN.TSIG. -/
def execXgrnTsig (c : CoreId) (s : State) : Result := .next (xgrnRow s c 259 fun _ => true)

/-- R198: an RV64IMAC instruction issues and executes. -/
def execCcInstruction (c : CoreId) (s : State) : Result :=
  .next (issueWith s c plainInsn fun s t op len _ => runInsn s c t op len)

/-- R202: WFI: the thread waits until an enabled interrupt is pending. -/
def execWfi (c : CoreId) (s : State) : Result :=
  .next (issueWith s c (fun op => op = .wfi) fun s t op len _ =>
    let x := getThread s c t
    let s1 := retireInsn s c t (insnInfo x op) (x.pc + BitVec.ofNat 64 len)
    ccEvent (modThread s1 c t fun x => { x with state := .taskWait, wfi := true }) c t 0x4C 1)

/-- R206: MRET: pc, mode and interrupt enable as they were saved. -/
def mretThread (x : Thread) : Thread :=
  let st := x.csr.mstatus
  let toM := st.getLsbD 11
  let st1 := st &&& ~~~ (0x1888 : U64)
  let st2 := st1 ||| (if st.getLsbD 7 then 8 else 0) ||| 0x80
  { x with machine := toM, csr := { x.csr with mstatus := if toM then st2 else st2 &&& ~~~ (0x20000 : U64) } }

/-- R206: MRET. -/
def execMret (c : CoreId) (s : State) : Result :=
  .next (issueWith s c (fun op => op = .mret) fun s t op _ _ =>
    let x := getThread s c t
    modThread (retireInsn s c t (insnInfo x op) x.csr.mepc) c t mretThread)

/-- R222: FENCE.I: the instruction cache is invalid. -/
def execFenceI (c : CoreId) (s : State) : Result :=
  .next (issueWith s c (fun op => op = .fenceI) fun s t op len _ =>
    let x := getThread s c t
    let s1 := setCc s c { getCc s c with icache := [] }
    retireInsn s1 c t (insnInfo x op) (x.pc + BitVec.ofNat 64 len))

/-- The half of a 128-byte line that a cache line is. -/
def halfLine (q : Request) (bytes : List Byte) : List Byte := if q.be.getLsbD 0 then bytes.take 64 else (bytes.drop 64).take 64

/-- R222: a line fills a cache, and the instruction that waited for its data runs. -/
def missFilled (s : State) (c : CoreId) (m : Miss) (bytes : List Byte) (poison : Bool) : State :=
  let l : CacheLine := { line := m.line, bytes := bytes, poison := poison }
  let k := getCc s c
  if m.inst then setCc s c { k with miss := none, icache := cacheFill k.icache l }
  else
    let s1 := setCc s c { k with miss := none, dcache := cacheFill k.dcache l }
    match activeThread k with
    | none => s1
    | some t =>
      match fetchAt (getThread s1 c t) (heldCache s1 false k.icache) with
      | .insn _ op len _ => if (getThread s1 c t).issued ∧ plainInsn op then cacheDrawn s1 c (runInsn s1 c t op len) else s1
      | _ => s1

/-- R225: after a line of instructions arrived poisoned, the fetch that waited for it fails. -/
def fetchAgain (s : State) (c : CoreId) : State :=
  match activeThread (getCc s c) with
  | none => s
  | some t =>
    match fetchAt (getThread s c t) (heldCache s false (getCc s c).icache) with
    | .trap cause va => raiseTrap (issueInsn s c t) c t { cls := 13 } cause (BitVec.ofNat 64 va)
    | _ => s

/-- R201, R222, R225: a cache miss returns. -/
def execCacheMissReturn (c : CoreId) (s : State) : Result :=
  match (getCc s c).miss with
  | none => .next s
  | some m =>
    if m.image then
      match requestOf s.net (.image c m.line) with
      | none => .next s
      | some q =>
        match q.state with
        | .answered a =>
          let s1 := { s with net := dropRequest s.net q.id }
          match a with
          | .data bytes poison =>
            let s2 := missFilled s1 c m (halfLine q bytes) (poison ≠ 0)
            .next (if m.inst then fetchAgain s2 c else s2)
          | _ =>
            let s2 := setCc s1 c { getCc s1 c with miss := none }
            match activeThread (getCc s2 c) with
            | none => .next s2
            | some t =>
              let s3 := if m.inst then issueInsn s2 c t else s2
              .next (raiseTrap s3 c t { cls := if m.inst then 13 else 3, daddr := if m.inst then 0 else m.va } (if m.inst then 1 else 5)
                (BitVec.ofNat 64 m.va))
        | _ => .next s
    else
      let mem := (getCore s c).mem
      let s2 := missFilled s c m (coreRead mem (64 * m.line) 64) (granulePoison mem m.line)
      .next (if m.inst then fetchAgain s2 c else s2)

/-- R203: the condition of a waiting command is observed: a DATA stall ends with the command retiring, and a thread in TASK_WAIT
becomes READY. -/
def execWaitConditionObserved (c : CoreId) (t : ThreadId) (s : State) : Result :=
  let x := getThread s c t
  if x.inFlight ∨ x.wfi ∨ (x.state ≠ .dataStall ∧ x.state ≠ .taskWait) then .next s
  else if ¬ waitOver s c t then .next s
  else if x.state = .taskWait then .next (modThread s c t fun x => { x with state := .ready })
  else .next (xIssue (modThread s c t fun x => { x with state := .active }) c t (decode32 x.word) x.word)

/-- R204: with no thread active, the first READY one in order is selected, after two switch cycles. -/
def execThreadSelect (c : CoreId) (s : State) : Result :=
  let k := getCc s c
  if (activeThread k).isSome then .next s
  else
    match [k.last + 1, k.last + 2, k.last + 3, k.last].find? fun t => (mapGet {} k.threads t.val).state = .ready with
    | none => .next s
    | some t =>
      let s1 := modThread (setCc s c { k with last := t }) c t fun x => { x with state := .active }
      .next (countEvent s1 .core c.val 0x49 {} 2)

/-- R205: the active thread's quantum is used up while another thread is READY. -/
def execThreadQuantum (c : CoreId) (s : State) : Result :=
  let k := getCc s c
  match activeThread k with
  | none => .next s
  | some t =>
    let x := getThread s c t
    let other := allThreads.any fun u => u ≠ t && (mapGet {} k.threads u.val).state = .ready
    if dictGet s keyThreadQuantum ≠ 0 ∧ x.state = .active ∧ ¬ x.inFlight ∧ k.miss.isNone ∧ other then
      .next (modThread s c t fun x => { x with state := .ready })
    else .next s

/-- R202, R224: a pending enabled interrupt ends a thread's wait: one in TASK_WAIT becomes READY, one in a DATA stall goes on
active. The tag of a waiting command is lost (R556). A command in flight is not interrupted. PRESUMED (log entry 45). -/
def endWait (s : State) (c : CoreId) (t : ThreadId) : State :=
  let x := getThread s c t
  let pending : Bool := if x.wfi then locallyPending s c t ≠ 0 else (takeable s c t).isSome
  if x.inFlight ∨ ¬ pending then s
  else if x.state = .taskWait ∨ x.state = .dataStall then
    let s1 := if x.tagged ∧ ¬ x.wfi then sampleLost s c else s
    modThread s1 c t fun x =>
      { x with state := if x.state = .taskWait then .ready else .active, wfi := false, issued := false, tagged := false, word := 0 }
  else s

/-- R223, R224: GTC reaches XGTCCMP: MTIP is pending from now on, and ends the wait of its thread where it is enabled. -/
def execMtipCompare (c : CoreId) (t : ThreadId) (s : State) : Result :=
  if (getThread s c t).csr.xgtccmp.toNat ≤ ccTime s then .next (endWait s c t) else .next s

/-- R206, R224: a pending enabled interrupt ends a wait, and the active thread takes it. -/
def execInterruptTake (c : CoreId) (t : ThreadId) (s : State) : Result :=
  let s1 := endWait s c t
  let x := getThread s1 c t
  if x.state = .active ∧ ¬ x.inFlight ∧ ¬ x.debugHalted ∧ (getCc s1 c).miss.isNone then
    match takeable s1 c t with
    | some cause => .next (modThread s1 c t fun x => trapThread x true cause 0)
    | none => .next s1
  else .next s1

end Sys2Proof.Machine
end

