-- ==== Sys2Proof/Machine/Crypto.lean ====
section
/-! DEFINITION. The cryptographic functions the spec names by their standards: SHA-256 and SHA-384 (FIPS 180-4), HMAC-SHA-256
(RFC 2104), HKDF (RFC 5869), AES-256-GCM (SP 800-38D), and the verification of an ECDSA P-384 signature (FIPS 186-5). They are
used by R64 to R66, R418, R487, R528, R532 and R539. -/

namespace Sys2Proof.Machine

/-- The big-endian number of a list of bytes. -/
def beNat (l : List Byte) : Nat := l.foldl (fun n b => 256 * n + b.toNat) 0

/-- The `k` big-endian bytes of a number. -/
def beBytes (k n : Nat) : List Byte := (natBytes k n).reverse

/-- Round constants of SHA-256, from number 0. -/
def sha256K0 : List U32 :=
  [0x428A2F98, 0x71374491, 0xB5C0FBCF, 0xE9B5DBA5, 0x3956C25B, 0x59F111F1, 0x923F82A4, 0xAB1C5ED5,
   0xD807AA98, 0x12835B01, 0x243185BE, 0x550C7DC3, 0x72BE5D74, 0x80DEB1FE, 0x9BDC06A7, 0xC19BF174]

/-- Round constants of SHA-256, from number 16. -/
def sha256K1 : List U32 :=
  [0xE49B69C1, 0xEFBE4786, 0x0FC19DC6, 0x240CA1CC, 0x2DE92C6F, 0x4A7484AA, 0x5CB0A9DC, 0x76F988DA,
   0x983E5152, 0xA831C66D, 0xB00327C8, 0xBF597FC7, 0xC6E00BF3, 0xD5A79147, 0x06CA6351, 0x14292967]

/-- Round constants of SHA-256, from number 32. -/
def sha256K2 : List U32 :=
  [0x27B70A85, 0x2E1B2138, 0x4D2C6DFC, 0x53380D13, 0x650A7354, 0x766A0ABB, 0x81C2C92E, 0x92722C85,
   0xA2BFE8A1, 0xA81A664B, 0xC24B8B70, 0xC76C51A3, 0xD192E819, 0xD6990624, 0xF40E3585, 0x106AA070]

/-- Round constants of SHA-256, from number 48. -/
def sha256K3 : List U32 :=
  [0x19A4C116, 0x1E376C08, 0x2748774C, 0x34B0BCB5, 0x391C0CB3, 0x4ED8AA4A, 0x5B9CCA4F, 0x682E6FF3,
   0x748F82EE, 0x78A5636F, 0x84C87814, 0x8CC70208, 0x90BEFFFA, 0xA4506CEB, 0xBEF9A3F7, 0xC67178F2]

/-- Round constants of SHA-256. -/
def sha256K : List U32 := sha256K0 ++ sha256K1 ++ sha256K2 ++ sha256K3

/-- Initial value of SHA-256. -/
def sha256Init : List U32 :=
  [0x6A09E667, 0xBB67AE85, 0x3C6EF372, 0xA54FF53A, 0x510E527F, 0x9B05688C, 0x1F83D9AB, 0x5BE0CD19]

/-- Round constants of SHA-512 and SHA-384, from number 0. -/
def sha512K0 : List U64 :=
  [0x428A2F98D728AE22, 0x7137449123EF65CD, 0xB5C0FBCFEC4D3B2F, 0xE9B5DBA58189DBBC,
   0x3956C25BF348B538, 0x59F111F1B605D019, 0x923F82A4AF194F9B, 0xAB1C5ED5DA6D8118,
   0xD807AA98A3030242, 0x12835B0145706FBE, 0x243185BE4EE4B28C, 0x550C7DC3D5FFB4E2,
   0x72BE5D74F27B896F, 0x80DEB1FE3B1696B1, 0x9BDC06A725C71235, 0xC19BF174CF692694]

/-- Round constants of SHA-512 and SHA-384, from number 16. -/
def sha512K1 : List U64 :=
  [0xE49B69C19EF14AD2, 0xEFBE4786384F25E3, 0x0FC19DC68B8CD5B5, 0x240CA1CC77AC9C65,
   0x2DE92C6F592B0275, 0x4A7484AA6EA6E483, 0x5CB0A9DCBD41FBD4, 0x76F988DA831153B5,
   0x983E5152EE66DFAB, 0xA831C66D2DB43210, 0xB00327C898FB213F, 0xBF597FC7BEEF0EE4,
   0xC6E00BF33DA88FC2, 0xD5A79147930AA725, 0x06CA6351E003826F, 0x142929670A0E6E70]

/-- Round constants of SHA-512 and SHA-384, from number 32. -/
def sha512K2 : List U64 :=
  [0x27B70A8546D22FFC, 0x2E1B21385C26C926, 0x4D2C6DFC5AC42AED, 0x53380D139D95B3DF,
   0x650A73548BAF63DE, 0x766A0ABB3C77B2A8, 0x81C2C92E47EDAEE6, 0x92722C851482353B,
   0xA2BFE8A14CF10364, 0xA81A664BBC423001, 0xC24B8B70D0F89791, 0xC76C51A30654BE30,
   0xD192E819D6EF5218, 0xD69906245565A910, 0xF40E35855771202A, 0x106AA07032BBD1B8]

/-- Round constants of SHA-512 and SHA-384, from number 48. -/
def sha512K3 : List U64 :=
  [0x19A4C116B8D2D0C8, 0x1E376C085141AB53, 0x2748774CDF8EEB99, 0x34B0BCB5E19B48A8,
   0x391C0CB3C5C95A63, 0x4ED8AA4AE3418ACB, 0x5B9CCA4F7763E373, 0x682E6FF3D6B2B8A3,
   0x748F82EE5DEFB2FC, 0x78A5636F43172F60, 0x84C87814A1F0AB72, 0x8CC702081A6439EC,
   0x90BEFFFA23631E28, 0xA4506CEBDE82BDE9, 0xBEF9A3F7B2C67915, 0xC67178F2E372532B]

/-- Round constants of SHA-512 and SHA-384, from number 64. -/
def sha512K4 : List U64 :=
  [0xCA273ECEEA26619C, 0xD186B8C721C0C207, 0xEADA7DD6CDE0EB1E, 0xF57D4F7FEE6ED178,
   0x06F067AA72176FBA, 0x0A637DC5A2C898A6, 0x113F9804BEF90DAE, 0x1B710B35131C471B,
   0x28DB77F523047D84, 0x32CAAB7B40C72493, 0x3C9EBE0A15C9BEBC, 0x431D67C49C100D4C,
   0x4CC5D4BECB3E42B6, 0x597F299CFC657E2A, 0x5FCB6FAB3AD6FAEC, 0x6C44198C4A475817]

/-- Round constants of SHA-512 and SHA-384. -/
def sha512K : List U64 := sha512K0 ++ sha512K1 ++ sha512K2 ++ sha512K3 ++ sha512K4

/-- Initial value of SHA-384. -/
def sha384Init : List U64 :=
  [0xCBBB9D5DC1059ED8, 0x629A292A367CD507, 0x9159015A3070DD17, 0x152FECD8F70E5939,
   0x67332667FFC00B31, 0x8EB44A8768581511, 0xDB0C2E0D64F98FA7, 0x47B5481DBEFA4FA4]

/-- A message as blocks of words of `w` bytes, 16 words a block: the message, a one bit, zeros, and the length in bits at the end. -/
def shaPad (w : Nat) (m : List Byte) : List Byte :=
  let block := 16 * w
  let used := (m.length + 1 + 2 * w) % block
  m ++ [0x80] ++ List.replicate ((block - used) % block) 0 ++ beBytes (2 * w) (8 * m.length)

/-- A list cut into pieces of `n`. The first argument bounds the number of pieces. -/
def piecesOf {α : Type} (n : Nat) : Nat → List α → List (List α)
  | 0, _ => []
  | k + 1, l => if l.isEmpty then [] else l.take n :: piecesOf n k (l.drop n)

/-- A list cut into pieces of `n`. -/
def pieces {α : Type} (n : Nat) (l : List α) : List (List α) := piecesOf n (l.length + 1) l

/-- The functions of one member of the SHA-2 family: rotations of Σ0, Σ1, σ0 and σ1, the last of each σ a shift. -/
structure Sha (w : Nat) where
  big0 : Nat × Nat × Nat
  big1 : Nat × Nat × Nat
  small0 : Nat × Nat × Nat
  small1 : Nat × Nat × Nat
  k : List (BitVec w)

/-- Three rotations combined. -/
def shaBig {w : Nat} (r : Nat × Nat × Nat) (x : BitVec w) : BitVec w := x.rotateRight r.1 ^^^ x.rotateRight r.2.1 ^^^ x.rotateRight r.2.2

/-- Two rotations and a shift combined. -/
def shaSmall {w : Nat} (r : Nat × Nat × Nat) (x : BitVec w) : BitVec w := x.rotateRight r.1 ^^^ x.rotateRight r.2.1 ^^^ x >>> r.2.2

/-- The message schedule, newest word first: `n` words more. -/
def shaExpand {w : Nat} (f : Sha w) : Nat → List (BitVec w) → List (BitVec w)
  | 0, l => l
  | n + 1, l => shaExpand f n ((shaSmall f.small1 (l.getD 1 0) + l.getD 6 0 + shaSmall f.small0 (l.getD 14 0) + l.getD 15 0) :: l)

/-- One round over the eight working variables. -/
def shaRound {w : Nat} (f : Sha w) (v : List (BitVec w)) (kw : BitVec w × BitVec w) : List (BitVec w) :=
  match v with
  | [a, b, c, d, e, g, h, i] =>
    let t1 := i + shaBig f.big1 e + ((e &&& g) ^^^ (~~~ e &&& h)) + kw.1 + kw.2
    let t2 := shaBig f.big0 a + ((a &&& b) ^^^ (a &&& c) ^^^ (b &&& c))
    [t1 + t2, a, b, c, d + t1, e, g, h]
  | v => v

/-- One block. -/
def shaBlock {w : Nat} (f : Sha w) (h : List (BitVec w)) (block : List (BitVec w)) : List (BitVec w) :=
  let ws := (shaExpand f (f.k.length - 16) block.reverse).reverse
  List.zipWith (· + ·) h ((f.k.zip ws).foldl (shaRound f) h)

/-- The hash of a message, words of `w` bits. -/
def shaHash {w : Nat} (f : Sha w) (init : List (BitVec w)) (m : List Byte) : List Byte :=
  let blocks := pieces (2 * w) (shaPad (w / 8) m)
  let h := blocks.foldl (fun h b => shaBlock f h ((pieces (w / 8) b).map fun x => BitVec.ofNat w (beNat x))) init
  h.flatMap fun x => beBytes (w / 8) x.toNat

/-- SHA-256. -/
def sha256Fns : Sha 32 :=
  { big0 := (2, 13, 22), big1 := (6, 11, 25), small0 := (7, 18, 3), small1 := (17, 19, 10), k := sha256K }

/-- SHA-512, of which SHA-384 is a truncation with an initial value of its own. -/
def sha512Fns : Sha 64 :=
  { big0 := (28, 34, 39), big1 := (14, 18, 41), small0 := (1, 8, 7), small1 := (19, 61, 6), k := sha512K }

/-- SHA-256 of a message: 32 bytes. PRESUMED (log entry 71). -/
def sha256 (m : List Byte) : List Byte := shaHash sha256Fns sha256Init m

/-- SHA-384 of a message: 48 bytes. PRESUMED (log entry 71). -/
def sha384 (m : List Byte) : List Byte := (shaHash sha512Fns sha384Init m).take 48

/-- HMAC-SHA-256. PRESUMED (log entry 71). -/
def hmac256 (key m : List Byte) : List Byte :=
  let k0 := if 64 < key.length then sha256 key else key
  let k := k0 ++ List.replicate (64 - k0.length) 0
  sha256 (k.map (· ^^^ 0x5C) ++ sha256 (k.map (· ^^^ 0x36) ++ m))

/-- HKDF with SHA-256 for 32 bytes of output: extract, then the first block of expand. PRESUMED (log entry 71). -/
def hkdf256 (ikm salt info : List Byte) : List Byte := hmac256 (hmac256 salt ikm) (info ++ [1])

/-- The AES substitution box, from number 0. -/
def aesSbox0 : List Byte :=
  [0x63, 0x7C, 0x77, 0x7B, 0xF2, 0x6B, 0x6F, 0xC5, 0x30, 0x01, 0x67, 0x2B, 0xFE, 0xD7, 0xAB, 0x76,
   0xCA, 0x82, 0xC9, 0x7D, 0xFA, 0x59, 0x47, 0xF0, 0xAD, 0xD4, 0xA2, 0xAF, 0x9C, 0xA4, 0x72, 0xC0,
   0xB7, 0xFD, 0x93, 0x26, 0x36, 0x3F, 0xF7, 0xCC, 0x34, 0xA5, 0xE5, 0xF1, 0x71, 0xD8, 0x31, 0x15,
   0x04, 0xC7, 0x23, 0xC3, 0x18, 0x96, 0x05, 0x9A, 0x07, 0x12, 0x80, 0xE2, 0xEB, 0x27, 0xB2, 0x75]

/-- The AES substitution box, from number 64. -/
def aesSbox1 : List Byte :=
  [0x09, 0x83, 0x2C, 0x1A, 0x1B, 0x6E, 0x5A, 0xA0, 0x52, 0x3B, 0xD6, 0xB3, 0x29, 0xE3, 0x2F, 0x84,
   0x53, 0xD1, 0x00, 0xED, 0x20, 0xFC, 0xB1, 0x5B, 0x6A, 0xCB, 0xBE, 0x39, 0x4A, 0x4C, 0x58, 0xCF,
   0xD0, 0xEF, 0xAA, 0xFB, 0x43, 0x4D, 0x33, 0x85, 0x45, 0xF9, 0x02, 0x7F, 0x50, 0x3C, 0x9F, 0xA8,
   0x51, 0xA3, 0x40, 0x8F, 0x92, 0x9D, 0x38, 0xF5, 0xBC, 0xB6, 0xDA, 0x21, 0x10, 0xFF, 0xF3, 0xD2]

/-- The AES substitution box, from number 128. -/
def aesSbox2 : List Byte :=
  [0xCD, 0x0C, 0x13, 0xEC, 0x5F, 0x97, 0x44, 0x17, 0xC4, 0xA7, 0x7E, 0x3D, 0x64, 0x5D, 0x19, 0x73,
   0x60, 0x81, 0x4F, 0xDC, 0x22, 0x2A, 0x90, 0x88, 0x46, 0xEE, 0xB8, 0x14, 0xDE, 0x5E, 0x0B, 0xDB,
   0xE0, 0x32, 0x3A, 0x0A, 0x49, 0x06, 0x24, 0x5C, 0xC2, 0xD3, 0xAC, 0x62, 0x91, 0x95, 0xE4, 0x79,
   0xE7, 0xC8, 0x37, 0x6D, 0x8D, 0xD5, 0x4E, 0xA9, 0x6C, 0x56, 0xF4, 0xEA, 0x65, 0x7A, 0xAE, 0x08]

/-- The AES substitution box, from number 192. -/
def aesSbox3 : List Byte :=
  [0xBA, 0x78, 0x25, 0x2E, 0x1C, 0xA6, 0xB4, 0xC6, 0xE8, 0xDD, 0x74, 0x1F, 0x4B, 0xBD, 0x8B, 0x8A,
   0x70, 0x3E, 0xB5, 0x66, 0x48, 0x03, 0xF6, 0x0E, 0x61, 0x35, 0x57, 0xB9, 0x86, 0xC1, 0x1D, 0x9E,
   0xE1, 0xF8, 0x98, 0x11, 0x69, 0xD9, 0x8E, 0x94, 0x9B, 0x1E, 0x87, 0xE9, 0xCE, 0x55, 0x28, 0xDF,
   0x8C, 0xA1, 0x89, 0x0D, 0xBF, 0xE6, 0x42, 0x68, 0x41, 0x99, 0x2D, 0x0F, 0xB0, 0x54, 0xBB, 0x16]

/-- The AES substitution box. -/
def aesSbox : List Byte := aesSbox0 ++ aesSbox1 ++ aesSbox2 ++ aesSbox3

/-- Multiplication by x in GF(2^8). -/
def aesXtime (b : Byte) : Byte := (b <<< 1) ^^^ (if b.getLsbD 7 then 0x1B else 0)

/-- The substitution of one byte. -/
def aesSub (b : Byte) : Byte := aesSbox.getD b.toNat 0

/-- Bytes combined by exclusive or. -/
def xorBytes (a b : List Byte) : List Byte := List.zipWith (· ^^^ ·) a b

/-- The key schedule of AES-256, newest word first: `n` words more, the next being number `i`, with round constant `rc`. -/
def aesExpand : Nat → Nat → Byte → List (List Byte) → List (List Byte)
  | 0, _, _, l => l
  | n + 1, i, rc, l =>
    let prev := l.headD []
    let t := if i % 8 = 0 then xorBytes ((prev.drop 1 ++ prev.take 1).map aesSub) [rc, 0, 0, 0]
      else if i % 8 = 4 then prev.map aesSub else prev
    aesExpand n (i + 1) (if i % 8 = 0 then aesXtime rc else rc) (xorBytes (l.getD 7 []) t :: l)

/-- The 15 round keys of an AES-256 key. -/
def aesKeys (key : List Byte) : List (List Byte) :=
  (pieces 4 (aesExpand 52 8 1 (pieces 4 key).reverse).reverse).map List.flatten

/-- ShiftRows over the 16 bytes of a state, column by column. -/
def aesShift (s : List Byte) : List Byte := (List.range 16).map fun i => s.getD ((i + 4 * (i % 4)) % 16) 0

/-- MixColumns of one column. -/
def aesMixColumn (c : List Byte) : List Byte :=
  let a (i : Nat) : Byte := c.getD (i % 4) 0
  (List.range 4).map fun i => aesXtime (a i) ^^^ (aesXtime (a (i + 1)) ^^^ a (i + 1)) ^^^ a (i + 2) ^^^ a (i + 3)

/-- One AES round with its key; the last leaves out MixColumns. -/
def aesRound (last : Bool) (s key : List Byte) : List Byte :=
  let t := aesShift (s.map aesSub)
  xorBytes (if last then t else (pieces 4 t).flatMap aesMixColumn) key

/-- The rounds after the first key. -/
def aesRounds : List (List Byte) → List Byte → List Byte
  | [], s => s
  | [k], s => aesRound true s k
  | k :: k2 :: ks, s => aesRounds (k2 :: ks) (aesRound false s k)

/-- AES-256 of a block under round keys. -/
def aesBlock (keys : List (List Byte)) (block : List Byte) : List Byte :=
  aesRounds (keys.drop 1) (xorBytes block (keys.headD []))

/-- The product in GF(2^128) of GCM, bit 0 of the standard the most significant: the bits of `x` from the first on, `n` of
them left. -/
def ghashMulBits (x : BitVec 128) : Nat → BitVec 128 → BitVec 128 → BitVec 128
  | 0, _, z => z
  | n + 1, v, z =>
    let z' := if x.getLsbD n then z ^^^ v else z
    ghashMulBits x n ((v >>> 1) ^^^ (if v.getLsbD 0 then BitVec.ofNat 128 (0xE1 * 2 ^ 120) else 0)) z'

/-- The product in GF(2^128) of GCM. -/
def ghashMul (x y : BitVec 128) : BitVec 128 := ghashMulBits x 128 y 0

/-- Bytes filled to whole blocks of 16. -/
def pad16 (m : List Byte) : List Byte := m ++ List.replicate ((16 - m.length % 16) % 16) 0

/-- GHASH under a hash key. -/
def ghash (h : BitVec 128) (m : List Byte) : BitVec 128 :=
  (pieces 16 m).foldl (fun y b => ghashMul (y ^^^ BitVec.ofNat 128 (beNat b)) h) 0

/-- Counter mode from counter `n` on, under the round keys and a 12-byte IV. -/
def gcmCtr (keys : List (List Byte)) (iv : List Byte) : Nat → List (List Byte) → List Byte
  | _, [] => []
  | n, b :: t => xorBytes b (aesBlock keys (iv ++ beBytes 4 n)) ++ gcmCtr keys iv (n + 1) t

/-- The tag of AES-256-GCM over additional data and a ciphertext. -/
def gcmTag (keys : List (List Byte)) (iv aad cipher : List Byte) : List Byte :=
  let h := BitVec.ofNat 128 (beNat (aesBlock keys (List.replicate 16 0)))
  let x := ghash h (pad16 aad ++ pad16 cipher ++ beBytes 8 (8 * aad.length) ++ beBytes 8 (8 * cipher.length))
  xorBytes (beBytes 16 x.toNat) (aesBlock keys (iv ++ beBytes 4 1))

/-- AES-256-GCM decryption: the plaintext, where the tag agrees. PRESUMED (log entry 71). -/
def gcmDecrypt (key iv aad cipher tag : List Byte) : Option (List Byte) :=
  let keys := aesKeys key
  if gcmTag keys iv aad cipher = tag then some (gcmCtr keys iv 2 (pieces 16 cipher)) else none

/-- The prime of P-384. -/
def p384P : Nat := 2 ^ 384 - 2 ^ 128 - 2 ^ 96 + 2 ^ 32 - 1
/-- The order of the base point of P-384. -/
def p384N : Nat := 0xFFFFFFFFFFFFFFFFFFFFFFFFFFFFFFFFFFFFFFFFFFFFFFFFC7634D81F4372DDF581A0DB248B0A77AECEC196ACCC52973
/-- The constant b of P-384. -/
def p384B : Nat := 0xB3312FA7E23EE7E4988E056BE3F82D19181D9C6EFE8141120314088F5013875AC656398D8A2ED19D2A85C8EDD3EC2AEF
/-- The base point of P-384. -/
def p384G : Nat × Nat :=
  (0xAA87CA22BE8B05378EB1C71EF320AD746E1D3B628BA79B9859F741E082542A385502F25DBF55296C3A545E3872760AB7,
   0x3617DE4A96262C6F5D9E98BF9292DC29F8F41DBD289A147CE9DA3113B5F0B8C00A60B1CE1D7E819D7A431D7C90EA0E5F)

/-- `a` to the power `e` modulo `m`, over the `n` low bits of `e`. -/
def powMod (m a e : Nat) : Nat → Nat
  | 0 => 1 % m
  | n + 1 =>
    let r := powMod m a (e / 2) n
    let r2 := r * r % m
    if e % 2 = 1 then r2 * a % m else r2

/-- The inverse modulo a prime of at most 384 bits. -/
def invMod (m a : Nat) : Nat := powMod m (a % m) (m - 2) 384

/-- `a − b` modulo `m`, for residues. -/
def subMod (m a b : Nat) : Nat := (a + (m - b % m)) % m

/-- A point of P-384, none the point at infinity. -/
abbrev P384 := Option (Nat × Nat)

/-- The sum of two points. -/
def p384Add (a b : P384) : P384 :=
  match a, b with
  | none, q => q
  | q, none => q
  | some (x1, y1), some (x2, y2) =>
    if x1 = x2 ∧ (y1 + y2) % p384P = 0 then none
    else
      let l := if x1 = x2 then (3 * x1 * x1 + (p384P - 3)) * invMod p384P (2 * y1) % p384P
        else subMod p384P y2 y1 * invMod p384P (subMod p384P x2 x1) % p384P
      let x3 := subMod p384P (subMod p384P (l * l) x1) x2
      some (x3, subMod p384P (l * subMod p384P x1 x3) y1)

/-- A multiple of a point, over the `n` low bits of the factor. -/
def p384Mul (q : P384) (k : Nat) : Nat → P384
  | 0 => none
  | n + 1 =>
    let r := p384Mul q (k / 2) n
    let r2 := p384Add r r
    if k % 2 = 1 then p384Add r2 q else r2

/-- Verification of an ECDSA P-384 signature (r, s) over a message hashed with SHA-384, under a public key (x, y).
PRESUMED (log entry 71). -/
def ecdsaVerify (key : Nat × Nat) (m : List Byte) (r s : Nat) : Bool :=
  let z := beNat (sha384 m)
  let onCurve := key.1 < p384P && key.2 < p384P
    && key.2 * key.2 % p384P = (key.1 ^ 3 + (p384P - 3) * key.1 + p384B) % p384P
  if 0 < r ∧ r < p384N ∧ 0 < s ∧ s < p384N ∧ onCurve then
    let w := invMod p384N s
    match p384Add (p384Mul (some p384G) (z * w % p384N) 384) (p384Mul (some key) (r * w % p384N) 384) with
    | some (x, _) => x % p384N = r
    | none => false
  else false

end Sys2Proof.Machine
end

