-- ==== Sys2Proof/Machine/FabricDesign.lean ====
section
/-! DEFINITION. What a loaded design does: multiplexers (R440), tables and carry (R435, R438), flip-flops (R436), L16 registers (R441) and
legacy lines (R442), and their clock edges (R448, R449). -/

namespace Sys2Proof.Machine

/-- R440: a native multiplexer: 0 for a field of 0 or above the number of its inputs, else the input of that number. -/
def muxOut (v : Source → Bool) (inputs : List Source) (field : Nat) : Bool :=
  if field = 0 then false
  else match inputs[field - 1]? with
    | some x => v x
    | none => false

/-- R441: whether a region is in compatibility mode. -/
def regionCompat (s : State) (r : Nat) : Bool := controlField s r 0 1 = 1

/-- R436: the settings of a flip-flop of a cell. -/
def flopDesign (x : CellDesign) (second : Bool) : FlopDesign := if second then x.second else x.first

/-- The place of a flip-flop among the module's. -/
def flopPlace (r cell : Nat) (second : Bool) : Nat := 61440 * r + 2 * cell + (if second then 1 else 0)

/-- The place of an L16 segment's register among the module's. -/
def segPlace (r n : Nat) : Nat := 2 ^ 20 * r + n

/-- R492, R493: the value of a flip-flop or segment register: 0 in a blank region, INIT while its region is isolated, else its own. -/
def regValue (s : State) (r : Nat) (init own : Bool) : Bool :=
  let x := getRegion s r
  if x.code = .blank ∨ x.code = .incomplete then false else if x.isolated then init else own

/-- R435: the number that the table's inputs form. -/
def lutIndex (v : Source → Bool) (cell n : Nat) : Nat :=
  ((List.range n).map fun k => if v (.wire (.lutIn cell k)) then 2 ^ k else 0).sum

/-- R435: O6: the LUT6, or the LUT5 that stands where I5 is 1. -/
def lutO6 (v : Source → Bool) (x : CellDesign) (cell : Nat) : Bool :=
  x.table.getLsbD (if x.split then 32 + lutIndex v cell 5 else lutIndex v cell 6)

/-- R438: the cell whose carry-out enters a cell in the middle of a chain: the one before it in its cluster, or cell 15 of the cluster one
row to the south in its logic column; a column's southernmost cell has none. -/
def carryBefore (cell : Nat) : Option Nat :=
  if cell % 16 ≠ 0 then some (cell - 1)
  else if cell / 16 % 120 = 119 then none
  else some (cell + 31)

/-- R438: the carry-in of a cell. -/
def carryInto (v : Source → Bool) (x : CellDesign) (cell : Nat) : Bool :=
  match x.start, carryBefore cell with
  | some .one, _ => true
  | some .routing, _ => v (.wire (.carryIn cell))
  | none, some c => v (.carry c)
  | some .zero, _ => false
  | none, none => false

/-- R442: the sites of a line that the region's frames connect. -/
def lineSites (s : State) (r line : Nat) : List Nat :=
  (((logicFrames s r).zipIdx.flatMap fun f => Config.frameSites f.2 f.1).filter fun x => x / 8 = line).map (· % 8)

/-- R442, R443, R493: a legacy line: what its connected site drives while its output enable is asserted, else what its keeper holds. A
native region's lines read 0. -/
def lineValue (s : State) (r : Nat) (v : Source → Bool) (line : Nat) : Bool :=
  let keeper := mapGet false s.fabric.keepers (64 * r + line)
  if ¬ regionCompat s r then false
  else if mapGet false s.fabric.cut (64 * r + line) ∨ (getRegion s r).isolated then keeper
  else match (lineSites s r line).find? fun k => v (.wire (.siteEnable line k)) with
    | some k => v (.wire (.siteData line k))
    | none => keeper

/-- A source of a region, from the values `v` of the region's sources and `far` of other regions' wires. O5 of a LUT6 and what the
fabric does not make are open. DEDUCED (log entry 60). -/
def sourceValue (s : State) (r : Nat) (v : Source → Bool) (far : Nat → Wire → Bool) (x : Source) : Bool :=
  let cellOf (c : Nat) := Config.cellDesign (logicFrames s r) c
  match x with
  | .wire w =>
    let out := muxOut v (Config.muxInputs r w) (Config.muxField (logicFrames s r) w)
    match w with
    | .l16 n =>
      let g := Config.segmentDesign (logicFrames s r) n
      if regionCompat s r && g.enabled then regValue s r g.init (mapGet false s.fabric.segs (segPlace r n)) else out
    | _ => out
  | .o6 c => lutO6 v (cellOf c) c
  | .o5 c => if (cellOf c).split then (cellOf c).table.getLsbD (lutIndex v c 5) else Config.openSignal s.free r x
  | .flop c k => regValue s r (flopDesign (cellOf c) k).init (mapGet false s.fabric.flops (flopPlace r c k))
  | .carry c => (Config.carryCell (v (.o6 c)) (v (.o5 c)) (carryInto v (cellOf c) c)).2
  | .legacy l => lineValue s r v l
  | .ram b portB i =>
    let y := mapGet {} s.fabric.rams (60 * r + b)
    (if portB then y.latchB else y.latchA).testBit i
  | .pin k =>
    let pin := (regionPins r).getD k 320
    if s.security.extest then s.security.captured.getLsbD pin
    else !(mapGet false s.fabric.pinFault pin) && Config.openSignal s.free r x
  | .crossing r' w n => if (getRegion s r').isolated then crossingValue s r' n else far r' w
  | .outside _ => Config.openSignal s.free r x

/-- The value of a source. The fuel is spent only by a loop of wires without a flip-flop, whose value is open. DESIGN CHOICE (log entry
60). -/
def signal (s : State) : Nat → Nat → Source → Bool
  | 0, r, x => Config.openSignal s.free r x
  | n + 1, r, x => sourceValue s r (signal s n r) (fun r' w => signal s n r' (.wire w)) x

/-- More than the wires, tables and carry bits of all regions. -/
def signalDepth : Nat := 134217728

/-- The value of a source now. -/
def signalNow (s : State) (r : Nat) (x : Source) : Bool := signal s signalDepth r x

/-- R493: the crossings of a region whose signal is 1 now. -/
def crossingsHigh (s : State) (r : Nat) : List Nat := (List.range 8192).filter fun n => signalNow s r (.wire (Config.crossingWire r n))

/-- R454: a probe point of a quadrant: 0 where it is unconnected, and its crossing's isolation value while its region is loaded. -/
def probePoint (s : State) (q k : Nat) : Bool :=
  let at_ := Config.probePlace q k
  if (getRegion s at_.1).isolated then crossingValue s at_.1 at_.2
  else match Config.probeSource (logicFrames s at_.1) k with
    | some x => signalNow s at_.1 x
    | none => false

/-- R454: the point that PROBE_SEL names for output `n` of a quadrant. -/
def probeSelect (s : State) (q n : Nat) : Nat :=
  dictGet s ((if q = 0 then keyProbeSelFq0 else if q = 1 then keyProbeSelFq1 else if q = 2 then keyProbeSelFq2 else keyProbeSelFq3) + n)

/-- R454: probe output `n`, of the quadrant that PROBE_QUAD names: what probe pin and trace bit `n` carry. -/
def probeOutput (s : State) (n : Nat) : Bool :=
  let q := dictGet s (keyProbeQuad0 + n)
  probePoint s q (probeSelect s q n)

/-- R454, R488: how probe pin `n` stands: it drives its output while PROBE_PINS_EN is 1 and no full load runs, and is else high-Z with a
weak pull-down. -/
def probePin (s : State) (n : Nat) : PinDrive :=
  if s.power.off.getLsbD 12 ∨ s.power.mode = .off then .highZ
  else if dictGet s keyProbePinsEn = 1 ∧ dictGet s keyFabricState ≠ 1 ∧ ¬ mapGet false s.fabric.pinFault (320 + n) then .boundary (probeOutput s n)
  else .pull 3

/-- R435: the D input of a flip-flop. -/
def flopData (s : State) (r cell : Nat) (second : Bool) : Bool :=
  let x := Config.cellDesign (logicFrames s r) cell
  match (flopDesign x second).d with
  | .o6 => signalNow s r (.o6 cell)
  | .o5 => signalNow s r (.o5 cell)
  | .direct => signalNow s r (.wire (.direct cell second))
  | .carrySum =>
    (Config.carryCell (signalNow s r (.o6 cell)) (signalNow s r (.o5 cell)) (carryInto (signalNow s r) x cell)).1

/-- R436: a flip-flop after an instant: set-reset goes before D and, where it is asynchronous, needs no edge; a disabled clock keeps. -/
def flopNext (f : FlopDesign) (edge enable setReset d own : Bool) : Bool :=
  if setReset && (edge || f.async) then f.set else if edge && enable then d else own

/-- R447, R449: whether a global clock may have edges: its PLL is locked, and no schedule slip gates it (R422). -/
def clockRuns (s : State) (g : Nat) : Bool :=
  (match Config.clockPll (clockFrames s) g with
    | some k => (dictGet s keyFpllLocked).testBit k
    | none => true)
    && !(s.lockstep.stalled.isSome && (gclkTickLocked s).testBit g)

/-- R448, R483: whether a clock of a region has its active edge, rising or falling, in this step. When a global clock has an edge is open.
DESIGN CHOICE (log entry 60). -/
def clockEdge (s : State) (r : Nat) (k : ClockDesign) (falling : Bool) : Bool :=
  let g := controlField s r (8 + 5 * (k.slot % 12)) 5
  k.falling = falling && regionClocked s r && (controlField s r 68 12).testBit (k.slot % 12) && clockRuns s g
    && Config.clockEdge s.free g falling

/-- A cell's flip-flop after the edges of a step. -/
def stepFlop (s : State) (r : Nat) (falling : Bool) (cell : Nat) (second : Bool) : Bool :=
  let f := flopDesign (Config.cellDesign (logicFrames s r) cell) second
  let control (want : Option Bool) (none : Bool) (w : Bool → Wire) : Bool :=
    match want with
    | some k => signalNow s r (.wire (w k))
    | Option.none => none
  flopNext f (clockEdge s r (Config.clusterClock (logicFrames s r) (cell / 16) f.clock) falling)
    (control f.enable true (.enable (cell / 16))) (control f.setReset false (.setReset (cell / 16)))
    (flopData s r cell second) (mapGet false s.fabric.flops (flopPlace r cell second))

/-- R441: a segment's register after the edges of a step. -/
def stepSegment (s : State) (r : Nat) (falling : Bool) (n : Nat) : Bool :=
  let g := Config.segmentDesign (logicFrames s r) n
  if regionCompat s r && g.enabled && clockEdge s r g.clock falling
  then muxOut (signalNow s r) (Config.muxInputs r (.l16 n)) (Config.muxField (logicFrames s r) (.l16 n))
  else mapGet false s.fabric.segs (segPlace r n)

/-- The flip-flops, segment registers and keepers of every region whose clocks run, after the edges of one polarity: each takes what
the signals before the edges give. -/
def fabricEdges (s : State) (falling : Bool) : State :=
  let live := (List.range 64).filter (regionClocked s)
  let flops := live.foldl (fun m r => (List.range 30720).foldl (fun m c => [false, true].foldl (fun m k =>
    mapSet false m (flopPlace r c k) (stepFlop s r falling c k)) m) m) s.fabric.flops
  let segs := live.foldl (fun m r => (List.range segmentTotal).foldl (fun m n =>
    mapSet false m (segPlace r n) (stepSegment s r falling n)) m) s.fabric.segs
  let keepers := live.foldl (fun m r => (List.range 64).foldl (fun m l =>
    mapSet false m (64 * r + l) (lineValue s r (signalNow s r) l)) m) s.fabric.keepers
  { s with fabric := { s.fabric with flops := flops, segs := segs, keepers := keepers }, free := s.free + 1 }

/-- The fabric in a step on an empty queue: the rising edges of its clocks, then the falling ones. DESIGN CHOICE (log entry 60). -/
def fabricTick (s : State) : State :=
  if (List.range 64).any (regionClocked s) then fabricEdges (fabricEdges s false) true else s

end Sys2Proof.Machine
end

