-- ==== Sys2Proof/Machine/QueueCmds.lean ====
section
/-! DEFINITION. The commands of BAR0, of the queue manager, of the two translations and of the PCIe endpoint (R272 to R305, R591,
R592). -/

namespace Sys2Proof.Machine

/-! The global registers. -/

/-- R294: bits of MOD_EVENT cleared. -/
def clearModEvent (s : State) (v : Nat) : State :=
  { s with bar0 := { s.bar0 with modEvent := s.bar0.modEvent &&& ~~~ BitVec.ofNat 6 v } }

/-- R294: MOD_EVENT_EN written; vector 0 is sent where a set bit becomes enabled and none was. -/
def enableModEvent (s : State) (v : Nat) : State :=
  let old := s.bar0.modEventEn
  let s1 := { s with bar0 := { s.bar0 with modEventEn := BitVec.ofNat 6 v } }
  if s.bar0.modEvent &&& old = 0 ∧ s.bar0.modEvent &&& BitVec.ofNat 6 v ≠ 0 then sendVector s1 0 else s1

/-- R299: a whole entry presented through TT_DATA: written or refused, and TT_INDEX counts on. -/
def presentEntry (s : State) (e : Nat) : State :=
  let i := s.bar0.ttIndex.toNat
  let s1 := if ttRefused (ttShape s) i e then raiseModEvent s 16 else ttStore s i e
  { s1 with bar0 := { s1.bar0 with ttIndex := s1.bar0.ttIndex + 1 } }

/-- R299: a write of TT_DATA that presents an entry: whole, or its high half beside the latched low half. -/
def ttDataWrite (s : State) (whole : Bool) (value : U64) : State :=
  presentEntry s (if whole then value.toNat else (value.toNat % 2 ^ 32) <<< 32 + s.bar0.ttLow.toNat)

/-- R289: a pending vector that nothing masks any more is sent. -/
def releaseVector (s : State) (v : Nat) : State :=
  let e := mapGet {} s.bar0.msix v
  if e.pending then sendVector { s with bar0 := { s.bar0 with msix := mapSet {} s.bar0.msix v { e with pending := false } } } v else s

/-- R289: a vector's control word written; unmasking a pending vector sends it. -/
def setMask (s : State) (v : Nat) (control : U32) : State :=
  let e := mapGet {} s.bar0.msix v
  releaseVector { s with bar0 := { s.bar0 with msix := mapSet {} s.bar0.msix v { e with control := control } } } v

/-- R289: a 32-bit word of the MSI-X table written: address low, address high, data, control. -/
def msixWrite (s : State) (off : Nat) (w : U32) : State :=
  let v := off / 16
  let e := mapGet {} s.bar0.msix v
  let put (e : MsixEntry) : State := { s with bar0 := { s.bar0 with msix := mapSet {} s.bar0.msix v e } }
  match off % 16 / 4 with
  | 0 => put { e with addr := BitVec.ofNat 64 (e.addr.toNat / 2 ^ 32 * 2 ^ 32 + w.toNat) }
  | 1 => put { e with addr := BitVec.ofNat 64 (w.toNat <<< 32 + e.addr.toNat % 2 ^ 32) }
  | 2 => put { e with data := w }
  | _ => setMask s v w

/-- R279, R538: a TAIL_DB or a HEAD_DB; during the unseal sequence it is ignored. DEDUCED (log entry 34). -/
def doorbell (s : State) (act : State → State) : State :=
  if isUnsealing s then barError s else act (hostTraffic (wakeS1 s))

/-- A 64-bit register with one 32-bit half, or all of it, replaced. -/
def halves (old : Nat) (high size8 : Bool) (v : U64) : Nat :=
  if size8 then v.toNat
  else if high then (v.toNat % 2 ^ 32) <<< 32 + old % 2 ^ 32
  else old / 2 ^ 32 * 2 ^ 32 + v.toNat % 2 ^ 32

/-- R298: whether BAR0 accepts an access. -/
def bar0Ok (off size : Nat) : Bool :=
  (size = 4 || size = 8) && off % size = 0
    && (off < 0x2000 || (0x10000 ≤ off && off < 0x18100) || (0x100000 ≤ off && off < 0x200000) || (0x1000000 ≤ off && off < 0x1400000))

/-- R297, R298: a write BAR0 accepts, by its offset. DEDUCED (log entry 34). -/
def bar0Write (s : State) (off : Nat) (size8 : Bool) (v : U64) : State :=
  if off = 0x8 then clearModEvent s v.toNat
  else if off = 0x10 then enableModEvent s v.toNat
  else if off = 0x20 ∨ off = 0x24 then
    { s with bar0 := { s.bar0 with bar2Base := BitVec.ofNat 63 (halves s.bar0.bar2Base.toNat (off = 0x24) size8 v) } }
  else if off = 0x1000 ∨ off = 0x1004 then
    { s with bar0 := { s.bar0 with ttIndex := BitVec.ofNat 64 (halves s.bar0.ttIndex.toNat (off = 0x1004) size8 v) } }
  else if off = 0x1008 then
    if size8 then ttDataWrite s true v else { s with bar0 := { s.bar0 with ttLow := v.setWidth 32 } }
  else if off = 0x100C then ttDataWrite s false v
  else if 0x10000 ≤ off ∧ off < 0x18000 then
    let s1 := msixWrite s (off - 0x10000) (v.setWidth 32)
    if size8 then msixWrite s1 (off - 0x10000 + 4) ((v >>> 32).setWidth 32) else s1
  else if 0x100000 ≤ off ∧ off < 0x200000 then ringWrite s (Fin.ofNat 16384 ((off - 0x100000) / 64)) ((off - 0x100000) % 64) size8 v
  else if 0x1000000 ≤ off ∧ off < 0x1400000 then
    let r := (off - 0x1000000) / 256
    match (off - 0x1000000) % 256 with
    | 0 => doorbell s fun s => tailDoorbell s r v.toNat
    | 8 => doorbell s fun s => headDoorbell s r v.toNat
    | _ => s
  else s

/-- R294: the 32-bit word at an offset of the global registers. -/
def globalWord (b : Bar0) (off : Nat) : Nat :=
  match off with
  | 0x00 => 0x36395247
  | 0x08 => b.modEvent.toNat
  | 0x10 => b.modEventEn.toNat
  | 0x18 => b.ringErrFirst.toNat
  | 0x20 => b.bar2Base.toNat % 2 ^ 32
  | 0x24 => b.bar2Base.toNat / 2 ^ 32
  | 0x28 => b.barErrors
  | 0x2C => b.dbIgnored
  | 0x30 => b.qmDropped
  | _ => 0

/-- R289: the 32-bit word at an offset of the MSI-X table. -/
def msixWord (b : Bar0) (off : Nat) : Nat :=
  let e := mapGet {} b.msix (off / 16)
  match off % 16 / 4 with
  | 0 => e.addr.toNat % 2 ^ 32
  | 1 => e.addr.toNat / 2 ^ 32
  | 2 => e.data.toNat
  | _ => e.control.toNat

/-- R289: the 32-bit word at an offset of the pending-bit array. -/
def pendingWord (b : Bar0) (off : Nat) : Nat :=
  ((List.range 32).map fun i => if (mapGet {} b.msix (8 * off + i)).pending then 2 ^ i else 0).sum

/-- R278: the 32-bit word at an offset of a ring's doorbell block: the doorbells read 0. -/
def doorbellWord (x : Ring) (off : Nat) : Nat := if off = 16 then ringHead x else if off = 20 then ringTail x else 0

/-- R299: entry TT_INDEX of the translation table as TT_DATA reads it, at port QM; 0 beyond the table's end. -/
def ttDataRead (s : State) : State × Nat :=
  let i := s.bar0.ttIndex.toNat
  let pa := (ttShape s).base + 8 * i
  if (ttShape s).entries ≤ i then (s, 0)
  else
    let r := smReadHalf s (pa / 64 * 64) 3 { symbols := 0, asRead := [] }
    (r.1, leNat ((r.2.1.drop (pa % 64)).take 8))

/-- R12, R294, R297 to R299: what the 32-bit word at a mapped offset of BAR0 reads as; `tt` is what TT_DATA reads as. -/
def bar0Word (s : State) (tt off : Nat) : Nat :=
  if off < 0x1000 then globalWord s.bar0 off
  else if off = 0x1000 then s.bar0.ttIndex.toNat % 2 ^ 32
  else if off = 0x1004 then s.bar0.ttIndex.toNat / 2 ^ 32
  else if off = 0x1008 then tt % 2 ^ 32
  else if off = 0x100C then tt / 2 ^ 32
  else if off < 0x10000 then 0
  else if off < 0x18000 then msixWord s.bar0 (off - 0x10000)
  else if off < 0x18100 then pendingWord s.bar0 (off - 0x18000)
  else if off < 0x200000 then ringFld (getRing s ((off - 0x100000) / 64)) (8 * (off % 64)) 32
  else doorbellWord (getRing s ((off - 0x1000000) / 256)) (off % 256)

/-- R298: a BAR0 read of a mapped offset completes with the data of its fields. -/
def bar0Read (s : State) (off size : Nat) : State :=
  let r := if 0x1008 ≤ off ∧ off < 0x1010 then ttDataRead s else (s, 0)
  let word (o : Nat) : List Byte := natBytes 4 (bar0Word s r.2 o)
  { r.1 with out := r.1.out ++ [.barData (word off ++ (if size = 8 then word (off + 4) else [])) false] }

/-- R298: a BAR0 write to a field. -/
def execBarRegisterWrite (offset : Nat) (size8 : Bool) (value : U64) (s : State) : Result :=
  if bar0Ok offset (if size8 then 8 else 4) then .next (bar0Write (wakeS1 s) offset size8 value) else .next s

/-- R298: any other BAR0 access: a read gets zeros, a write is dropped, and BAR_ERRORS counts it. A read that BAR0 accepts gets what
its fields hold, since the table has no row of its own for it; a write that it accepts is BAR_REGISTER_WRITE. DESIGN CHOICE (log entry
92). -/
def execBar0InvalidAccess (isWrite : Bool) (offset size : Nat) (s : State) : Result :=
  if bar0Ok offset size then .next (if isWrite then s else bar0Read (wakeS1 s) offset size)
  else
    let s1 := barError (wakeS1 s)
    .next (if isWrite then s1 else { s1 with out := s1.out ++ [.barData (List.replicate size 0) false] })

/-- R294: MOD_EVENT bits written 1 are cleared. -/
def execModEventClear (value : U32) (s : State) : Result := .next (clearModEvent (wakeS1 s) value.toNat)

/-- R294: MOD_EVENT_EN written. -/
def execModEventEnable (value : U32) (s : State) : Result := .next (enableModEvent (wakeS1 s) value.toNat)

/-- R299: TT_DATA written whole, or its high half. -/
def execTtDataWrite (whole : Bool) (value : U64) (s : State) : Result := .next (ttDataWrite (wakeS1 s) whole value)

/-- R299: a 4-byte write of TT_DATA's low half latches it. -/
def execTtDataLowLatch (value : U32) (s : State) : Result :=
  .next { wakeS1 s with bar0 := { s.bar0 with ttLow := value } }

/-- R289: software clears a vector's mask bit. -/
def execMsixUnmask (vector : Fin 2048) (s : State) : Result :=
  .next (setMask (wakeS1 s) vector.val ((mapGet {} s.bar0.msix vector.val).control &&& ~~~ (1 : U32)))

/-! Rings. -/

/-- R274: a context write that sets EN from 0 to 1. -/
def execRingEnable (r : RingId) (size8 : Bool) (value : U64) (s : State) : Result :=
  if ¬ ringEn (getRing s r.val) ∧ value.getLsbD 0 then .next (ringWrite (wakeS1 s) r 0 size8 value) else .next s

/-- R275: a context write that clears EN. -/
def execRingDisable (r : RingId) (size8 : Bool) (value : U64) (s : State) : Result :=
  if ringEn (getRing s r.val) ∧ ¬ value.getLsbD 0 then .next (ringWrite (wakeS1 s) r 0 size8 value) else .next s

/-- R276: a context write of 1 to ERR that keeps EN. -/
def execRingErrClear (r : RingId) (size8 : Bool) (value : U64) (s : State) : Result :=
  let x := getRing s r.val
  if ringErr x ∧ value.getLsbD 1 ∧ value.getLsbD 0 = ringEn x then .next (ringWrite (wakeS1 s) r 0 size8 value) else .next s

/-- R279: TAIL_DB. -/
def execTailDb (r : RingId) (value : U32) (s : State) : Result := .next (doorbell s fun s => tailDoorbell s r.val value.toNat)

/-- R279: HEAD_DB. -/
def execHeadDb (r : RingId) (value : U32) (s : State) : Result := .next (doorbell s fun s => headDoorbell s r.val value.toNat)

/-- R283: the fetch of a ring's next entry starts. -/
def execRingFetch (r : RingId) (s : State) : Result := .next (startFetch s r)

/-- R275, R283: the fetch of a ring's entry completes, or the read of a discarded entry for its COOKIE; `answer` is the host's, for
ring memory in host memory. -/
def execRingFetchDone (r : RingId) (answer : ReadAnswer) (s : State) : Result :=
  match finishRequest s (.ringFetch r) answer with
  | none =>
    match finishRequest s (.ringDiscard r) answer with
    | none => .next s
    | some (s1, _, a) => .next (cookieRead s1 r a)
  | some (s1, _, a) =>
    match (getRing s1 r.val).fetching with
    | some i => .next (fetchAnswered s1 r i a)
    | none => .next s1

/-- R284: the copy of a claimed entry into the claimer's core memory ends: the granule is marked complete, HEAD advances and the
claim retires with its slot number. -/
def claimDone (s : State) (r : Nat) (x : Ring) (k : Claim) (rest : List Claim) : State :=
  let d : Range := { base := k.dest, rowBytes := 64, pitch := 0, rows := 1 }
  let c := getCore s k.core
  let w := writeRows c.mem [(k.dest, k.entry.bytes)] k.entry.poison
  let s1 := setCore s k.core (coreEndWrite { c with mem := w.1, cc := dcacheDrop c.cc d } (.queueManager (Fin.ofNat 16384 r)) .whole d)
  let s2 := countEvent s1 .core k.core.val 0x32 {} w.2
  let x1 := { x with claims := rest }
  let s3 := setRing s2 r (if k.stale then x1 else ringSet x1 160 17 (headPlus x 1))
  let th := getThread s3 k.core k.thread
  xRetire s3 k.core k.thread 192 k.rd (insnInfo th (decode32 th.word)) (BitVec.ofNat 64 (k.entry.index % ringSize x))

/-- R175, R177, R284: a claim's copy is made under a write hold of the queue manager: one that begins when no other owner holds the
destination and a hold of the core is free, and ends with the copy marked complete. -/
def execClaimCopyDone (r : RingId) (s : State) : Result :=
  let x := getRing s r.val
  match x.claims with
  | [] => .next s
  | k :: rest =>
    let d : Range := { base := k.dest, rowBytes := 64, pitch := 0, rows := 1 }
    let m := (getCore s k.core).mem
    if holdsFree m 1 ∧ mayWrite m (.queueManager r) d then
      .next (claimDone (setCore s k.core (coreBeginWrite (getCore s k.core) (.queueManager r) .whole d)) r.val x k rest)
    else .next s

/-- R286: the posts of a ring that stopped: each poster waits again and posts anew after the restart; the queue manager keeps its
own. DEDUCED (log entry 29). -/
def dropPosts (s : State) (r : RingId) : State :=
  let x := getRing s r.val
  let s1 := { s with net := { s.net with requests := s.net.requests.filter fun q => q.who ≠ .ringPost r } }
  let s2 := setRing s1 r.val { x with posts := x.posts.filter fun p => p.poster.isNone }
  x.posts.foldl (fun s p =>
    match p.poster with
    | none => s
    | some (c, t, _) =>
      let task : Bool := match decode32 (getThread s c t).word with | .xgrn _ true _ _ _ => true | _ => false
      let s3 := modThread s c t fun th => { th with inFlight := false, state := if task then .taskWait else .dataStall }
      if task then ccEvent s3 c t 0x4C 1 else s3) s2

/-- R286, R287: the write of a ring's oldest post is delivered, or fails. -/
def execQdoneWriteDone (r : RingId) (s : State) : Result :=
  match finishRequest s (.ringPost r) (.data [] 0) with
  | none => .next s
  | some (s1, _, a) =>
    let x := getRing s1 r.val
    match x.posts with
    | [] => .next s1
    | p :: rest =>
      match a with
      | .data _ _ =>
        let s2 := setRing (if ringProducer x = 2 then noteArrival s1 r.val else s1) r.val (postDelivered x p rest)
        let s3 := match p.ack with | some f => send s2 (mkResponse f 0x82 [] 0 false) | none => s2
        match p.poster with
        | some (c, t, rd) =>
          let th := getThread s3 c t
          .next (xRetire s3 c t 193 rd (insnInfo th (decode32 th.word)) 0)
        | none => .next s3
      | _ => .next (stopRing (dropPosts s1 r) r.val 2)

/-- R591: the queue manager writes its next completion or mailbox response. -/
def execQmCompletionWrite (s : State) : Result := .next (writeCompletion s)

/-- R287: TAIL sets out for TAILWB_ADDR after the entry; a failed translation stops the ring. The write is due until it has left the
PCIe port. -/
def execTailWriteback (r : RingId) (translated : Bool) (s : State) : Result :=
  let x := getRing s r.val
  if ¬ x.writebackDue ∨ ringErr x ∨ (requestOf s.net (.ringTail r)).isSome then .next s
  else if ¬ translated then .next (stopRing s r.val 5)
  else
    let a := ringFld x 320 57 / 8 * 8
    let bytes := List.replicate (a % 128) 0 ++ natBytes 8 (ringTail x) ++ List.replicate (120 - a % 128) 0
    .next (submit s (.ringTail r) true (2 ^ 61 + a / 128 * 128) (byteMask (a % 128) 8) bytes 0 false (ringPasid x))

/-- R287, R288: a due interrupt of a completion ring is sent, after the write-back. -/
def execMsixSend (r : RingId) (s : State) : Result :=
  let x := getRing s r.val
  if x.due ∧ ¬ x.writebackDue then .next (sendVector (setRing s r.val { x with due := false }) (ringFld x 34 11)) else .next s

/-- R288: COAL_TIME has passed since the first unsignalled entry. -/
def execCoalTimer (r : RingId) (s : State) : Result :=
  let x := getRing s r.val
  if ringFld x 6 1 = 1 ∧ ringFld x 280 16 ≠ 0 ∧ x.unsignalled ≠ 0 then .next (setRing s r.val { x with due := true, unsignalled := 0 })
  else .next s

/-- R290: the next entry of a forwarding ring goes to its peer. -/
def execRemoteForward (r : RingId) (s : State) : Result := .next (forwardNext s r.val)

/-- R291, R292: a forwarded entry reaches the queue manager. -/
def execForwardedEntryReceive (r : RingId) (sender : BitVec 15) (senderRing : RingId) (index : Nat) (entry : List Byte) (s : State) :
    Result :=
  let isIt (g : Flight) : Bool :=
    let f := g.flit
    f.opcode = 0x02 && flitDst f = (7, 0, 1) && nodeKind f.srcX.val f.srcY.val = .askua
      && f.addr.toNat % 2 ^ 14 = r.val && bits f.addr.toNat 14 17 = index && f.payload.take 64 = entry
      && (getCorner s.links (f.srcX = 14)).inbound.any fun q =>
        q.tag = f.tag.toNat && q.sys = sender.toNat && q.remoteTag = senderRing.val
  match s.net.flits.find? isIt with
  | none => .next s
  | some g =>
    match takeFlit s.fuses s.net g.flit with
    | none => .next s
    | some n => .next (takeForwarded s r sender.toNat senderRing.val index entry g.flit n)

/-! Stacked-memory translation. -/

/-- R233, R370: a request whose translation fails is answered: at its caravan, at the module that sent it, or beside it. -/
def translationFailed (s : State) (r : Request) (a : ReadAnswer) : State :=
  match r.who with
  | .caravanWrite v line => lineWriteAnswered { s with net := dropRequest s.net r.id } v line (r.poison ≠ 0) a
  | .corner east =>
    let c := getCorner s.links east
    let s1 := { s with net := dropRequest s.net r.id }
    match c.inbound.find? fun q => q.tag = r.id with
    | none => s1
    | some q =>
      let s2 := { s1 with links := setCorner s1.links east { c with inbound := c.inbound.filter fun x => x.tag ≠ r.id } }
      routePacket s2
        { opcode := if q.opcode = 0x01 then 0x81 else 0x82, dstSys := q.sys, srcSys := (sysAddr s).getD 0, srcEp := 0, dstEp := q.ep
          rspace := 0, vc := 0, tag := q.remoteTag, poison := 0, err := true, ackReq := false, be := none, lenM1 := 0
          addr := (match a with | .missed => 1 | _ => 2), data := [] } none
  | _ => answerRequest s r.id a

/-- What a translation permits a request (R233, R256). -/
def leafPermit (l : TtLeaf) (r : Request) : Option ReadAnswer :=
  if (r.write ∧ ¬ l.writable) ∨ (r.prefetch ∧ l.noPrefetch) then some .denied else none

/-- R592: a translated request sets out to the tower that holds its line; a write without an acknowledgement is then done with. -/
def sendStacked (s : State) (r : Request) (pa : Nat) : State :=
  let line := pa / 128 * 128
  let ack := (r.flit.map (·.ackReq)).getD true
  let f := mkFlit (requesterEp s r.who) (stackEp line) (if r.write then clsWr else clsReq) (if r.write then 0x02 else 0x01) r.id line r.be r.bytes
    r.poison (r.write && ack)
  let s1 := launchRequest { s with net := setRequest s.net r.id fun r => { r with phys := some line } } r.id f
  if r.write ∧ ¬ ack then { s1 with net := dropRequest s1.net r.id } else s1

/-- R234, R299: a line of space 6 read at the translation block: entries beyond the table's end read 0. -/
def readEntries (s : State) (r : Request) (reads : List HalfRead) : State :=
  let t := ttShape s
  let i := bits r.addr.toNat 3 33 / 16 * 16
  let clean : HalfRead := { symbols := 0, asRead := [] }
  if t.entries ≤ i then answerRequest s r.id (.data (List.replicate 128 0) 0)
  else
    let a := smReadHalf s (t.base + 8 * i) 3 (reads.headD clean)
    let b := smReadHalf a.1 (t.base + 8 * i + 64) 3 ((reads.drop 1).headD clean)
    answerRequest { b.1 with net := setRequest b.1.net r.id fun r => { r with phys := some (t.base + 8 * i) } } r.id
      (.data (a.2.1 ++ b.2.1) (touchedPoison ((if a.2.2 then 1 else 0) + (if b.2.2 then 2 else 0)) r.be))

/-- R299, R592: the oldest request that waits at the translation block is served; `reads` are what the check code finds in the halves
that are read for it. -/
def execTranslationDone (s : State) (reads : List HalfRead := []) : Result :=
  match s.queues.translating with
  | [] => .next s
  | id :: rest =>
    let s0 := { s with queues := { s.queues with translating := rest } }
    match findRequest s.net id with
    | none => .next s0
    | some r =>
      if spaceOf r.addr.toNat = 6 then .next (readEntries s0 r reads)
      else
        let t := translateBy s0 (r.addr.toNat % 2 ^ 60) reads
        match t.2 with
        | .miss => .next (translationFailed t.1 r .missed)
        | .denial => .next (translationFailed t.1 r .denied)
        | .hit pa l =>
          match leafPermit l r with
          | some a => .next (translationFailed t.1 r a)
          | none => .next (sendStacked t.1 r pa)

/-! BAR2. -/

/-- R297, R301: whether an access lies in BAR2 as the host may make it. -/
def bar2Inside (s : State) (off len : Nat) : Bool := len ≠ 0 && off + len ≤ 2 ^ s.pcie.bar2Log && off / 4096 = (off + len - 1) / 4096

/-- R301: the stacked virtual address of a BAR2 offset. -/
def bar2Addr (s : State) (off : Nat) : Nat := s.bar0.bar2Base.toNat / 2 ^ s.pcie.bar2Log * 2 ^ s.pcie.bar2Log + off

/-- R301: a failed BAR2 access: counted, marked, and entered at most once per ms. DEDUCED (log entry 32). -/
def bar2Fault (s : State) (off : Nat) : State :=
  let s1 := raiseModEvent (barError s) 32
  let recent := match s.pcie.bar2LastEntry with | some g => decide (s.gtc.toNat < g + 1000000) | none => false
  if recent then { s1 with pcie := { s1.pcie with bar2Suppressed := s1.pcie.bar2Suppressed + 1 } }
  else
    logEntry { s1 with pcie := { s1.pcie with bar2Suppressed := 0, bar2LastEntry := some s.gtc.toNat } } 2 0x600A 0 0
      (packData [(64, off), (32, s.pcie.bar2Suppressed)])

/-- The aligned 128-byte lines of an access: the first byte within the line, how many of its bytes, and how many come before.
DEDUCED (log entry 32). -/
def splitLines (a len : Nat) : List (Nat × Nat × Nat × Nat) :=
  (List.range ((a + len - 1) / 128 + 1 - a / 128)).map fun i =>
    let line := (a / 128 + i) * 128
    let lo := max a line
    let hi := min (a + len) (line + 128)
    (line, lo - line, hi - lo, lo - a)

/-- R301: a BAR2 access sets out: translated, and a request for each of its lines sent to its tower. DEDUCED (log entry 32). -/
def bar2Access (s : State) (off len : Nat) (write : Bool) (bytes : List Byte) (reads : List HalfRead) : State :=
  let va := bar2Addr s off
  let t := translateBy s va reads
  let s1 := t.1
  let fail (s : State) : State := if write then bar2Fault s off else bar2Fault (completerAbort s) off
  match t.2 with
  | .hit pa l =>
    if write ∧ ¬ l.writable then fail s1
    else
      (splitLines pa len).foldl (fun (s : State) (x : Nat × Nat × Nat × Nat) =>
        let o := openRequest s.net
          { id := 0, who := .bar2 (off + x.2.2.2) x.2.2.1, write := write, addr := BitVec.ofNat 64 (va / 128 * 128), phys := some x.1
            be := byteMask x.2.1 x.2.2.1
            bytes := if write then List.replicate x.2.1 0 ++ (bytes.drop x.2.2.2).take x.2.2.1 else []
            poison := 0, prefetch := false, pasid := none, flit := none, left := [], state := .sent }
        match findRequest o.1 o.2 with
        | some r => sendStacked { s with net := o.1 } r x.1
        | none => s) s1
  | _ => fail s1

/-- R301: a BAR2 read. -/
def execBar2Read (offset : Nat) (len : Nat) (s : State) (reads : List HalfRead := []) : Result :=
  if ¬ bar2Inside s offset len then .next s
  else if isUnsealing s then .next (completerAbort (barError s))
  else .next (bar2Access (hostTraffic (wakeS1 s)) offset len false [] reads)

/-- R301: a BAR2 write. -/
def execBar2Write (offset : Nat) (bytes : List Byte) (s : State) (reads : List HalfRead := []) : Result :=
  if ¬ bar2Inside s offset bytes.length then .next s
  else if isUnsealing s then .next (barError s)
  else .next (bar2Access (hostTraffic (wakeS1 s)) offset bytes.length true bytes reads)

/-! Host translation. -/

/-- R303: an ATS invalidation: cached translations of the range are dropped, and its completion is owed. -/
def execAtsInvalidation (pasid : Option (BitVec 20)) (iova : U64) (sizeLog2 : Nat) (s : State) : Result :=
  let a := iova.toNat / 2 ^ sizeLog2 * 2 ^ sizeLog2
  let keep (l : AtsLeaf) : Bool :=
    !(l.pasid = pasid && decide (a < (l.page + 1) * 2 ^ l.sizeLog2) && decide (l.page * 2 ^ l.sizeLog2 < a + 2 ^ sizeLog2))
  .next { s with pcie := { s.pcie with atsCache := s.pcie.atsCache.filter keep
                                       invalidations := s.pcie.invalidations ++ [{ pasid := pasid, iova := iova.toNat, sizeLog2 := sizeLog2 }] } }

/-- R303: the Invalidation Completion is sent; every request that used the translation has left the port. -/
def execAtsInvalidationComplete (s : State) : Result :=
  match s.pcie.invalidations with
  | [] => .next s
  | i :: rest =>
    .next { s with pcie := { s.pcie with invalidations := rest }, out := s.out ++ [.invalidationComplete i.pasid (BitVec.ofNat 64 i.iova)] }

/-- R303: an ATS translation completes: cached at the largest of 1 GiB, 2 MiB and 4 KiB within its size, and every request that
waited for it goes on. A translation that permits nothing is a miss, which is not cached. -/
def execAtsTranslationCompletion (pasid : Option (BitVec 20)) (iova : U64) (sizeLog2 : Nat)
    (readable writable untranslated : Bool) (s : State) (translated : U64 := 0) : Result :=
  let size := if 30 ≤ sizeLog2 then 30 else if 21 ≤ sizeLog2 then 21 else 12
  let a := bits iova.toNat 0 57
  let l : AtsLeaf := { pasid := pasid, page := a / 2 ^ size, sizeLog2 := size
                       target := translated.toNat / 2 ^ sizeLog2 * 2 ^ sizeLog2 + a % 2 ^ sizeLog2 / 2 ^ size * 2 ^ size, readable := readable, writable := writable
                       noPrefetch := untranslated }
  let waits (r : Request) : Bool :=
    r.state = .translating && spaceOf r.addr.toNat = 2 && r.pasid = pasid && bits r.addr.toNat 0 57 / 2 ^ size = l.page
  let mine := s.net.requests.filter waits
  if ¬ s.pcie.ats then .next s
  else
    let s1 := if readable || writable then
        { s with pcie := { s.pcie with atsCache := (l :: s.pcie.atsCache.filter fun x => !(x.pasid = l.pasid && x.page = l.page && x.sizeLog2 = l.sizeLog2)).take 8192 } }
      else s
    .next (mine.foldl (fun s r => hostByLeaf s r l) s1)

/-- R304: how many page requests may be outstanding. -/
def pageLimit (p : Pcie) : Nat := min 512 p.priAllocation

/-- R304: a PRG index that no outstanding request carries: the module's choice.
DESIGN CHOICE (log entry 12). DEDUCED (log entry 33). -/
def freePrg (s : State) : Nat :=
  let first := freshNat s % 512
  ((List.range 512).map fun i => (first + i) % 512).find? (fun n => !(s.pcie.outstanding.any fun o => o.1 = n)) |>.getD first

/-- R304: of the caravans in FAULT_WAIT without a request, the one whose miss is oldest raises its page request, of one page and with
the Last bit set. -/
def execPageRequestRaise (s : State) : Result :=
  match takeFirst (fun v : CaravanId => (getCv s v.val).state = .faultWait) s.pcie.waiting with
  | none => .next s
  | some (v, rest) =>
    if s.pcie.pri ∧ ¬ s.pcie.priStopped ∧ s.pcie.outstanding.length < pageLimit s.pcie then
      let prg := freePrg s
      let x := getCv s v.val
      let page := ((x.fault.map fun f => f.addr.toNat).getD 0) % 2 ^ 57 / 4096
      let s1 := modCv (useFree s 1) v.val fun x => { x with page := some (page, some prg) }
      .next { s1 with pcie := { s1.pcie with waiting := rest, outstanding := s1.pcie.outstanding ++ [(prg, v)] }
                      out := s1.out ++ [.pageRequest (cvDesc x.desc).pasid (BitVec.ofNat 64 (4096 * page)) prg true] }
    else .next s

/-- R304: a caravan in FAULT_WAIT goes on to HALTED. DEDUCED (log entry 33). -/
def haltWaiting (s : State) (v : CaravanId) : State :=
  let x := getCv s v.val
  if x.state = .faultWait ∧ x.ending.isNone then modCv s v.val fun x => { x with ending := some (.halted, x.status) } else s

/-- R304: every caravan in FAULT_WAIT goes on to HALTED. -/
def haltAllWaiting (s : State) : State :=
  let s1 := s.caravans.foldl (fun (s : State) (e : Nat × Caravan) => haltWaiting s (Fin.ofNat 262144 e.1)) s
  { s1 with pcie := { s1.pcie with waiting := s.pcie.waiting.filter fun v => (getCv s v.val).state ≠ .faultWait } }

/-- R243, R304: a page response. -/
def execPageResponse (prg : Nat) (code : PriCode) (s : State) : Result :=
  match s.pcie.outstanding.find? fun o => o.1 = prg with
  | none => .next s
  | some (_, v) =>
    let s1 := { s with pcie := { s.pcie with outstanding := s.pcie.outstanding.filter fun o => o.1 ≠ prg } }
    let x := getCv s1 v.val
    let mine := x.state = .faultWait ∧ x.ending.isNone ∧ (x.page.bind (·.2)) = some prg
    match code with
    | .success =>
      if mine then .next (askHolds (touchContext (modCv s1 v.val fun x => { x with state := .running, status := 0, fault := none }) v) v)
      else .next s1
    | .invalidRequest => if mine then .next (haltWaiting s1 v) else .next s1
    | .responseFailure => .next (haltAllWaiting { s1 with pcie := { s1.pcie with priStopped := true } })

/-- R304: the caravans that wait for the allocation halt. -/
def haltQueued (s : State) : State :=
  let s1 := s.pcie.waiting.foldl haltWaiting s
  { s1 with pcie := { s1.pcie with waiting := s.pcie.waiting.filter fun v => (getCv s v.val).state ≠ .faultWait } }

/-- R289: MSI-X Enable and Function Mask; pending vectors that nothing masks any more are sent. -/
def setMsixControl (s : State) (enable mask : Bool) : State :=
  let s1 := { s with pcie := { s.pcie with msixEnable := enable, functionMask := mask } }
  s.bar0.msix.foldl (fun s e => releaseVector s e.1) s1

/-- R295: words of the PCIe configuration space that the spec gives: the identity, and the device serial number. -/
def pcieIdentity : Nat := 0x9600 <<< 16 + 0x1E9B
def pcieClass : Nat := 0x120000 <<< 8 + 0xB0
def pcieSerial (s : State) : Nat := dictGet s keySerial

/-- R289, R295, R297, R303, R304, R510: a write of the PCIe configuration space. -/
def execPcieConfigWrite (w : CfgWrite) (s : State) : Result :=
  match w with
  | .bar2Size n => .next { s with pcie := { s.pcie with bar2Log := 30 + n.val } }
  | .dState d => .next { s with pcie := { s.pcie with d3hot := d } }
  | .atsEnable en => .next { s with pcie := { s.pcie with ats := en, atsCache := if en then s.pcie.atsCache else [] } }
  | .priEnable en =>
    let s1 := { s with pcie := { s.pcie with pri := en } }
    .next (if en then s1 else haltQueued s1)
  | .priAllocation n => .next { s with pcie := { s.pcie with priAllocation := n } }
  | .msixControl en m => .next (setMsixControl s en m)
  | .maxPayload n => .next { s with pcie := { s.pcie with maxPayload := 128 <<< n.val } }
  | .maxReadRequest n => .next { s with pcie := { s.pcie with maxReadRequest := 128 <<< n.val } }
  | .ltrEnable en => .next { s with pcie := { s.pcie with ltr := en } }
  | .aerClear b => .next { s with pcie := { s.pcie with aerStatus := s.pcie.aerStatus &&& ~~~b } }
  | .clearPriStopped => .next { s with pcie := { s.pcie with priStopped := false } }

end Sys2Proof.Machine
end

