-- ==== Sys2Proof/Machine/ResetOps.lean ====
section
/-! DEFINITION. What a core-array reset does (R162, R171, R221, R226, R265, R513, R555), how a program starts (R226), and how a
caravan halts from outside (R265). -/

namespace Sys2Proof.Machine

/-- Tagged instructions and descriptors of a core: a reset that removes them loses their samples (R556). -/
def taggedWork (k : Core) : Nat :=
  (k.cc.threads.filter fun t => t.2.tagged).length
    + (k.engines.map fun e => (e.2.queue.filter (·.tagged)).length + (e.2.jobs.filter fun j => j.post.tagged).length).sum
    + (k.vector.queue.filter (·.tagged)).length + (match k.vector.running with | some j => if j.post.tagged then 1 else 0 | none => 0)
    + (k.gathers.map fun g => (g.2.queue.filter (·.tagged)).length
        + (match g.2.running with | some j => if j.post.tagged then 1 else 0 | none => 0)).sum

/-- R162, R171, R221, R226, R255, R555: a core after a reset: its memory and marks stay, its holds, units, threads, predictors and
caches are as at power-on, and its sampling is reseeded over the records it has. -/
def resetCore (old new : SampleInit) (n : Nat) (k : Core) : Core :=
  let x := samplingOf old n k
  let lost := sat32 (x.lost + taggedWork k)
  { mem := { k.mem with holds := [], pendingHolds := [], foreign := [] }
    sampling := if x.records.isEmpty ∧ lost = 0 then none else some { seededSampling new n with records := x.records, lost := lost } }

/-- What a reseeding takes from the dictionary (R555). -/
def sampleInitNow (s : State) : SampleInit :=
  { seed := BitVec.ofNat 16 (dictGet s keySampleSeed), period := dictGet s keySamplePeriod, jitter := dictGet s keySampleJitter }

/-- Every core replaced. -/
def mapCores (l : List (Nat × Core)) (f : Nat → Core → Core) : List (Nat × Core) :=
  l.filterMap fun e => if f e.1 e.2 = {} then none else some (e.1, f e.1 e.2)

/-- R275, R284: a claim that a reset cuts off has not taken its entry: the entry is in the pool again. A post in flight lands
for no one. DEDUCED (log entry 78). -/
def resetRing (x : Ring) : Ring :=
  { x with claims := [], pool := (x.claims.map (·.entry)) ++ x.pool, posts := x.posts.map fun p => { p with poster := none } }

/-- R515: what a reset of the cores or a loss of their power does beside the caravans: holds, units, threads and caches are as at
power-on; reads of the cores under way are forgotten. DEDUCED (log entries 66, 78). -/
def resetCores (s : State) : State :=
  let new := sampleInitNow s
  { s with
    cores := mapCores s.cores (resetCore s.sampleInit new)
    sampleInit := new
    queues := { s.queues with rings := mapAll {} resetRing s.queues.rings }
    net := abandon s.net fun r => (match r.who with | .gatherLine _ _ _ | .image _ _ => true | _ => false) }

/-- R513: the core-array reset: cores, caravans, holds and caches. -/
def coreArrayReset (s : State) : State := resetCores (resetCaravans s)

/-- R243, R515: a caravan that keeps its context while cores lose their holds: it asks for those anew when it next enters RUNNING.
DEDUCED (log entry 66). -/
def loseHolds (lost : Nat → Bool) (sys : Option Nat) (x : Caravan) : Caravan :=
  let src := cvSrc sys (cvDesc x.desc)
  { x with
    sourceHeld := x.sourceHeld && !(spaceOf src = 1 && lost (cmCore src))
    receivers := x.receivers.map fun r => if r.core < 96 && lost r.core then { r with holdGranted := false } else r }

/-- R226: thread 0 of a core READY at the entry point of the program image. -/
def startCore (s : State) (c : CoreId) : State :=
  if coreOff s c.val then s
  else setThread s c 0 { pc := BitVec.ofNat 64 (2 ^ 32 + dictGet s keyCcEntry), machine := true, state := .ready }

/-- R226: the program starts. -/
def programStart (s : State) : State := (List.range 96).foldl (fun s n => startCore s (Fin.ofNat 96 n)) s

/-- R506, R515: the reset that ends a program: the module is STOPPED, and LAST_RESET says core-array. -/
def stopProgram (s : State) : State := dictSet (dictSet (coreArrayReset s) keyModuleState 1) keyLastReset 3

/-- R260, R265: a running caravan whose endpoint a reset takes away: a demand fault at its lowest undelivered line, after which it
drains. By R243 no other state goes on to HALTED so. -/
def haltCaravan (s : State) (v : CaravanId) (k : FaultKind) (side : Bool) : State :=
  let x := getCv s v.val
  if x.state = .running ∧ x.ending.isNone then demandFault s v k side (lineAddr s x (windowBase x) side) else s

/-- The endpoints of a caravan that pass a test: source side, destination side. The core field of a MULTICAST destination is none. -/
def endsAt (s : State) (x : Caravan) (p : Nat → Bool) : Option Bool :=
  let d := cvDesc x.desc
  let src := cvSrc (sysAddr s) d
  let dst := cvDst (sysAddr s) d
  if p src then some false else if d.op ≠ 2 && p dst then some true else none

/-- R265: every caravan with an endpoint that passes a test halts. -/
def haltCaravans (s : State) (p : Nat → Bool) (k : FaultKind) : State :=
  s.caravans.foldl (fun (s : State) (e : Nat × Caravan) =>
    match endsAt s e.2 p with
    | some side => haltCaravan s (Fin.ofNat 262144 e.1) k side
    | none => s) s

end Sys2Proof.Machine
end

