-- ==== Sys2Proof/Machine/LockOps.lean ====
section
/-! DEFINITION. The lock-step controller: messages (R404 to R406), discovery (R409), shape (R410), alignment (R394, R395, R411),
faults (R413), restart (R414), readiness (R416), launch (R417), agreements (R407, R419, R420, R524) and slips (R421 to R423). -/

namespace Sys2Proof.Machine

/-- R387: an entry of a port. -/
def portKey (p sub : Nat) : Nat := keyOf (0x4100 + p) sub

def portEnabled (s : State) (p : Nat) : Bool := dictGet s (portKey p 0xC) = 1

def portUp (s : State) (p : Nat) : Bool := (getPort s.links p).state = .up

/-- R390: whether this module is the anchor. -/
def isAnchor (s : State) : Bool := s.straps.anchor || dictGet s keyLsAnchor = 1

/-- R405, R409: the originator this module names: its coordinates. -/
def ownOrig (s : State) : Nat := s.lockstep.coords.getD 0

def modLock (s : State) (f : Lockstep → Lockstep) : State := { s with lockstep := f s.lockstep }

/-! Messages. -/

/-- R404: a LOCKSTEP block. -/
def lockBlock (msg part : Nat) (last : Bool) (seq data : Nat) : U64 :=
  let low := 0x78 + msg <<< 8 + part <<< 12 + (if last then 1 <<< 14 else 0) + (seq % 256) <<< 16 + (data % 2 ^ 32) <<< 24
  BitVec.ofNat 64 (low + (crc8 (natBytes 7 low)).toNat <<< 56)

/-- R404, R405: the blocks of a message; `data` with ORIG in its low bits. -/
def messageBlocks (msg parts seq data : Nat) : List U64 :=
  (List.range parts).map fun i => lockBlock msg i (i + 1 = parts) seq (data >>> (32 * i))

/-- R406: a message for one of the 8 ports, which 4 consecutive control frames carry. -/
def emitMessage (s : State) (p msg parts seq data : Nat) : State :=
  let m : PortMessage := { blocks := messageBlocks msg parts seq data, copies := 4, urgent := msg = 0xA || msg = 0xB }
  let x := getPort s.links p
  if p < 8 then { s with links := setPort s.links p { x with messages := x.messages ++ [m] } } else s

/-- A message of this module's own on one port. -/
def sendMessage (s : State) (p msg parts fields : Nat) : State :=
  let s1 := emitMessage s p msg parts s.lockstep.seq.toNat (ownOrig s + fields)
  modLock s1 fun l => { l with seq := l.seq + 1 }

/-- R406: a flood sent on every UP torus port but one. -/
def emitFlood (s : State) (msg parts seq data : Nat) (skip : Option Nat) : State :=
  (List.range 6).foldl (fun s p => if portUp s p ∧ skip ≠ some p then emitMessage s p msg parts seq data else s) s

/-- A flood of this module's own. -/
def flood (s : State) (msg parts fields : Nat) : State :=
  let s1 := emitFlood s msg parts s.lockstep.seq.toNat (ownOrig s + fields) none
  modLock s1 fun l => { l with seq := l.seq + 1 }

/-- R406: whether a SEQ is new: not within 128 behind the last one seen. DEDUCED (log entry 54). -/
def seqNew (last : Option Nat) (seq : Nat) : Bool :=
  match last with
  | none => true
  | some l => let d := (seq + 256 - l % 256) % 256; 0 < d && d < 128

/-- The place of an originator in what has been seen: a flood by originator alone, another message by its port as well.
DEDUCED (log entry 54). -/
def seenKey (isFlood : Bool) (p orig : Nat) : Nat := if isFlood then orig else (p + 1) * 32768 + orig

/-- R405, R406: a message that arrives: dropped and counted where it is not whole, ignored where it was seen before. -/
def takeMessage (s : State) (p : Nat) (m : LsMsg) (isFlood : Bool) (act : State → State) : State :=
  let k := seenKey isFlood p m.orig.toNat
  if ¬ m.whole then portEvent s p 0x18 1 none
  else if ¬ portUp s p ∨ ¬ seqNew (mapGet none s.lockstep.seen k) m.seq.toNat then s
  else act (modLock s fun l => { l with seen := mapSet none l.seen k (some m.seq.toNat) })

/-- R406: a flood that arrives is acted on and sent on. -/
def takeFlood (s : State) (p : Nat) (m : LsMsg) (msg parts : Nat) (act : State → State) : State :=
  takeMessage s p m true fun s => act (emitFlood s msg parts m.seq.toNat m.data.toNat (some p))

/-- Bits of a message's data. -/
def msgField (m : LsMsg) (lo n : Nat) : Nat := bits m.data.toNat lo n

/-! Faults. -/

/-- R413: the module enters FAULT. DEDUCED (log entry 54). -/
def enterFault (s : State) (cause orig : Nat) : State :=
  dictSet (dictSet (dictSet s keyLsState 6) keyLsFaultCause cause) keyLsFaultOrigin orig

/-- R413: a fault this module detects. The first one stands. DEDUCED (log entry 54). -/
def detectFault (s : State) (cause : Nat) : State :=
  if dictGet s keyLsState = 6 then s
  else
    let s1 := logEntry (enterFault s cause (ownOrig s)) 3 0x9003 0 0 (packData [(8, cause), (16, ownOrig s)])
    flood s1 0xB 1 (cause <<< 15)

/-! Coordinates and the torus. -/

def maxCoord (d : Nat) : Nat := if d = 2 then 19 else 31

/-- A coordinate replaced. -/
def withCoord (sys d v : Nat) : Nat := sys - (coord sys d) <<< (5 * d) + v <<< (5 * d)

/-- R409: a dimension whose ports are disabled has size 1; another has what was learned. -/
def learnedSize (s : State) (d : Nat) : Nat :=
  if portEnabled s (2 * d) then mapGet 0 s.lockstep.sizes d else 1

/-- R409: a size learned or received: two that differ set ERR to SHAPE. -/
def learnSize (l : Lockstep) (d n : Nat) : Lockstep :=
  let old := mapGet 0 l.sizes d
  if n = 0 then l
  else if old = 0 then { l with sizes := mapSet 0 l.sizes d n }
  else if old = n then l
  else { l with walkErr := if l.walkErr = 0 then 4 else l.walkErr }

/-- R394: the port towards a module's alignment parent, none for the anchor: the last hop of the route from the anchor. -/
def parentPortOf (size : Nat → Nat) (sys : Nat) : Option Nat :=
  let hop (d : Nat) : Option Nat :=
    let c := coord sys d
    if c = 0 then none else if c ≤ size d - c then some (2 * d + 1) else some (2 * d)
  match hop 2 with
  | some p => some p
  | none => match hop 1 with | some p => some p | none => hop 0

/-- The system address of the neighbour in a torus port's direction. -/
def neighbourOf (size : Nat → Nat) (sys p : Nat) : Nat :=
  let d := p / 2
  let n := size d
  withCoord sys d (if p % 2 = 0 then (coord sys d + 1) % n else (coord sys d + n - 1) % n)

/-- R394: the ports whose neighbours have this module as their alignment parent. -/
def childPorts (s : State) : List Nat :=
  let me := ownOrig s
  (List.range 6).filter fun p =>
    decide (1 < torusSize s (p / 2)) && parentPortOf (torusSize s) (neighbourOf (torusSize s) me p) = some (p ^^^ 1)

/-! Alignment done, arming. -/

/-- R408, R411, R430: start-up has ended; ms from power good, from the counter as it ran before any alignment.
DEDUCED (log entry 55). -/
def reachState (s : State) (st : Nat) : State :=
  let ms := (s.gtc - s.lockstep.gtcMoved).toNat / 1000000
  dictSet (dictSet s keyLsState st) keyLsArmedTime (ms % 2 ^ 32)

/-- R411: what this module and its subtree report: COUNT, ERR, MAX_HOPS. -/
def alignTotal (s : State) : Nat × Nat × Nat :=
  s.lockstep.alignDone.foldl (fun t e => (t.1 + e.2.1, if t.2.1 = 0 then e.2.2.1 else t.2.1, max t.2.2 e.2.2.2)) (1, 0, dictGet s keyLsHops)

/-- R411: ALIGN_DONE goes to the parent once the module and all its children are aligned; at the anchor the start-up ends, or ARM
is flooded. DEDUCED (log entry 55). -/
def alignAdvance (s : State) : State :=
  let l := s.lockstep
  let all := (childPorts s).all fun p => l.alignDone.any fun e => e.1 = p
  if ¬ l.aligned ∨ l.alignSent ∨ ¬ all ∨ dictGet s keyLsState ≠ 2 then s
  else
    let t := alignTotal s
    if isAnchor s then
      if t.2.1 ≠ 0 then detectFault s t.2.1
      else if t.1 = dictGet s keySysModules then
        let s1 := modLock s fun l => { l with alignSent := true }
        if l.mode then reachState (flood s1 5 1 0) 4 else reachState s1 3
      else s
    else
      let s1 := sendMessage s (dictGet s keyLsParentPort) 4 2 (t.1 <<< 15 + (t.2.1 % 256) <<< 32 + (t.2.2 % 64) <<< 40)
      let s2 := modLock s1 fun l => { l with alignSent := true }
      if l.mode then s2 else reachState s2 3

/-! Shape. -/

/-- R378: a port's partner has a system address. -/
def notePartner (s : State) (p orig : Nat) : State :=
  dictSet { s with links := setPort s.links p { getPort s.links p with partnerKnown := true } } (portKey p 3) orig

/-- R410: the check of a neighbour's DIM 3. -/
def checkNeighbour (s : State) (p orig : Nat) : State :=
  if 6 ≤ p then notePartner s p orig
  else if orig = neighbourOf (torusSize s) (ownOrig s) p then notePartner s p orig
  else detectFault s 3

/-- R409, R410: the DISCs that wait are sent on the ports that are UP. -/
def discAdvance (s : State) : State :=
  let anchorBit := if isAnchor s then 1 <<< 18 else 0
  s.lockstep.discWait.foldl (fun s e =>
    if portUp s e.1 then
      let s1 := sendMessage s e.1 1 1 (e.2 <<< 15 + (if s.lockstep.mode then 1 <<< 17 else 0) + anchorBit)
      modLock s1 fun l => { l with discWait := l.discWait.filter (· ≠ e), discOut := if e.2 = 3 then l.discOut else l.discOut ++ [e.1] }
    else s) s

/-- R406: the diameter and the flood bound. -/
def diameter (x y z : Nat) : Nat := x / 2 + y / 2 + z / 2

/-- R402: whether a port's SLACK is 0. -/
def slackZero (s : State) (p : Nat) : Bool :=
  portUp s p && decide (dictGet s keyLinkSlackReplays * (ceilDiv (dictGet s (portKey p 6)) 16 + 1) + dictGet s keyLinkSlackExtra = 0)

/-- R402, R413: the start-up faults a module sees for itself once it knows the shape. -/
def shapeFaults (s : State) (lat : Nat) : State :=
  let own := dictGet s keyLinkLatSet
  if s.lockstep.mode ∧ own ≠ 0 ∧ own ≠ lat then detectFault s 6
  else if s.lockstep.mode ∧ (List.range 8).any (slackZero s) then detectFault s 7
  else if s.stacked.towers.any fun t => t.2.state = .failed then detectFault s 0xA
  else s

/-- R410: SHAPE takes effect: addresses, sizes, L_SYS and Q; the neighbour checks; the alignment begins. DEDUCED (log entry 55). -/
def takeShape (s : State) (x y z lat q : Nat) : State :=
  match s.lockstep.coords with
  | none => s
  | some me =>
    let s1 := dictSet (dictSet (dictSet (dictSet s keySysAddr me) keyTorusX x) keyTorusY y) keyTorusZ z
    let s2 := dictSet (dictSet (dictSet s1 keySysLat lat) keyFloodBound ((diameter x y z + 1) * 96)) keySysModules (x * y * z)
    let s3 := dictSet s2 keyLsState 2
    let wait := ((List.range 8).filter (portEnabled s)).map fun p => (p, 3)
    let s4 := modLock s3 fun l => { l with addressed := true, quantum := q, discWait := l.discWait ++ wait, aligned := isAnchor s }
    let s5 := if isAnchor s then dictSet s4 keyLsHops 0
      else dictSet s4 keyLsParentPort ((parentPortOf (torusSize s4) me).getD 0xFF)
    let s6 := s5.lockstep.checks.foldl (fun s c => checkNeighbour s c.port c.orig) (discAdvance s5)
    alignAdvance (shapeFaults (modLock s6 fun l => { l with checks := [] }) lat)

/-! Discovery. -/

/-- R409: the largest LAT_FIXED of this module's ports. -/
def ownLat (s : State) : Nat := (List.range 8).foldl (fun m p => if portUp s p then max m (dictGet s (portKey p 7)) else m) 0

/-- R402, R410: the anchor's walks are answered: the shape is checked and flooded. -/
def anchorShape (s : State) : State :=
  let l := s.lockstep
  let x := learnedSize s 0
  let y := learnedSize s 1
  let z := learnedSize s 2
  let expect := dictGet s keyLsExpectShape
  let lat := max l.walkLat (ownLat s)
  let set := dictGet s keyLinkLatSet
  if l.walkErr ≠ 0 then detectFault s l.walkErr
  else if l.walkCount + 1 ≠ x * y * z then detectFault s 4
  else if expect ≠ 0 ∧ ¬ (bits expect 0 8 = x ∧ bits expect 8 8 = y ∧ bits expect 16 8 = z) then detectFault s 4
  else if set ≠ 0 ∧ set < lat then detectFault s 5
  else
    let ls := if set ≠ 0 then set else lat
    let q := dictGet s keySlipQuantum
    let s1 := flood s 3 2 ((x % 64) <<< 15 + (y % 64) <<< 21 + (z % 32) <<< 27 + (ls % 256) <<< 32 + (q % 8192) <<< 40)
    takeShape s1 x y z ls q

/-- R409: a module whose DISCs are all answered reports to its walk parent; the anchor checks the shape. -/
def walkAdvance (s : State) : State :=
  let l := s.lockstep
  if l.coords.isNone ∨ l.walkSent ∨ ¬ l.discOut.isEmpty ∨ ¬ l.discWait.isEmpty ∨ dictGet s keyLsState ≠ 1 then s
  else
    let s1 := modLock s fun l => { l with walkSent := true }
    if isAnchor s then anchorShape s1
    else
      match l.walkParent with
      | none => s1
      | some p =>
        let lat := max l.walkLat (ownLat s)
        sendMessage s1 p 2 2 ((l.walkCount + 1) <<< 15 + (lat % 256) <<< 32 + (mapGet 0 l.sizes 1 % 64) <<< 40
          + (mapGet 0 l.sizes 2 % 32) <<< 46 + (l.walkErr % 256) <<< 56)

/-- R409, R390: the anchor begins discovery. DEDUCED (log entry 57). -/
def startDiscovery (s : State) : State :=
  let s1 := modLock s fun l => { l with mode := dictGet s keyLsMode = 1 }
  if isAnchor s then
    let wait := ([0, 1, 2].filter fun d => portEnabled s (2 * d)).map fun d => (2 * d, d)
    let s2 := dictSet (modLock s1 fun l => { l with coords := some 0, discWait := wait }) keyLsState 1
    walkAdvance (discAdvance s2)
  else s1

/-- R409: a DISC of a walk, in dimension `d`, from the module at `from_`, arrives. -/
def takeWalk (s : State) (p d from_ : Nat) (lockMode anchor : Bool) : State :=
  if anchor ∧ isAnchor s then detectFault s 1
  else if lockMode ≠ s.lockstep.mode then detectFault s 2
  else if p ≠ 2 * d + 1 then detectFault s 3
  else
    match s.lockstep.coords with
    | none =>
      if maxCoord d < coord from_ d + 1 then detectFault s 4
      else
        let me := withCoord from_ d (coord from_ d + 1)
        let s1 := dictSet (modLock s fun l => { l with coords := some me, walkParent := some p }) keyLsState 1
        if ¬ portEnabled s (2 * d) then detectFault s1 3
        else
          let wait := (2 * d, d) :: (([0, 1, 2].filter fun e => d < e ∧ portEnabled s (2 * e)).map fun e => (2 * e, e))
          discAdvance (modLock s1 fun l => { l with discWait := l.discWait ++ wait })
    | some me =>
      if coord me d = 0 ∧ withCoord from_ d 0 = me then
        let n := coord from_ d + 1
        sendMessage (modLock s fun l => learnSize l d n) p 2 2 0
      else detectFault s 3

/-- R414: coordinates and fault are cleared, and the module is in STANDALONE; a run that was on is over. DEDUCED (log entry 56). -/
def restartLock (s : State) : State :=
  let s0 := if dictGet s keyLsState = 5 then stopProgram s else s
  let l := s0.lockstep
  let s1 := { s0 with
    lockstep := { ({} : Lockstep) with seq := l.seq, gtcMoved := l.gtcMoved, quantum := l.quantum, stalled := l.stalled }
    stacked := { s0.stacked with lowRate := false }
    net := { s0.net with floor := false }
    links := { s0.links with ports := mapAll {} (fun x => { x with partnerKnown := false }) s0.links.ports } }
  let clear := [keyLsState, keyLsFaultCause, keyLsFaultOrigin, keyLsHops, keyLsParentPort, keySysAddr, keyTorusX, keyTorusY, keyTorusZ
    , keySysLat, keyFloodBound, keySysModules, keyReadyStatus, keyRunCm]
  let s2 := clear.foldl (fun s k => dictSet s k (entryDefault k)) s1
  let s3 := (List.range 8).foldl (fun s p => dictSet s (portKey p 3) 0) s2
  dictSet s3 keyClkSource (if dictGet s3 keySysrefOk = 1 then 0 else 2)

/-! Ready, launch. -/

/-- R416: the modules READY in this module's subtree. -/
def readyTotal (s : State) : Nat := (if s.lockstep.ready then 1 else 0) + (s.lockstep.readyCounts.map (·.2)).sum

/-- R416: the count goes to the parent. DEDUCED (log entry 54). -/
def sendReady (s : State) : State :=
  if isAnchor s then s else sendMessage s (dictGet s keyLsParentPort) 6 1 (readyTotal s <<< 15)

/-- R407: an agreement whose tick has passed. DEDUCED (log entry 54). -/
def agreeLate (s : State) (code tick : Nat) : State :=
  breachCm (logEntry (dictBump s keyAgreeLate 1) 2 0x9002 0 0 (packData [(8, code), (64, tick)])) 2

/-- R417: LAUNCH takes effect: the run and its tick are recorded, and the module prepares. -/
def takeLaunch (s : State) (run tick : Nat) (floor : Bool) : State :=
  if dictGet s keyLsState ≠ 4 then s
  else
    let s1 := dictSet (dictSet s keyRun (run % 2 ^ 32)) keyLaunchTick ((16 * tick) % 2 ^ 64)
    let s2 := modLock s1 fun l => { l with launch := some { tick := tick, floor := floor, done := 0 } }
    if tick < tickOf s then agreeLate s2 0 tick else s2

/-- The smallest multiple of `n` at or above `k`. -/
def roundUp (k n : Nat) : Nat := ceilDiv k n * n

/-- R417: the launch tick the anchor chooses. -/
def launchTickOf (s : State) : Nat := roundUp (tickOf s + dictGet s keyFloodBound) (242 * dictGet s keyScrubEvery)

/-- R417: the anchor launches. -/
def anchorLaunch (s : State) : State :=
  let run := (dictGet s keyRun + 1) % 2 ^ 17
  let l := launchTickOf s
  let s1 := flood s 7 3 (run <<< 15 + (l % 2 ^ 60) <<< 32 + (if s.lockstep.buildFloor then 1 <<< 92 else 0))
  takeLaunch s1 run l s.lockstep.buildFloor

/-! Agreed changes. -/

/-- Agreements in the order of their ticks, and of SEQ within one. -/
def insertAgreement (a : Agreement) : List Agreement → List Agreement
  | [] => [a]
  | b :: t => if a.tick < b.tick ∨ (a.tick = b.tick ∧ a.seq < b.seq) then a :: b :: t else b :: insertAgreement a t

/-- R419, R407: an AGREE takes its place; a late one is due at once. -/
def takeAgree (s : State) (code value tick seq : Nat) : State :=
  if dictGet s keyLsState = 6 then s
  else
    let s1 := modLock s fun l => { l with agreements := insertAgreement { code := code, value := value, tick := tick, seq := seq } l.agreements }
    if tick < tickOf s then agreeLate s1 code tick else s1

/-- R419, R520: the tick the anchor chooses for a change. -/
def agreeTick (s : State) (code : Nat) (up : Bool) : Nat :=
  let f := dictGet s keyFloodBound
  roundUp (tickOf s + (if code = 1 ∧ up then max f 1280 else f)) (if code = 2 then 242 else 64)

/-- R419: the anchor floods an AGREE and takes it itself. DEDUCED (log entry 54). -/
def anchorAgree (s : State) (code value : Nat) (up : Bool) : State :=
  let tick := agreeTick s code up
  let seq := s.lockstep.seq.toNat
  takeAgree (flood s 8 4 ((code % 256) <<< 15 + (value % 2 ^ 32) <<< 32 + (tick % 2 ^ 60) <<< 64)) code value tick seq

/-- R524: two wishes for one setting: the more conservative. -/
def mergeWish (code a b : Nat) : Nat := if code = 1 ∨ code = 5 then max a b else min a b

/-- R524: the wish of this module and its children for a code. -/
def mergedWish (s : State) (code : Nat) : Option Nat :=
  ((List.range 9).filterMap fun p => mapGet none s.lockstep.wishes (16 * code + p)).foldl
    (fun m v => match m with | none => some v | some w => some (mergeWish code w v)) none

/-- R522, R523, R345: a wish brought within the owner's bounds. -/
def ownerBounds (s : State) (code v : Nat) : Nat :=
  match code with
  | 1 => min (max v (dictGet s keyStepMin)) (dictGet s keyStepMax)
  | 2 => if dictGet s keyLsRefreshMode = 1 ∧ v = 1 then 1 else 0
  | 3 => min (max v (dictGet s keyTollRateFloor)) 1024
  | 4 => min (max v (dictGet s keyScrubEveryMin)) (dictGet s keyScrubEveryMax)
  | _ => v

/-- The value of an agreed setting in force: none for a window. -/
def settingNow (s : State) (code : Nat) : Option Nat :=
  match code with
  | 1 => some (dictGet s keyClkStep)
  | 2 => some (if s.stacked.lowRate then 1 else 0)
  | 3 => some (dictGet s keyTollRate)
  | 4 => some (dictGet s keyScrubEvery)
  | _ => none

/-- R567: a setting that the governor owns has changed. DEDUCED (log entry 67). -/
def govChange (s : State) (setting old new : Nat) : State :=
  if old = new then s else logEntry s 0 0x1004 0 0 (packData [(8, setting), (32, old), (32, new)])

/-- R420, R524: the anchor agrees a merged wish, where it changes anything and the owner has not pinned the settings. -/
def anchorDecide (s : State) (code v : Nat) : State :=
  let b := ownerBounds s code v
  let st := dictGet s keyLsState
  let pinned := dictGet s keyLsPinGovernor = 1 ∧ st = 5 ∧ code ≤ 4
  let waiting := s.lockstep.agreements.any fun a => a.code = code && a.value = b
  if pinned ∨ (st ≠ 4 ∧ st ≠ 5) ∨ settingNow s code = some b ∨ waiting then s
  else anchorAgree s code b (decide (b < dictGet s keyClkStep))

/-- R524: a wish, of a child's port or of this module's governor (8), goes on towards the anchor. -/
def takeWish (s : State) (code value port : Nat) : State :=
  let s1 := modLock s fun l => { l with wishes := mapSet none l.wishes (16 * code + port) (some value) }
  match mergedWish s1 code with
  | none => s1
  | some v => if isAnchor s then anchorDecide s1 code v else sendMessage s1 (dictGet s keyLsParentPort) 9 2 ((code % 256) <<< 15 + (v % 2 ^ 32) <<< 32)

/-! Slips. -/

/-- R423: a slip noted; two with one tick are one. -/
def insertSlip (a : Slip) : List Slip → List Slip
  | [] => [a]
  | b :: t => if a.tick = b.tick then b :: t else if a.tick < b.tick then a :: b :: t else b :: insertSlip a t

def takeSlip (s : State) (tick port : Nat) : State :=
  let s1 := modLock s fun l => { l with slips := insertSlip { tick := tick, port := port } l.slips }
  if tick < tickOf s then agreeLate s1 0 tick else s1

/-- R421: a port that has accepted a late frame moves its releases by Q, and the module floods SLIP. -/
def reportSlip (s : State) (p : Nat) : State :=
  let tick := roundUp (tickOf s + dictGet s keyFloodBound) 64
  let x := getPort s.links p
  let s1 := { s with links := setPort s.links p { x with moves := x.moves ++ [(tick, 0)] } }
  takeSlip (flood s1 0xA 3 ((tick % 2 ^ 60) <<< 32 + (p % 8) <<< 92)) tick p

/-- R421, R422: by how much a port moves the release of a frame sent in tick `sent` and due at `due`. DEDUCED (log entry 52). -/
def releaseMove (x : Port) (q sent due : Nat) : Nat :=
  (x.moves.filter fun m => decide (sent < m.1) && decide (m.2 ≤ due)).length * q

end Sys2Proof.Machine
end

