-- ==== Sys2Proof/Machine/LinkOps.lean ====
section
/-! DEFINITION. The ports at work: control blocks (R358), frames in and out (R360, R374), recovery (R375), training (R376 to
R380), electrical idle (R383, R384) and the reset of a port (R385). -/

namespace Sys2Proof.Machine

def modPort (s : State) (p : Nat) (f : Port → Port) : State := { s with links := setPort s.links p (f (getPort s.links p)) }

/-- R504: the power domain of a port is on. -/
def portPowered (s : State) (p : Nat) : Bool := !s.power.off.getLsbD (if p < 4 then 17 else 18)

/-- R358: TYPE codes. -/
def controlTypes : List Nat := [0x00, 0x1E, 0x2D, 0x33, 0x4B, 0x55, 0x66, 0x78]

/-- R358: a control block of a type: acted on, or dropped and counted where its CRC fails or its TYPE is unknown. -/
def controlBlock (s : State) (p type : Nat) (b : U64) (act : State → State) : State :=
  if (crc8 (natBytes 7 b.toNat)).toNat ≠ bits b.toNat 56 8 ∨ ¬ controlTypes.contains (bits b.toNat 0 8) then portEvent s p 0x18 1 none
  else if bits b.toNat 0 8 = type then act s else s

/-- R360, R374: an EMPTY frame that carries the acknowledgement, and credits; at an idle transmitter it waits. DEDUCED (log entry 52). -/
def emitEmpty (s : State) (p : Nat) (nak : Bool) : State :=
  let x := getPort s.links p
  if sending x then
    modPort (emitFrame s p [] (x.txSeq - 1) (tickOf s) true nak) p fun x => { x with ackDue := false, nakDue := false }
  else modPort s p fun x => { x with ackDue := true, nakDue := x.nakDue || nak }

/-- R366: EMPTY frames until every freed unit is returned. -/
def returnCredits : Nat → State → Nat → State
  | 0, s, _ => s
  | n + 1, s, p =>
    let x := getPort s.links p
    if (returnedCredits x).isSome ∧ sending x then returnCredits n (emitEmpty s p false) p else s

/-- R374: every unacknowledged frame is sent again, in order. -/
def resendFrames (s : State) (p : Nat) : State :=
  let x := getPort s.links p
  let n := x.unacked.length
  let s1 := x.unacked.foldl (fun s f => emitFrame s p f.blocks f.seq f.tick false false) s
  let s2 := modPort s1 p fun x => { x with replays := if n = 0 then x.replays else x.replays + 1 }
  dictSet (portEvent s2 p 0x13 n none) (portKey p 0xA) ((dictGet s2 (portKey p 0xA) + n) % 2 ^ 64)

/-- R375: a port enters RECOVERY, with a cause of the ledger: 0 replays, 1 age, 2 block lock. -/
def enterRecovery (s : State) (p cause : Nat) : State :=
  let s1 := modPort s p fun x => { x with state := .recovery, replays := 0, idleTx := false, idleRx := false }
  let s2 := dictBump (portEvent { s1 with out := s1.out ++ [.trainBurst p] } p 0x14 1 none) (portKey p 0xB) 1
  logEntry s2 1 0x4001 3 p (packData [(8, cause)])

/-- R374: frames that an ACK_SEQ covers leave the replay buffer. -/
def ackFrames (x : Port) (ack : Byte) : Port :=
  match x.unacked.findIdx? fun f => f.seq = ack with
  | some i => { x with unacked := x.unacked.drop (i + 1), replays := 0 }
  | none => x

/-- R366: credits returned by the partner. -/
def takeCredits (x : Port) (pair n : Nat) : Port := { x with used := mapMod 0 x.used pair (· - n) }

/-- R381: the tick a frame was first sent in: the latest at or before now with these low bits. -/
def sendTick (now low : Nat) : Nat := now - (now + 128 - low % 128) % 128

/-- R381, R402: the tick in which an accepted frame is released: at once in elastic mode. DEDUCED (log entry 52). -/
def releaseTick (s : State) (x : Port) (low : Nat) : Nat :=
  if lockstepMode s then
    let sent := sendTick (tickOf s) low
    let due := sent + dictGet s keySysLat
    due + releaseMove x s.lockstep.quantum sent due
  else tickOf s

/-- R374, R381: a good frame in sequence is accepted; in lock-step mode a late one moves the port's releases by a slip.
DEDUCED (log entry 52). -/
def acceptFrame (s : State) (p : Nat) (blocks : List U64) (low : Nat) : State :=
  let x := getPort s.links p
  let late := decide (releaseTick s x low < tickOf s)
  let s1 := if late then reportSlip (portEvent s p 0x15 1 none) p else s
  let x1 := getPort s1.links p
  let t := takePackets blocks.length (x1.spanning ++ blocks) []
  let x2 : Port := { x1 with expect := x1.expect + 1, accepted := true, nakSent := false, spanning := t.2
                             held := x1.held ++ [{ release := releaseTick s1 x1 low, packets := t.1 }] }
  let s2 := t.1.foldl (fun s q => portEvent s p 0x11 1 (some (opcodeClass q.opcode))) { s1 with links := setPort s1.links p x2 }
  emitEmpty s2 p false

/-- R374: a discarded frame: the first after a good one is answered with NAK. -/
def discardFrame (s : State) (p : Nat) : State :=
  if (getPort s.links p).nakSent then s else emitEmpty (modPort s p fun x => { x with nakSent := true }) p true

/-- R357: the headers of the blocks of a frame. -/
def isBlockError (h : BitVec 2) : Bool := h = 0 || h = 3

/-- R357, R359: what a lane has seen in its last 64 blocks, with the two that a frame brings it. -/
def laneSeen (x : Port) (headers : List (BitVec 2)) (lane : Nat) : List Bool :=
  let l := mapGet [] x.errors lane ++ ([headers.getD lane 1, headers.getD (lane + 16) 1].map isBlockError)
  l.drop (l.length - 64)

/-- R357: the lanes that see 16 block errors in 64 consecutive blocks. -/
def lostLanes (x : Port) : List Nat := (List.range 16).filter fun i => 16 ≤ ((mapGet [] x.errors i).filter id).length

/-- R357: a lane has lost block lock. -/
def unlockLane (x : Port) (lane : Nat) : Port :=
  { x with locked := x.locked &&& ~~~ (1#16 <<< lane), errors := mapSet [] x.errors lane [] }

/-- R357, R375: the headers of a frame noted at their lanes; a lane that loses block lock takes the port into RECOVERY. -/
def noteHeaders (s : State) (p : Nat) (headers : List (BitVec 2)) : State :=
  let s1 := modPort s p fun x => { x with errors := (List.range 16).foldl (fun m i =>
    let l := laneSeen x headers i
    mapSet [] m i (if l.contains true then l else [])) x.errors }
  match lostLanes (getPort s1.links p) with
  | [] => s1
  | lost => enterRecovery (modPort s1 p fun x => lost.foldl unlockLane x) p 2

/-- R361, R374: a data frame. -/
def dataFrame (s : State) (p : Nat) (blocks : List U64) (trailer : U64) (blockError : Bool) : State :=
  let t := trailer.toNat
  let s0 := modPort s p fun x => { x with idleRx := false, state := if x.state = .elecIdle ∧ ¬ x.idleTx then .up else x.state }
  if blockError ∨ blocks.length ≠ 31 ∨ frameTrailer blocks (t % 2 ^ 32) ≠ trailer then
    let s1 := portEvent s0 p 0x12 1 none
    discardFrame (dictSet s1 (portKey p 9) ((dictGet s1 (portKey p 9) + 1) % 2 ^ 64)) p
  else
    let s1 := modPort s0 p fun x =>
      takeCredits (if bit t 16 then ackFrames x (BitVec.ofNat 8 (bits t 8 8)) else x) (2 * bits t 19 2 + bits t 21 1) (bits t 22 3)
    let s2 := if bit t 17 then resendFrames s1 p else s1
    let s3 := transmit s2 p
    if bit t 18 then s3
    else if BitVec.ofNat 8 (bits t 0 8) = (getPort s3.links p).expect then acceptFrame s3 p blocks (bits t 25 7)
    else discardFrame s3 p

/-- R47: the class of an entry. -/
def entryPersist (key : Nat) : Option Persist := (entryFind (key / 256) (key % 256)).map (·.persist)

/-- Entries for which a test holds returned to their defaults. DEDUCED (log entry 66). -/
def returnEntries (s : State) (p : Nat → Bool) : State := { s with dict := s.dict.filter fun e => !p e.1 }

/-- R387, R589: the VOLATILE entries of a link port returned: its partner, its latencies and its eye margin. -/
def returnPort (s : State) (p : Nat) : State := returnEntries s fun k => k / 256 = 0x4100 + p && entryPersist k = some .volatile

/-- R385, R589: the effects of a port's reset on everything but its training. -/
def clearPort (s : State) (p : Nat) : State :=
  let uses (a : Nat) : Bool := (spaceOf a = 4 || spaceOf a = 5) && routePort s (bits a 39 15) = some p
  let s1 := haltCaravans s uses .remote
  let s2 := loseForwards s1 p
  let s3 := answerRecords s2 p
  let s4 := modPort s3 p fun x =>
    { x with queue := [], used := [], txSeq := 0, unacked := [], replays := 0, expect := 0, accepted := false, nakSent := false, spanning := []
             held := [], returning := [], idleTx := false, idleRx := false, ackDue := false, locked := 0, moves := [], gtcAligned := false
             gtcHops := 63, fromRecovery := false, nakDue := false, partnerKnown := false, errors := [], messages := [], slot := 0 }
  let s5 := returnPort s4 p
  if p < 6 ∧ lockstepMode s then breachCm s5 4 else s5

/-- R375, R385, R589: a port falls to DOWN or DISABLED; one that carried traffic is reset. DEDUCED (log entry 47). -/
def portFall (s : State) (p : Nat) (next : PortState) : State :=
  let was := (getPort s.links p).state
  let carried := was = .up ∨ was = .elecIdle ∨ was = .recovery ∨ (was = .training ∧ (getPort s.links p).fromRecovery)
  let s1 := if carried then clearPort s p else returnPort s p
  let s2 := modPort s1 p fun x => { x with state := next, trainStep := 0 }
  if was ≠ .down ∧ was ≠ .disabled ∧ next = .down then logEntry s2 2 0x4002 3 p 0 else s2

/-- R376, R377, R575: whether a DOWN port may train. -/
def mayTrain (s : State) (p : Nat) : Bool :=
  (getPort s.links p).state = .down && portEnabled s p && portPowered s p && (getPort s.links p).cable

/-- R358, R377: a TRAIN block of this module's. Its serial, role and probe fields have no layout: free values. PRESUMED (log entry
50). -/
def trainBlock (s : State) (p : Nat) : U64 := makeControl 0x66 ((getPort s.links p).trainStep % 256 + (freshNat s % 2 ^ 40) <<< 8)

/-- R377: TRAIN blocks sent on every lane. -/
def sendTrain (s : State) (p : Nat) : State :=
  useFree { s with out := s.out ++ List.replicate 16 (Out.askuaControl p (trainBlock s p)) } 1

/-- R377: training begins. -/
def beginTraining (s : State) (p : Nat) : State := sendTrain (modPort s p fun x => { x with state := .training, trainStep := 0 }) p

/-- R378: whether the partner's role is the one the table requires. -/
def roleOk (p partner : Nat) : Bool := if p < 6 then partner = p ^^^ 1 else 6 ≤ partner

/-- R379: T_REPLAY. -/
def replayTicks (rtt : Nat) : Nat := ceilDiv rtt 16 + 1

/-- R380: LAT_FIXED. -/
def latFixed (s : State) (lat rtt : Nat) : Nat :=
  ceilDiv lat 16 + dictGet s keyLinkSlackReplays * replayTicks rtt + dictGet s keyLinkSlackExtra

/-- R403: a port that trained again during a run. -/
def latRunCheck (s : State) (p : Nat) : State :=
  if dictGet s keyLsState = 5 ∧ dictGet s keySysLat < dictGet s (portKey p 7) then
    detectFault (modPort s p fun x => { x with latExceeded := true }) 5
  else s

/-- What follows when a port comes UP: DISCs that waited leave, the walk may end, and its traffic flows. -/
def portCameUp (s : State) (p : Nat) : State :=
  let s1 := walkAdvance (discAdvance s)
  transmit (if (getPort s1.links p).unacked.isEmpty then s1 else resendFrames s1 p) p

/-- R354, R377: the lanes' receivers as a training leaves them: the taps it has chosen, and gains and weights, which adapt on: free
values. DESIGN CHOICE (log entry 91). -/
def settledLanes (s : State) (r : TrainResult) : List (Nat × LaneEq) :=
  (List.range 16).map fun i => (i, { dfeTaps := min (max 1 (r.dfeTaps.getD i 1)) 15, gain := Config.freeNat (s.free + i), weights := [] })

/-- R377 to R380: training completes. -/
def trainingDone (s : State) (p : Nat) (r : TrainResult) : State :=
  if ¬ r.trained then portFall s p .down
  else
    let own := dictGet s keySerial
    if ¬ roleOk p r.partnerPort.val ∨ r.partnerSerial.toNat = own then
      let s1 := dictSet (dictSet (portFall s p .miswired) (portKey p 2) r.partnerSerial.toNat) (portKey p 4) r.partnerPort.val
      logEntry s1 2 0x4003 3 p (packData [(64, own), (64, r.partnerSerial.toNat)])
    else
      let lat := ceilDiv r.rttMinusTurnMax 2
      let fixed := latFixed s lat r.rttMax
      let set := dictGet s keyLinkLatSet
      let s1 := dictSet (dictSet s (portKey p 2) r.partnerSerial.toNat) (portKey p 4) r.partnerPort.val
      let s2 := dictSet (dictSet (dictSet s1 (portKey p 5) (lat % 65536)) (portKey p 6) (r.rttMax % 65536)) (portKey p 7) (fixed % 256)
      let s3 := modPort s2 p fun x =>
        { x with state := .up, fromRecovery := false, replays := 0, locked := 0xFFFF, latExceeded := set ≠ 0 && decide (set < fixed), slot := 0
                 reversed := r.lanesReversed, errors := [], equaliser := settledLanes s r }
      portCameUp (latRunCheck s3 p) p

/-- R383: a transmitter goes idle. -/
def goIdle (s : State) (p : Nat) : State :=
  let s1 := modPort s p fun x => { x with idleTx := true, state := .elecIdle }
  modPort { s1 with out := s1.out ++ List.replicate 32 (.askuaControl p (makeControl 0x55 0)) } p fun x => { x with slot := x.slot + 1 }

/-- R383: what an idle transmitter needs: nothing to send, nothing unacknowledged, no credit to return. -/
def nothingToSend (x : Port) : Bool := x.queue.isEmpty && x.unacked.isEmpty && (returnedCredits x).isNone && !x.ackDue

/-- R384: a transmitter leaves idle. -/
def leaveIdle (s : State) (p : Nat) : State :=
  let x := getPort s.links p
  let s1 := modPort s p fun x => { x with idleTx := false, state := if x.idleRx then .elecIdle else .up, slot := x.slot + 1 }
  let aligns := (alignBlocks x p ++ alignBlocks x p).map fun b => Out.askuaControl p b
  let s2 := portEvent { s1 with out := s1.out ++ [.trainBurst p] ++ aligns } p 0x19 1 none
  let s3 := transmit (if x.ackDue then emitEmpty s2 p x.nakDue else s2) p
  returnCredits 2048 s3 p

end Sys2Proof.Machine
end

