-- ==== Sys2Proof/Machine/LinkCmds.lean ====
section
/-! DEFINITION. The commands of the Askua ports (R353 to R388, R575). The writes of PORT_RESET and PORT_ENABLE are among the frames. -/

namespace Sys2Proof.Machine

/-- R357, R374: a data frame arrives at a port that carries traffic: the headers of its 32 blocks, the payloads of its 31 packet blocks,
and the payload of its trailer, as the descrambler gives them. DESIGN CHOICE (log entry 91). -/
def execDataFrame (p : PortId) (headers : List (BitVec 2)) (blocks : List U64) (trailer : U64) (s : State) : Result :=
  let st := (getPort s.links p.val).state
  if st = .up ∨ st = .elecIdle then .next (noteHeaders (dataFrame s p.val blocks trailer (headers.any (· ≠ 1))) p.val headers) else .next s

/-- R381: the oldest held frame's packets are released, at or after their tick and outside a stall. -/
def execPacketRelease (p : PortId) (s : State) : Result :=
  match (getPort s.links p.val).held with
  | [] => .next s
  | h :: rest =>
    if h.release ≤ tickOf s ∧ s.lockstep.stalled.isNone then
      let s1 := modPort (wakeS1 s) p.val fun x => { x with held := rest }
      let s2 := h.packets.foldl (fun s q => releasePacket s p.val q) s1
      .next (returnCredits 2048 s2 p.val)
    else .next s

/-- R374: no ACK_SEQ has advanced in time: every unacknowledged frame is sent again. -/
def execReplayTimeout (p : PortId) (s : State) : Result :=
  let x := getPort s.links p.val
  if sending x ∧ ¬ x.unacked.isEmpty then .next (resendFrames s p.val) else .next s

/-- R375: the oldest unacknowledged frame was first sent 112 ticks ago. -/
def execFrameAgeLimit (p : PortId) (s : State) : Result :=
  let x := getPort s.links p.val
  match x.unacked with
  | [] => .next s
  | f :: _ => if sending x ∧ f.tick + 112 ≤ tickOf s then .next (enterRecovery s p.val 1) else .next s

/-- R357, R375: a lane loses block lock. -/
def execBlockLockLoss (p : PortId) (lane : Fin 16) (s : State) : Result :=
  let x := getPort s.links p.val
  if x.state = .up ∨ (x.state = .elecIdle ∧ ¬ x.idleRx) then
    .next (enterRecovery (modPort s p.val fun x => unlockLane x lane.val) p.val 2)
  else .next s

/-- R375: after 4 consecutive replays without an advance the port enters RECOVERY. -/
def execRecovery (p : PortId) (s : State) : Result :=
  let x := getPort s.links p.val
  if sending x ∧ 4 ≤ x.replays then .next (enterRecovery s p.val 0) else .next s

/-- R375: the port has relocked and deskewed: it is UP and replays. -/
def execRecoveryRelock (p : PortId) (s : State) : Result :=
  if (getPort s.links p.val).state = .recovery then
    .next (portCameUp (modPort s p.val fun x => { x with state := .up, locked := 0xFFFF }) p.val)
  else .next s

/-- R375: a port not UP within 1 ms of RECOVERY runs full training. -/
def execRecoveryTimeout (p : PortId) (s : State) : Result :=
  if (getPort s.links p.val).state = .recovery then
    .next (modPort (beginTraining s p.val) p.val fun x => { x with fromRecovery := true })
  else .next s

/-- R358: NOP. -/
def execNopBlock (p : PortId) (block : U64) (s : State) : Result := .next (controlBlock s p.val 0 block fun s => s)

/-- R359: ALIGN: the lane is aligned, and the frame-slot count taken. -/
def execAlignBlock (p : PortId) (block : U64) (s : State) : Result :=
  .next (controlBlock s p.val 0x1E block fun s =>
    modPort s p.val fun x => { x with locked := x.locked ||| (1#16 <<< bits block.toNat 8 4), slots := BitVec.ofNat 32 (bits block.toNat 16 32)
                                      idleRx := false, state := if x.state = .elecIdle ∧ ¬ x.idleTx then .up else x.state })

/-- R393: GTC: the partner's hops and alignment. -/
def execGtcBlock (p : PortId) (block : U64) (s : State) : Result :=
  .next (controlBlock s p.val 0x2D block fun s =>
    modPort s p.val fun x => { x with gtcHops := bits block.toNat 48 6, gtcAligned := bit block.toNat 54 })

/-- A two-bit step of a tap: 1 up, 3 down. PRESUMED (log entry 72). -/
def tapStep (n : Nat) : Int := if n = 1 then 1 else if n = 3 then -1 else 0

/-- R355: whether a lane is the partner's worst, and below a least margin. PRESUMED (log entry 72). -/
def worstBelow (l : List (Nat × Nat)) (lane least : Nat) : Bool :=
  let m := mapGet 256 l lane
  l.all (fun e => m ≤ e.2) && decide (fp32Code (numDiv (.fin false m 0) (.fin false 256 0)) < least)

/-- R354, R355: EQ: the partner's eye margin of a lane, and a step of each of its transmitter taps: in training, or within a window for
the worst lane while it is below EQ_MARGIN_MIN. In training this end answers with a block of its own. -/
def execEqBlock (p : PortId) (block : U64) (s : State) : Result :=
  .next (controlBlock s p.val 0x33 block fun s =>
    let lane := bits block.toNat 8 4
    let s1 := modPort s p.val fun x =>
      let t := mapGet (0, 0, 0) x.taps lane
      let t' := (t.1 + tapStep (bits block.toNat 12 2), t.2.1 + tapStep (bits block.toNat 14 2), t.2.2 + tapStep (bits block.toNat 16 2))
      let margins := mapSet 256 x.partnerMargins lane (bits block.toNat 24 8)
      let steps : Bool := x.state = .training || (x.eqWindow && worstBelow margins lane (dictGet s keyEqMarginMin))
      { x with partnerMargins := margins, taps := if steps then mapSet (0, 0, 0) x.taps lane t' else x.taps }
    let x := getPort s1.links p.val
    if x.state = .training then
      useFree { s1 with out := s1.out ++ [.askuaControl p.val (eqBlock s1 lane (mapGet (BitVec.allOnes 32) x.margins lane))] } 1
    else s1)

/-- R358: STATUS: the partner's port state and RTT_MEAS. -/
def execStatusBlock (p : PortId) (block : U64) (s : State) : Result :=
  .next (controlBlock s p.val 0x4B block fun s =>
    modPort s p.val fun x => { x with partnerState := bits block.toNat 8 3, partnerRtt := bits block.toNat 16 16 })

/-- R383: IDLE_ENTER: the partner's transmitter stops driving. -/
def execIdleEnter (p : PortId) (block : U64) (s : State) : Result :=
  .next (controlBlock s p.val 0x55 block fun s =>
    let x := getPort s.links p.val
    if ¬ lockstepMode s ∧ (x.state = .up ∨ x.state = .elecIdle) then modPort s p.val fun x => { x with idleRx := true, state := .elecIdle } else s)

/-- R377: TRAIN: the partner's handshake step, which this end's own blocks follow. -/
def execTrainBlock (p : PortId) (block : U64) (s : State) : Result :=
  .next (controlBlock s p.val 0x66 block fun s =>
    if (getPort s.links p.val).state = .training then sendTrain (modPort s p.val fun x => { x with trainStep := bits block.toNat 8 8 }) p.val
    else s)

/-- R377: a port whose domain is on, enabled and cabled begins to train. -/
def execPortTrainingStart (p : PortId) (s : State) : Result := if mayTrain s p.val then .next (beginTraining s p.val) else .next s

/-- R377 to R380: a port completes its training. -/
def execPortTrainingDone (p : PortId) (r : TrainResult) (s : State) : Result :=
  if (getPort s.links p.val).state = .training then .next (trainingDone s p.val r) else .next s

/-- R377: a port not UP within 80 ms falls back to DOWN. -/
def execTrainingTimeout (p : PortId) (s : State) : Result :=
  if (getPort s.links p.val).state = .training then .next (portFall s p.val .down) else .next s

/-- R376: a DOWN port trains again every 100 ms. -/
def execTrainingRetry (p : PortId) (s : State) : Result := if mayTrain s p.val then .next (beginTraining s p.val) else .next s

/-- R354: a lane's gain and tap weights adapt while it carries traffic: free values. DESIGN CHOICE (log entry 91). -/
def adaptLane (s : State) (p lane : Nat) : State :=
  let x := getPort s.links p
  if sending x then
    let e := mapGet {} x.equaliser lane
    let e' : LaneEq := { e with gain := freshNat s, weights := (List.range e.dfeTaps).map fun i => Config.freeNat (s.free + 1 + i) }
    useFree (modPort s p fun x => { x with equaliser := mapSet {} x.equaliser lane e' }) (1 + e.dfeTaps)
  else s

/-- R355: a lane's eye margin; the port's is the smallest of its lanes'. -/
def execEyeMarginReport (p : PortId) (lane : Fin 16) (margin : U32) (s : State) : Result :=
  let s1 := modPort (adaptLane s p.val lane.val) p.val fun x => { x with margins := mapSet (BitVec.allOnes 32) x.margins lane.val margin }
  .next (dictSet s1 (portKey p.val 8) (((worstLane (getPort s1.links p.val).margins).map fun w => w.2.toNat).getD 0))

/-- R373: a recorded request has no response in time. -/
def execRemoteTimeout (east : Bool) (tag : BitVec 14) (s : State) : Result :=
  let c := getCorner s.links east
  match takeFirst (fun r => r.tag = tag.toNat) c.records with
  | none => .next s
  | some (r, rest) =>
    let s1 := portEvent { s with links := setCorner s.links east { c with records := rest } } r.port.val 0x1C 1 none
    .next (answerLocal s1 r.port.val r.srcEp r.tag r.opcode 0)

/-- R383: an elastic port's transmitter has had nothing to send for IDLE_ENTRY. -/
def execElecIdleEntry (p : PortId) (s : State) : Result :=
  let x := getPort s.links p.val
  if ¬ lockstepMode s ∧ dictGet s keyIdleEntry ≠ 0 ∧ (x.state = .up ∨ x.state = .elecIdle) ∧ ¬ x.idleTx ∧ nothingToSend x then
    .next (goIdle s p.val)
  else .next s

/-- R384: something waits at an idle transmitter. -/
def execElecIdleExit (p : PortId) (s : State) : Result :=
  let x := getPort s.links p.val
  if x.state = .elecIdle ∧ x.idleTx ∧ ¬ nothingToSend x then .next (leaveIdle s p.val) else .next s

/-- R384: a receiver has no block lock 120 ns after the burst began. -/
def execIdleExitTimeout (p : PortId) (s : State) : Result :=
  let x := getPort s.links p.val
  if x.state = .elecIdle ∧ x.idleRx then .next (enterRecovery s p.val 2) else .next s

/-- R569, R575: a cable's presence changes: an unmated port falls to DOWN. -/
def execCblPrsntChange (p : PortId) (present : Bool) (s : State) : Result :=
  let s1 := modPort s p.val fun x => { x with cable := present }
  if ¬ present ∧ (getPort s.links p.val).state ≠ .disabled then .next (portFall s1 p.val .down) else .next s1

/-- R355, R523: an EQ step window closes. -/
def execEqWindowClose (p : PortId) (s : State) : Result := .next (modPort s p.val fun x => { x with eqWindow := false })

end Sys2Proof.Machine
end

