-- ==== Sys2Proof/Machine/LockCmds.lean ====
section
/-! DEFINITION. The commands of the lock-step controller (R389 to R430). The writes of LS_RESTART, LS_READY, LAUNCH and LS_STOP are
among the frames. -/

namespace Sys2Proof.Machine

/-- R409, R410: DISC: a walk, or with DIM 3 a neighbour check. -/
def execDisc (p : PortId) (m : LsMsg) (s : State) : Result :=
  .next (takeMessage s p.val m false fun s =>
    let d := msgField m 15 2
    if d = 3 then
      (if s.lockstep.addressed then checkNeighbour s p.val m.orig.toNat
       else modLock s fun l => { l with checks := l.checks ++ [{ port := p.val, orig := m.orig.toNat }] })
    else if 6 ≤ p.val then s
    else walkAdvance (takeWalk s p.val d m.orig.toNat (bit m.data.toNat 17) (bit m.data.toNat 18)))

/-- R409: DISC_DONE answers a DISC of this module. -/
def execDiscDone (p : PortId) (m : LsMsg) (s : State) : Result :=
  .next (takeMessage s p.val m false fun s =>
    if s.lockstep.discOut.contains p.val then
      let s1 := modLock s fun l =>
        let l1 : Lockstep := { l with discOut := l.discOut.filter (· ≠ p.val), walkCount := l.walkCount + msgField m 15 15
                                      walkLat := max l.walkLat (msgField m 32 8)
                                      walkErr := if l.walkErr = 0 then msgField m 56 8 else l.walkErr }
        learnSize (learnSize l1 1 (msgField m 40 6)) 2 (msgField m 46 5)
      walkAdvance s1
    else s)

/-- R410: SHAPE. -/
def execShape (p : PortId) (m : LsMsg) (s : State) : Result :=
  .next (takeFlood s p.val m 3 2 fun s =>
    takeShape s (msgField m 15 6) (msgField m 21 6) (msgField m 27 5) (msgField m 32 8) (msgField m 40 13))

/-- R411: ALIGN_DONE from a child. -/
def execAlignDone (p : PortId) (m : LsMsg) (s : State) : Result :=
  .next (takeMessage s p.val m false fun s =>
    alignAdvance (modLock s fun l =>
      { l with alignDone := mapSet (0, 0, 0) l.alignDone p.val (msgField m 15 15, msgField m 32 8, msgField m 40 6) }))

/-- R411: ARM. -/
def execArm (p : PortId) (m : LsMsg) (s : State) : Result :=
  .next (takeFlood s p.val m 5 1 fun s => if dictGet s keyLsState = 2 then reachState s 4 else s)

/-- R416: READY from a child. -/
def execReady (p : PortId) (m : LsMsg) (s : State) : Result :=
  .next (takeMessage s p.val m false fun s =>
    sendReady (modLock s fun l => { l with readyCounts := mapSet 0 l.readyCounts p.val (msgField m 15 15) }))

/-- R417: LAUNCH. -/
def execLaunchMessage (p : PortId) (m : LsMsg) (s : State) : Result :=
  .next (takeFlood s p.val m 7 3 fun s => takeLaunch s (msgField m 15 17) (msgField m 32 60) (bit m.data.toNat 92))

/-- R524: REQUEST from a child. -/
def execRequest (p : PortId) (m : LsMsg) (s : State) : Result :=
  .next (takeMessage s p.val m false fun s => takeWish s (msgField m 15 8) (msgField m 32 32) p.val)

/-- R421: SLIP. -/
def execSlip (p : PortId) (m : LsMsg) (s : State) : Result :=
  .next (takeFlood s p.val m 0xA 3 fun s => takeSlip s (msgField m 32 60) (msgField m 92 3))

/-- R413: FAULT. -/
def execFault (p : PortId) (m : LsMsg) (s : State) : Result :=
  .next (takeFlood s p.val m 0xB 1 fun s => enterFault s (msgField m 15 8) m.orig.toNat)

/-- R414: RESTART takes effect, and the anchor starts discovery again. DEDUCED (log entry 56). -/
def takeRestart (s : State) : State := startDiscovery (restartLock s)

/-- R414: RESTART. -/
def execRestart (p : PortId) (m : LsMsg) (s : State) : Result :=
  .next (takeFlood s p.val m 0xC 1 fun s =>
    modLock (takeRestart s) fun l => { l with seen := mapSet none l.seen m.orig.toNat (some m.seq.toNat) })

/-- R395, R397: the parent's blocks read ALIGNED: the module locks to its parent port's clock. -/
def execGtcAlignmentStart (p : PortId) (s : State) : Result :=
  let st := dictGet s keyLsState
  let x := getPort s.links p.val
  if s.lockstep.addressed ∧ ¬ isAnchor s ∧ dictGet s keyLsParentPort = p.val ∧ x.state = .up ∧ x.gtcAligned ∧ s.lockstep.aligning.isNone
      ∧ (¬ s.lockstep.aligned ∨ dictGet s keyLsHops ≠ x.gtcHops + 1) ∧ st ≠ 0 ∧ st ≠ 1 then
    .next (modLock s fun l => { l with aligning := some p.val })
  else .next s

/-- R395: the module is aligned: its counter takes the anchor's count, and calendar time goes on unchanged. -/
def execGtcAligned (newGtc : U64) (s : State) : Result :=
  match s.lockstep.aligning with
  | none => .next s
  | some p =>
    let d := newGtc - s.gtc
    let s1 := logEntry s 1 0x9001 0 0 (packData [(64, s.gtc.toNat), (64, newGtc.toNat)])
    let s2 := { s1 with gtc := newGtc, epoch := s1.epoch - d
                        lockstep := { s1.lockstep with aligning := none, aligned := true, gtcMoved := s1.lockstep.gtcMoved + d } }
    let s3 := dictSet s2 keyLsHops ((getPort s2.links p).gtcHops + 1)
    .next (alignAdvance (if s3.lockstep.mode then dictSet s3 keyClkSource 1 else s3))

/-- R397: a new parent: a neighbour that is aligned, no further from the anchor, of lowest HOPS and then lowest port. -/
def newParent (s : State) : Option Nat :=
  let able := (List.range 6).filter fun p =>
    let x := getPort s.links p
    x.state = .up && x.gtcAligned && decide (x.gtcHops ≤ dictGet s keyLsHops)
  able.foldl (fun m p =>
    match m with
    | none => some p
    | some q => if (getPort s.links p).gtcHops < (getPort s.links q).gtcHops then some p else some q) none

/-- R397: the parent port has left UP: a new parent is taken and aligned to, or the frequency is held. -/
def execParentLoss (s : State) : Result :=
  let p := dictGet s keyLsParentPort
  if ¬ s.lockstep.aligned ∨ isAnchor s ∨ (p < 8 ∧ portUp s p) then .next s
  else
    match newParent s with
    | some q => .next (modLock (dictSet s keyLsParentPort q) fun l => { l with aligning := some q })
    | none => .next (modLock (dictSet s keyLsParentPort 0xFF) fun l => { l with aligning := none })

/-- R397: 50 ms without a parent. -/
def execNoReferenceTimeout (s : State) : Result :=
  if s.lockstep.aligned ∧ ¬ isAnchor s ∧ dictGet s keyLsParentPort = 0xFF then .next (detectFault s 8) else .next s

/-- R413: a torus port has been out of UP for 1 s during start-up. -/
def execPortDownTimeout (p : PortId) (s : State) : Result :=
  let st := dictGet s keyLsState
  if p.val < 6 ∧ portEnabled s p.val ∧ ¬ portUp s p.val ∧ (st = 1 ∨ st = 2 ∨ st = 4) then .next (detectFault s 9) else .next s

/-- R414: an anchor has not armed in time. -/
def execLsStartTimeout (s : State) : Result :=
  let st := dictGet s keyLsState
  if isAnchor s ∧ dictGet s keyLsStartTimeout ≠ 0 ∧ (st = 1 ∨ st = 2) then .next (detectFault s 0xB) else .next s

/-- Contexts on die written to their homes, and none left there (R417). -/
def contextsHome (s : State) : State :=
  let s1 := s.banks.foldl (fun s b => b.2.onDie.foldl (fun s v => storeContext s v.val) s) s
  { s1 with banks := [] }

/-- R417: at L − 512: a core-array reset; contexts on die are written to their homes, and cached translations are gone. -/
def execLaunchPrepare (s : State) : Result :=
  match s.lockstep.launch with
  | none => .next s
  | some l =>
    if l.done = 0 ∧ l.tick ≤ tickOf s + 512 then
      let s1 := contextsHome (coreArrayReset s)
      .next { s1 with queues := { s1.queues with ttCache := [] }, pcie := { s1.pcie with atsCache := [] }
                      lockstep := { s1.lockstep with launch := some { l with done := 1 } } }
    else .next s

/-- Every open row of every controller closed. -/
def prechargeAll (m : Stacked) : Stacked :=
  { m with towers := mapAll {} (fun t => { t with pcs := mapAll {} (fun c => { c with openRows := [] }) t.pcs }) m.towers }

/-- R417: at L − 1: every bank is precharged, and floor padding is set. -/
def execLaunchPrecharge (s : State) : Result :=
  match s.lockstep.launch with
  | none => .next s
  | some l =>
    if l.done = 1 ∧ l.tick ≤ tickOf s + 1 then
      .next { s with stacked := prechargeAll s.stacked, lockstep := { s.lockstep with launch := some { l with done := 2 } }, net := { s.net with floor := l.floor } }
    else .next s

/-- R417: at L: the module is RUNNING and the program starts. -/
def execLaunchTick (s : State) : Result :=
  match s.lockstep.launch with
  | none => .next s
  | some l =>
    if l.done = 2 ∧ l.tick ≤ tickOf s then
      let s1 := dictSet (dictSet (dictSet (dictSet s keyLsState 5) keyModuleState 2) keySlips 0) keyLastSlipTick 0
      .next (programStart (modLock s1 fun l => { l with launch := none }))
    else .next s

/-- R418: STOP at its tick: a core-array reset, and ARMED again. -/
def stopRun (s : State) : State :=
  let s1 := stopProgram s
  let s2 := dictSet (dictSet s1 keyLsState (if dictGet s keyLsState = 5 then 4 else dictGet s keyLsState)) keyReadyStatus 0
  modLock { s2 with net := { s2.net with floor := false } } fun l => { l with ready := false, readyCounts := [] }

/-- R519 to R521: a step takes effect; a throttle holds step 4 or a higher one. -/
def setStep (s : State) (step : Nat) : State :=
  let s1 := { s with power := { s.power with step := step, railTo := none } }
  dictSet s1 keyClkStep (if dictGet s keyThrottleActive = 1 then max step 4 else step)

/-- R419: an agreed change takes effect. -/
def applyAgreement (s : State) (code value : Nat) : State :=
  match code with
  | 1 => govChange (setStep s (min value 7)) 1 s.power.step (min value 7)
  | 2 => { s with stacked := { s.stacked with lowRate := value = 1 } }
  | 3 => govChange (dictSet s keyTollRate value) 3 (dictGet s keyTollRate) value
  | 4 => govChange (dictSet s keyScrubEvery value) 4 (dictGet s keyScrubEvery) value
  | 5 => (List.range 8).foldl (fun s p =>
      if portUp s p ∧ dictGet s (portKey p 8) < dictGet s keyEqMarginMin then modPort s p fun x => { x with eqWindow := true } else s) s
  | 6 => stopRun s
  | _ => s

/-- R407, R419: an AGREE that arrives: one whose tick has passed is applied at once, unless a stall holds it. -/
def agreeArrives (s : State) (code value tick seq : Nat) : State :=
  if tick < tickOf s ∧ s.lockstep.stalled.isNone ∧ dictGet s keyLsState ≠ 6 then applyAgreement (agreeLate s code tick) code value
  else takeAgree s code value tick seq

/-- R419: AGREE. -/
def execAgree (p : PortId) (m : LsMsg) (s : State) : Result :=
  .next (takeFlood s p.val m 8 4 fun s => agreeArrives s (msgField m 15 8) (msgField m 32 32) (msgField m 64 60) m.seq.toNat)

/-- R419: the first agreement whose tick has come, outside a stall, is applied. -/
def execAgreeApply (s : State) : Result :=
  match s.lockstep.agreements with
  | [] => .next s
  | a :: rest =>
    if a.tick ≤ tickOf s ∧ s.lockstep.stalled.isNone then
      .next (applyAgreement (modLock s fun l => { l with agreements := rest }) a.code a.value)
    else .next s

/-- R422: a port's held frames at a stall: those due at or after S move by Q, unless the port has moved for this slip.
DESIGN CHOICE (log entry 10). -/
def stallPort (q : Nat) (tick : Nat) (x : Port) : Port :=
  if x.moves.any fun m => m.1 = tick then x
  else { x with held := x.held.map fun h => if tick ≤ h.release then { h with release := h.release + q } else h
                moves := x.moves ++ [(tick, tick)] }

/-- R422: at tick S the stall begins. -/
def execSlipStallBegin (s : State) : Result :=
  match s.lockstep.slips with
  | [] => .next s
  | a :: rest =>
    if a.tick ≤ tickOf s ∧ s.lockstep.stalled.isNone then
      let q := s.lockstep.quantum
      let s1 := { s with links := { s.links with ports := mapAll {} (stallPort q a.tick) s.links.ports }
                         lockstep := { s.lockstep with slips := rest, stalled := some (max a.tick (tickOf s) + q) } }
      let s2 := dictSet (dictBump s1 keySlips 1) keyLastSlipTick ((16 * a.tick) % 2 ^ 64)
      .next (breachCm (logEntry s2 1 0x9004 0 0 (packData [(64, a.tick), (8, a.port)])) 1)
    else .next s

/-- R422: every unit resumes. -/
def execSlipStallEnd (s : State) : Result :=
  match s.lockstep.stalled with
  | none => .next s
  | some e => if e ≤ tickOf s then .next (modLock s fun l => { l with stalled := none }) else .next s

end Sys2Proof.Machine
end

