-- ==== Sys2Proof/Machine/ConfigOps.lean ====
section
/-! DEFINITION. Configuration (R477 to R501): the store, the sources of frames, the assay, isolation, full and partial loads, scrubs
to blank and region resets, and what a write of their entries starts. -/

namespace Sys2Proof.Machine

/-- Whether a load, a scrub to blank or a region reset is in progress (R490, R498). -/
def configBusy (s : State) : Bool :=
  s.fabric.load.isSome || s.fabric.regions.any fun x => x.2.code = .draining || x.2.code = .loading || x.2.code = .scrubbing || x.2.code = .resetting

/-- The key in a slot of the key store (R526). -/
def keyOfSlot (s : State) (code : Nat) : Option (List Byte) := mapGet none s.security.keys code

/-- The image of a full slot (0 to 3) or a library entry (0x80 + n). -/
def storeImage (s : State) (target : Nat) : Option StoreImage := mapGet none s.fabric.store.images target

/-- Bytes of stacked memory at a module address of space 0x0, 32 at a time, with the poison mark of each piece; none where a
translation fails. -/
def readPieces (s : State) (addr : Nat) : Nat → Option (List (List Byte × Bool))
  | 0 => some []
  | n + 1 =>
    match (translate s addr).1 with
    | .hit pa _ => (readPieces s (addr + 32) n).map fun rest => (stackRead s.stacked pa 32, stackPoison s.stacked pa) :: rest
    | _ => none

/-- A frame in stacked memory: its 544 bytes, and whether it carries poison. -/
def stackedFrame (s : State) (addr : Nat) : Option (List Byte × Bool) :=
  (readPieces s addr 17).map fun l => (l.flatMap (·.1), l.any (·.2))

/-- The next frame of a load from its source (R488, R490): its bytes and its poison mark, or none where the read failed. A
read of host memory is answered from outside. -/
def sourceFrame (s : State) (l : Load) (given : ReadAnswer) : Option (List Byte × Bool) :=
  match l.kind with
  | .full slot _ => (storeImage s slot).map fun i => (mapGet [] i.frames l.next, false)
  | .region _ source entry addr =>
    if source = 0 then (storeImage s (0x80 + entry)).map fun i => (mapGet [] i.frames l.next, false)
    else if source = 1 then stackedFrame s (addr.toNat + 544 * l.next)
    else match given with
      | .data bytes poison => some (bytes, poison ≠ 0)
      | _ => none

/-- A field of a frame's trailer (R479). -/
def trailerField (frame : List Byte) (lo n : Nat) : Nat := bits (leNat (frame.drop 512)) lo n

/-- REGION and FRAME that the order of R481 puts at a place of an image: of a full image, or of region `r`'s partial image. -/
def frameAt (region : Option Nat) (place : Nat) : Nat × Nat :=
  match region with
  | some r => (r, place)
  | none => if place < 5120 then (0x7F, place) else ((place - 5120) / 4608, (place - 5120) % 4608)

/-- Frames in an image (R481). -/
def imageFrames (region : Option Nat) : Nat := if region.isSome then 4608 else 300032

/-- R485, CONTENT: what a region's frame 4,596 to 4,607, or an isolation map, may not hold. DEDUCED (log entry 63). -/
def contentBad (region frame : Nat) (data : List Byte) : Bool :=
  if region = 0x7F then frame < 256 && data.any fun b => b &&& (b >>> 1) &&& 0x55 ≠ 0
  else if frame = 4596 then bits (leNat data) 1 7 ≠ 0 || bits (leNat data) 104 3992 ≠ 0
  else if frame = 4597 then
    (if region % 4 = 0 then (List.range 20).any fun k =>
        let w := leNat ((data.drop (4 * k)).take 4)
        bits w 2 2 = 3 || bits w 9 2 = 3 || bits w 12 20 ≠ 0
      else data.any (· ≠ 0))
  else if 4598 ≤ frame then data.any (· ≠ 0)
  else false

/-- The legacy sites that a frame of a region connects (R442). -/
def sitesOf (region frame : Nat) (data : List Byte) : List Nat := if region ≠ 0x7F ∧ frame < 3672 then Config.frameSites frame data else []

/-- Whether some legacy line has more than one of the sites of a list. -/
def sitesClash (sites : List Nat) : Bool := sites.any fun a => sites.any fun b => a ≠ b && a / 8 = b / 8

/-- R487: the data bits of a frame as cells take them: as carried, or decrypted where ENC is 1. -/
def frameData (s : State) (frame : List Byte) : Option (List Byte) :=
  if trailerField frame 24 1 = 0 then some (frame.take 512)
  else
    match keyOfSlot s (0x10 + trailerField frame 26 3) with
    | none => none
    | some key =>
      let head := (frame.drop 512).take 8
      gcmDecrypt key (head ++ List.replicate 4 0) head (frame.take 512) ((frame.drop 528).take 16)

/-- R485: the assay of a frame at a place: the outcome code, and the data bits that would commit. `declared` is the region of
a partial load or library entry, `imageId` the IMAGE_ID of the image's first frame, `sites` the legacy sites that this load has
connected in the frame's region. DEDUCED (log entry 63). -/
def assay (s : State) (declared : Option Nat) (place imageId : Nat) (sites : List Nat) (frame : List Byte) : Nat × List Byte :=
  let at_ := frameAt declared place
  let t := trailerField frame
  if (crc32c (frame.take 520)).toNat ≠ t 64 32 then (0x01, [])
  else if declared.isSome ∧ declared ≠ some (t 16 7) then (0x02, [])
  else if t 0 16 ≠ at_.2 ∨ t 16 7 ≠ at_.1 ∨ t 23 1 ≠ 0 ∨ t 29 3 ≠ 0 ∨ t 96 32 ≠ 0 ∨ t 25 1 ≠ (if place + 1 = imageFrames declared then 1 else 0) then
    (0x03, [])
  else if t 32 32 = 0 ∨ (place ≠ 0 ∧ t 32 32 ≠ imageId) then (0x04, [])
  else if t 24 1 = 0 ∧ dictGet s keyCfgRequireEnc = 1 then (0x05, [])
  else
    match frameData s frame with
    | none => (0x06, [])
    | some data =>
      if contentBad at_.1 at_.2 data then (0x07, data)
      else if sitesClash (sites ++ sitesOf at_.1 at_.2 data) then (0x08, data)
      else (0x00, data)

/-- R493: a region isolated: the pins' behaviour taken from the words in force, its border ports' requests completed with ERR
(R324). -/
def isolateRegion (s : State) (r : Nat) : State :=
  let x := getRegion s r
  if x.isolated then s
  else
    let words := (List.range 20).map fun k => BitVec.ofNat 32 (bits (leNat (cellBytes s (framePlace r 4597))) (32 * k) 32)
    let s1 := modRegion s r fun x => { x with isolated := true, held := crossingsHigh s r, pinsHeld := some words }
    (regionPorts r).foldl (fun s p =>
      let b := mapGet {} s.net.border p
      let s2 := { s with net := { s.net with border := mapSet {} s.net.border p { b with taken := [], queue := [] } } }
      (b.taken.map (·.2) ++ b.queue).foldl (fun s f => send s (errResponse f)) s2) s1

/-- A region's state set. -/
def setRegionCode (s : State) (r : Nat) (c : RegionCode) : State := modRegion s r fun x => { x with code := c }

/-- R492: a scrub to blank begins; `next` is the state it leaves. -/
def startScrub (s : State) (r : Nat) (next : RegionCode) (failed : Option (Nat × Nat)) : State :=
  modRegion (isolateRegion s r) r fun x => { x with code := .scrubbing, scrubTo := next, failed := failed }

/-- R495: a partial load ends with an outcome at a place: the region is scrubbed to blank and left INCOMPLETE. -/
def partialFailed (s : State) (r outcome place : Nat) : State :=
  startScrub { s with fabric := { s.fabric with load := none } } r .incomplete (some (outcome, place))

/-- R489: the fabric has no slot left to try: every region INCOMPLETE and isolated. -/
def fabricFailed (s : State) : State :=
  let s1 := (List.range 64).foldl (fun s r => setRegionCode (blankRegion (isolateRegion s r) r) r .incomplete) s
  dictSet { s1 with fabric := { s1.fabric with load := none } } keyFabricState 3

/-- R489: the record of a full load's end with an outcome at a place. -/
def recordFullFailure (s : State) (slot outcome place : Nat) : State :=
  let s1 := dictSet (dictSet s keyCfgLoadStatus outcome) keyCfgLoadFrame place
  logEntry (dictBump s1 keyCfgLoadsFailed 1) 3 0x5001 0 0 (packData [(8, slot), (8, outcome), (32, place)])

/-- R488: what a full load does as it begins: every region isolated and LOADING. -/
def openFullLoad (s : State) (slot : Nat) (fallback : Bool) : State :=
  let s1 := (List.range 64).foldl (fun s r => setRegionCode (isolateRegion s r) r .loading) s
  dictSet { s1 with fabric := { s1.fabric with load := some { kind := .full slot fallback } } } keyFabricState 1

/-- R489: a full load ends with an outcome at a place. Where its slot was CFG_BOOT_SLOT and another valid slot is named, that
one is loaded. -/
def fullFailed (s : State) (slot : Nat) (fallback : Bool) (outcome place : Nat) : State :=
  let s1 := recordFullFailure (fabricFailed s) slot outcome place
  let next := dictGet s keyCfgFallbackSlot
  if ¬ fallback ∧ slot = dictGet s keyCfgBootSlot ∧ next < 4 ∧ next ≠ slot ∧ (storeImage s next).isSome then openFullLoad s1 next true
  else s1

/-- R488, R478: a full load begins; an empty slot fails it with NO_IMAGE. -/
def startFullLoad (s : State) (slot : Nat) : State :=
  let s1 := openFullLoad s slot false
  if (storeImage s slot).isSome then s1 else fullFailed s1 slot false 0x0B 0

/-- R493, R494: a partial load begins, or the scrub to blank of source 3. -/
def beginPartial (s : State) (r source entry : Nat) (addr : U64) : State :=
  if source = 3 then startScrub { s with fabric := { s.fabric with load := none } } r .blank none
  else
    let s1 := setRegionCode (isolateRegion s r) r .loading
    let s2 := { s1 with fabric := { s1.fabric with load := some { kind := .region r source entry addr } } }
    if source = 0 ∧ (storeImage s (0x80 + entry)).isNone then partialFailed s2 r 0x0B 0 else s2

/-- R490, R491: PL_START accepted: the drain begins, or the load. -/
def plStart (s : State) : State :=
  let r := dictGet s keyPlRegion
  let source := dictGet s keyPlSource
  let entry := dictGet s keyPlLibEntry
  let addr := BitVec.ofNat 64 (dictGet s keyPlAddr)
  if dictGet s keyPlDrain = 1 then
    setRegionCode { s with fabric := { s.fabric with load := some { kind := .region r source entry addr, draining := true } } } r .draining
  else beginPartial s r source entry addr

/-- Whether an address of module space 0x3 lies at a border port of a region. -/
def endsAtRegion (r addr : Nat) : Bool := spaceOf addr = 3 && (regionPorts r).contains (bits addr 32 5)

/-- R497: a region reset begins. -/
def startRegionReset (s : State) (r : Nat) : State :=
  haltCaravans (setRegionCode (isolateRegion s r) r .resetting) (endsAtRegion r) .port

/-- R478: a SLOT_WRITE begins: the old record is invalidated. -/
def startSlotWrite (s : State) (target : Nat) : State :=
  let st := s.fabric.store
  let addr := BitVec.ofNat 64 (dictGet s keySlotWriteSrc)
  let st1 : Store := if target = 0x10 ∨ target = 0x11 then { st with firmware := mapSet none st.firmware target none }
    else { st with images := mapSet none st.images target none }
  let s1 := { s with fabric := { s.fabric with store := { st1 with job := some { target := target, addr := addr } } } }
  let s2 := if target < 4 then dictSet s1 (keySlotImageId0 + target) 0
    else if 0x80 ≤ target then dictSet s1 (keyLibRegion0 + (target - 0x80)) 0xFF
    else if target = 0x10 then dictSet s1 keyFwSlot0Build 0
    else dictSet s1 keyFwSlot1Build 0
  dictSet s2 keySlotWriteStatus 1

/-- R478: every frame of an image in stacked memory from `place` on, `n` of them, assayed but for DRIVERS: the outcome of the
first that fails, or 0. -/
def checkFrames (s : State) (declared : Option Nat) (addr imageId : Nat) : Nat → Nat → Nat
  | 0, _ => 0
  | n + 1, place =>
    match stackedFrame s (addr + 544 * place) with
    | none => 0x09
    | some (frame, poison) =>
      let r := assay s declared place imageId [] frame
      if r.1 ≠ 0 ∧ r.1 ≠ 0x08 then r.1 else if poison then 0x09 else checkFrames s declared addr imageId n (place + 1)

/-- R532: whether a build is of line 4 and not below a least build. -/
def buildOk (min build : Nat) : Bool := build / 2 ^ 24 = 4 && min ≤ build

/-- R531, R532: the check of a firmware image: header, body and build. -/
def firmwarePasses (x : Fuses) (min : Nat) (image : List Byte) : Bool :=
  let h (lo n : Nat) : Nat := bits (leNat (image.take 256)) lo n
  let body := (image.drop 256).take (h 64 32)
  h 0 32 = 0x57465247 && 1 ≤ h 64 32 && h 64 32 ≤ 8388352 && body.length = h 64 32
    && (image.drop 16).take 48 = sha384 body
    && ecdsaVerify (beNat (x.fwKey.take 48), beNat (x.fwKey.drop 48)) (image.take 64)
        (beNat ((image.drop 64).take 48)) (beNat ((image.drop 112).take 48))
    && buildOk min (h 32 32)

/-- R532: the check of what a firmware slot holds. -/
def firmwareCheck (x : Fuses) (min : Nat) (f : Firmware) : Bool :=
  if f.factory then buildOk min f.build.toNat else firmwarePasses x min f.image

/-- R478, R532: the end of a firmware slot's write. -/
def endFirmwareWrite (s : State) (target addr : Nat) : State :=
  match readPieces s addr 8 with
  | none => dictSet s keySlotWriteStatus (3 + 0x09 * 256)
  | some head =>
    let len := min (bits (leNat (head.flatMap (·.1))) 64 32) 8388352
    match readPieces s addr (ceilDiv (256 + len) 32) with
    | none => dictSet s keySlotWriteStatus (3 + 0x09 * 256)
    | some all =>
      let image := (all.flatMap (·.1)).take (256 + len)
      let build := bits (leNat (image.take 256)) 32 32
      if all.any (·.2) then dictSet s keySlotWriteStatus (3 + 0x09 * 256)
      else if firmwarePasses s.fuses (dictGet s keyFwMinBuild) image then
        let st := s.fabric.store
        let fw := mapSet none st.firmware target (some { image := image, build := BitVec.ofNat 32 build })
        let s1 := { s with fabric := { s.fabric with store := { st with firmware := fw } } }
        dictSet (dictSet s1 (if target = 0x10 then keyFwSlot0Build else keyFwSlot1Build) build) keySlotWriteStatus 2
      else dictSet s keySlotWriteStatus (3 + 0x07 * 256)

/-- R478: the end of a full slot's or library entry's write: every frame checked, then the record committed. -/
def endImageWrite (s : State) (target addr : Nat) : State :=
  match stackedFrame s addr with
  | none => dictSet s keySlotWriteStatus (3 + 0x09 * 256)
  | some (first, _) =>
    let declared := if target < 4 then none else some (trailerField first 16 7)
    let imageId := trailerField first 32 32
    let outcome := if declared.all (· < 64) then checkFrames s declared addr imageId (imageFrames declared) 0 else 0x03
    if outcome ≠ 0 then dictSet s keySlotWriteStatus (3 + outcome * 256)
    else
      let frames := (List.range (imageFrames declared)).map fun n => (n, ((stackedFrame s (addr + 544 * n)).map (·.1)).getD [])
      let st := s.fabric.store
      let image : StoreImage := { frames := frames, imageId := imageId, region := declared.getD 0xFF }
      let s1 := { s with fabric := { s.fabric with store := { st with images := mapSet none st.images target (some image) } } }
      let s2 := if target < 4 then dictSet s1 (keySlotImageId0 + target) imageId else dictSet s1 (keyLibRegion0 + (target - 0x80)) (declared.getD 0xFF)
      dictSet s2 keySlotWriteStatus 2

/-- R478: a SLOT_WRITE ends. -/
def endSlotWrite (s : State) : State :=
  match s.fabric.store.job with
  | none => s
  | some j =>
    let s1 := { s with fabric := { s.fabric with store := { s.fabric.store with job := none } } }
    if j.target = 0x10 ∨ j.target = 0x11 then endFirmwareWrite s1 j.target j.addr.toNat else endImageWrite s1 j.target j.addr.toNat

/-- The data bits of a frame in its cells. -/
def commitCells (s : State) (place : Nat) (data : List Byte) : State :=
  { s with fabric := { s.fabric with cells := mapSet [] s.fabric.cells place (if data.all (· = 0) then [] else data) } }

/-- R498: a warm reset ends a load with ABORTED. -/
def abortLoad (s : State) : State :=
  match s.fabric.load with
  | none => s
  | some l =>
    match l.kind with
    | .full slot _ => recordFullFailure (fabricFailed s) slot 0x0A l.next
    | .region r _ _ _ => partialFailed s r 0x0A l.next

/-- R485, R488, R494: the next frame of the load that runs is assayed, and commits or ends the load. DEDUCED (log entry 63). -/
def takeFrame (s : State) (given : ReadAnswer) : State :=
  match s.fabric.load with
  | none => s
  | some l =>
    let declared : Option Nat := match l.kind with
      | .full _ _ => none
      | .region r _ _ _ => some r
    if l.draining ∨ imageFrames declared ≤ l.next then s
    else
      let fail (s : State) (outcome : Nat) : State :=
        match l.kind with
        | .full slot fb => fullFailed s slot fb outcome l.next
        | .region r _ _ _ => partialFailed s r outcome l.next
      match sourceFrame s l given with
      | none => fail s 0x09
      | some (frame, poison) =>
        let at_ := frameAt declared l.next
        let sites := if at_.2 = 0 then [] else l.sites
        let r := assay s declared l.next l.imageId sites frame
        if r.1 ≠ 0 then fail s r.1
        else if poison then fail s 0x09
        else
          let place := match l.kind with
            | .full _ _ => l.next
            | .region r _ _ _ => framePlace r l.next
          let s1 := commitCells s place r.2
          let l1 : Load := { l with next := l.next + 1, imageId := if l.next = 0 then trailerField frame 32 32 else l.imageId
                                    sites := sites ++ sitesOf at_.1 at_.2 r.2 }
          { s1 with fabric := { s1.fabric with load := some l1 } }

/-- R443: the lines of a region that a contention disconnected connect again. -/
def mendLines (s : State) (r : Nat) : State :=
  let cut := s.fabric.cut.filter fun c => c.1 / 64 ≠ r
  let s1 := { s with fabric := { s.fabric with cut := cut } }
  let old := dictGet s keyContentionRegions
  dictSet s1 keyContentionRegions (if old.testBit r then old - 2 ^ r else old)

/-- R488, R491: the global start of every region after a full load. DEDUCED (log entry 63). -/
def globalStart (s : State) (milli : List Nat) : State :=
  match s.fabric.load with
  | some { kind := .full _ _, next := 300032, .. } =>
    let s1 := (List.range 9).foldl (fun s b => measureBank s b (milli.getD b 0) (if b < 8 then (List.range 40).map (40 * b + ·) else (List.range 32).map (320 + ·))) s
    let s2 := (List.range 64).foldl (fun s r => mendLines (beginRegion s r true) r) s1
    dictSet (dictSet { s2 with fabric := { s2.fabric with load := none } } keyFabricState 2) keyCfgLoadStatus 0
  | _ => s

/-- R494, R496: a loaded region starts; a reset one too. DEDUCED (log entry 63). -/
def startRegion (s : State) (r milli : Nat) : State :=
  match s.fabric.load with
  | some { kind := .region r' _ _ _, next := 4608, .. } =>
    if r' = r then
      let s1 := if regionPins r = [] then s else measureBank s (pinBank ((regionPins r).headD 0)) milli (regionPins r)
      dictSet (mendLines (beginRegion { s1 with fabric := { s1.fabric with load := none } } r true) r) keyCfgLoadStatus 0
    else s
  | _ => if (getRegion s r).code = .resetting then beginRegion s r false else s

/-- R492, R495: a scrub to blank ends. DEDUCED (log entry 63). -/
def endScrub (s : State) (r : Nat) : State :=
  let x := getRegion s r
  if x.code = .scrubbing then
    let s1 := modRegion (mendLines (blankRegion s r) r) r fun x => { x with code := x.scrubTo, pinsHeld := none, failed := none }
    match x.failed with
    | none => s1
    | some (outcome, place) =>
      let s2 := dictSet (dictSet s1 keyCfgLoadStatus outcome) keyCfgLoadFrame place
      logEntry (dictBump s2 keyCfgLoadsFailed 1) 2 0x5002 4 r (packData [(8, outcome), (32, place)])
  else s

/-- The area of a place of the full image and the frame's number there (R481). -/
def areaOf (place : Nat) : Option Nat × Nat := if place < 5120 then (none, place) else (some ((place - 5120) / 4608), (place - 5120) % 4608)

/-- R500: an uncorrectable word in a frame: counted, logged, and acted on. DEDUCED (log entry 64). -/
def scrubUncorrectable (s : State) (place : Nat) : State :=
  let a := areaOf place
  let s1 := dictBump s keyCfgSeuUncorrected 1
  match a.1 with
  | some r =>
    let action := dictGet s keyCfgUeAction
    let s2 := logEntry s1 3 0x5003 4 r (packData [(16, a.2), (8, action)])
    if action = 1 ∧ (getRegion s r).code = .running then startRegionReset s2 r
    else if action = 2 ∧ (getRegion s r).code = .running then startScrub s2 r .incomplete none
    else s2
  | none =>
    let s2 := logEntry s1 3 0x5003 0 0 (packData [(16, a.2), (8, 0)])
    dictSet ((List.range 64).foldl isolateRegion s2) keyFabricState 3

/-- R500: the scrubber checks its next frame. A frame of a region that is being loaded waits for the next pass.
DESIGN CHOICE (log entry 81). -/
def scrubFrame (s : State) (found : ScrubFinding) : State :=
  let place := s.fabric.scrubNext
  let wrap := place + 1 = 300032
  let loading : Bool := match (areaOf place).1 with
    | some r => (getRegion s r).code = .loading || (getRegion s r).code = .scrubbing
    | none => dictGet s keyFabricState = 1
  let s1 : State := if loading then s else
    match found with
    | .clean => s
    | .corrected n =>
      let s2 := { s with fabric := { s.fabric with scrubFound := true } }
      dictSet s2 keyCfgSeuCorrected ((dictGet s keyCfgSeuCorrected + n) % 2 ^ 64)
    | .uncorrectable => scrubUncorrectable s place
  if wrap then
    dictBump { s1 with fabric := { s1.fabric with scrubNext := 0, scrubFound := false, scrubEnded := some s1.fabric.scrubFound } } keyCfgScrubPasses 1
  else { s1 with fabric := { s1.fabric with scrubNext := place + 1 } }

end Sys2Proof.Machine
end

