-- ==== Sys2Proof/Machine/FabricCmds.lean ====
section
/-! DEFINITION. The commands of the fabric and of configuration (R431 to R456, R477 to R501) that no dictionary write starts. -/

namespace Sys2Proof.Machine

/-! Trace (R455). -/

/-- The trigger GTC as TRIG_GTC takes it: exact in lock-step mode, within 2 counts in elastic mode. DEDUCED (log entry 62). -/
def triggerGtc (s : State) : State × Nat :=
  if lockstepMode s ∧ (gclkTickLocked s).testBit (dictGet s keyTraceClock) then (s, s.gtc.toNat)
  else (useFree s 1, (s.gtc.toNat + freshNat s % 5 + (2 ^ 64 - 2)) % 2 ^ 64)

/-- R455: one edge of TRACE_CLOCK. DEDUCED (log entry 62). -/
def captureEdge (s : State) (sample : U32) : State :=
  let t := s.fabric.trace
  let pre := dictGet s keyTracePre
  if t.code = .armed ∨ t.code = .triggered then
    let n := t.count + 1
    let t1 : Trace := { t with samples := mapSet 0 t.samples (t.count % 65536) sample, count := n }
    let hit := t.code = .armed ∧ pre < n
      ∧ (sample ^^^ BitVec.ofNat 32 (dictGet s keyTraceValue)) &&& BitVec.ofNat 32 (dictGet s keyTraceMask) = 0
    let g := triggerGtc s
    let s1 := if hit then dictSet g.1 keyTrigGtc g.2 else s
    let t2 : Trace := if hit then { t1 with code := .triggered, trigger := n - 1 } else t1
    let t3 : Trace := if t2.code = .triggered ∧ n - 1 = t2.trigger + 65535 - pre then { t2 with code := .done } else t2
    { s1 with fabric := { s1.fabric with trace := t3 } }
  else s

/-- R455: a capture armed. -/
def armTrace (s : State) : State := { s with fabric := { s.fabric with trace := { s.fabric.trace with code := .armed, count := 0, trigger := 0 } } }

/-- R456: a capture stopped. -/
def stopTrace (s : State) : State :=
  let t := s.fabric.trace
  if t.code = .armed ∨ t.code = .triggered then { s with fabric := { s.fabric with trace := { t with code := .idle } } } else s

/-- R455: the samples of TRACE_DATA, oldest first. -/
def traceBytes (t : Trace) : List Byte :=
  (List.range 65536).flatMap fun i => natBytes 4 (mapGet 0 t.samples ((t.count + i) % 65536)).toNat

/-- R455: edges of TRACE_CLOCK while a capture is armed. -/
def execTraceTrigger (samples : List U32) (s : State) : Result :=
  if s.fabric.trace.code = .armed then .next (samples.foldl captureEdge s) else .next s

/-- R455: edges of TRACE_CLOCK after the trigger. -/
def execTraceDone (samples : List U32) (s : State) : Result :=
  if s.fabric.trace.code = .triggered then .next (samples.foldl captureEdge s) else .next s

/-! Clocks and banks. -/

/-- R447: a fabric PLL loses lock. -/
def execFpllLossOfLock (k : Fin 8) (s : State) : Result :=
  let v := dictGet s keyFpllLocked
  if v.testBit k.val then .next (logEntry (dictSet s keyFpllLocked (v - 2 ^ k.val)) 2 0x5005 7 (16 + k.val) 0) else .next s

/-- R447: a fabric PLL locks. -/
def execFpllLock (k : Fin 8) (s : State) : Result :=
  let v := dictGet s keyFpllLocked
  .next (dictSet s keyFpllLocked (if v.testBit k.val then v else v + 2 ^ k.val))

/-- The pins of a bank (R450): user pins 40b to 40b + 39, or the probe pins. -/
def bankPins (b : Nat) : List Nat := if b < 8 then (List.range 40).map (40 * b + ·) else (List.range 32).map (320 + ·)

/-- R453: a bank's supply during a run: out of its window, its used pins are held high-Z. -/
def execVccoCheck (bank : Fin 9) (millivolts : Nat) (reading : U32) (s : State) : Result :=
  let s1 := dictSet s (keyBankVcco0 + bank.val) reading.toNat
  let level := mapGet 0 s.fabric.bankLevel bank.val
  if level ≠ 0 ∧ vccoLevel millivolts ≠ level then
    let s2 := { s1 with fabric := { s1.fabric with bankLevel := mapSet 0 s1.fabric.bankLevel bank.val 0 } }
    .next (checkPins s2 bank.val reading.toNat (bankPins bank.val))
  else .next s1

/-! Block RAM (R444 to R446). -/

/-- R444: the width of a mode's word. -/
def ramWidth : Nat → Nat
  | 0 => 1 | 1 => 2 | 2 => 4 | 3 => 9 | 4 => 18 | 5 => 36 | _ => 72

/-- R444: the depth of a mode. -/
def ramDepth : Nat → Nat
  | 0 => 32768 | 1 => 16384 | 2 => 8192 | 3 => 4096 | 4 => 2048 | 5 => 1024 | _ => 512

/-- The first bit of a word among the 36,864: modes 0 to 2 leave the ninth bit of each lane out. DEDUCED (log entry 61). -/
def ramBit (a : RamAccess) : Nat :=
  let w := ramWidth a.mode.val
  let i := a.addr % ramDepth a.mode.val
  if a.mode.val < 3 then 9 * (i / (8 / w)) + w * (i % (8 / w)) else w * i

/-- `n` bits of a block RAM from bit `off`. -/
def ramRead (x : Ram) (off n : Nat) : Nat :=
  ((List.range n).map fun i => if (mapGet 0 x.lanes ((off + i) / 9)).getLsbD ((off + i) % 9) then 2 ^ i else 0).sum

/-- One bit written. -/
def ramSetBit (x : Ram) (i : Nat) (v : Bool) : Ram :=
  { x with lanes := mapMod 0 x.lanes (i / 9) fun l => if v then l ||| (1#9 <<< (i % 9)) else l &&& ~~~(1#9 <<< (i % 9)) }

/-- `n` bits written from bit `off`. -/
def ramWrite (x : Ram) (off n v : Nat) : Ram := (List.range n).foldl (fun x i => ramSetBit x (off + i) (v.testBit i)) x

/-- R446: the word a write of mode 6 with error correction stores: 64 data bits and their check bits. -/
def eccWord (v : Nat) : Nat := v % 2 ^ 64 + (Config.eccCheck (BitVec.ofNat 64 v)).toNat * 2 ^ 64

/-- What a read with error correction delivers (R446). -/
structure EccRead where
  data : Nat
  single : Bool
  double : Bool
deriving DecidableEq, Repr

/-- R446: a word of 72 bits checked. DESIGN CHOICE (log entry 15). -/
def eccDecode (w : Nat) : EccRead :=
  let d := BitVec.ofNat 64 w
  let c := BitVec.ofNat 8 (w / 2 ^ 64)
  let e := Config.eccCheck d ^^^ c
  if e = 0 then { data := d.toNat, single := false, double := false }
  else
    match (List.range 64).find? fun i => Config.eccCheck (d ^^^ (1#64 <<< i)) = c with
    | some i => { data := (d ^^^ (1#64 <<< i)).toNat, single := true, double := false }
    | none =>
      if (List.range 8).any fun i => e = 1#8 <<< i then { data := d.toNat, single := true, double := false }
      else { data := d.toNat, single := false, double := true }

/-- Which port of a block RAM. -/
inductive RamPort where
  | a | b
deriving DecidableEq, Repr

/-- R444: whether an access of a port writes: in mode 6 only port A does. -/
def ramWrites (p : RamPort) (a : RamAccess) : Bool := a.write && (a.mode.val ≠ 6 || p = .a)

/-- R444: whether an access of a port reads: in mode 6 only port B does. -/
def ramReads (p : RamPort) (a : RamAccess) : Bool := !a.write && (a.mode.val ≠ 6 || p = .b)

/-- The latch of a port set. -/
def ramLatch (x : Ram) (p : RamPort) (v : Nat) : Ram :=
  match p with
  | .a => { x with latchA := v }
  | .b => { x with latchB := v }

/-- The data an access stores. -/
def ramData (a : RamAccess) : Nat :=
  if a.mode.val = 6 ∧ a.ecc then eccWord a.data else a.data % 2 ^ ramWidth a.mode.val

/-- R444 to R446: what a port's output latch takes from an access, over the contents `old` before the edge. -/
def ramOutput (old x : Ram) (p : RamPort) (a : RamAccess) : Ram :=
  let w := ramRead old (ramBit a) (ramWidth a.mode.val)
  if ramReads p a then
    (if a.mode.val = 6 ∧ a.ecc then
      let r := eccDecode w
      { ramLatch x p r.data with sbErr := r.single, dbErr := r.double }
    else ramLatch x p w)
  else if a.mode.val = 6 then x
  else
    match a.own with
    | .writeFirst => ramLatch x p (ramData a)
    | .readFirst => ramLatch x p w
    | .noChange => x

/-- R445: the write of an access, if it is one. -/
def ramStore (x : Ram) (p : RamPort) (a : RamAccess) : Ram :=
  if ramWrites p a then ramWrite x (ramBit a) (ramWidth a.mode.val) (ramData a) else x

/-- One access at an edge of its own. DESIGN CHOICE (log entry 16). -/
def ramEdge (x : Ram) (p : RamPort) (a : RamAccess) : Ram := ramStore (ramOutput x x p a) p a

/-- Whether two accesses reach a common bit. -/
def ramOverlap (a b : RamAccess) : Bool :=
  ramBit a < ramBit b + ramWidth b.mode.val && ramBit b < ramBit a + ramWidth a.mode.val

/-- R445: accesses of both ports: on one edge of one clock reads return the old word and port B's data stands; on different
clocks with edges near each other what collides is undefined; in any other case each acts at its own edge.
DESIGN CHOICE (log entry 16). -/
def ramBoth (x : Ram) (a b : RamAccess) (sameClock near : Bool) (free : Nat) : Ram :=
  if sameClock then ramStore (ramStore (ramOutput x (ramOutput x x .a a) .b b) .a a) .b b
  else if near && ramOverlap a b && (ramWrites .a a || ramWrites .b b) then
    let y := ramStore (ramStore (ramOutput x (ramOutput x x .a a) .b b) .a a) .b b
    if ramWrites .a a && ramWrites .b b then
      ramWrite (ramWrite y (ramBit a) (ramWidth a.mode.val) (Config.freeNat free)) (ramBit b) (ramWidth b.mode.val) (Config.freeNat (free + 1))
    else if ramWrites .a a then ramLatch y .b (Config.freeNat free % 2 ^ ramWidth b.mode.val)
    else ramLatch y .a (Config.freeNat free % 2 ^ ramWidth a.mode.val)
  else ramEdge (ramEdge x .a a) .b b

/-- R445: an access of one or both ports of a block RAM whose region's clocks run. -/
def execBramAccess (r : RegionId) (ram : Fin 60) (a b : Option RamAccess) (sameClock near : Bool) (s : State) : Result :=
  let k := 60 * r.val + ram.val
  let x := mapGet {} s.fabric.rams k
  if regionClocked s r.val then
    let y := match a, b with
      | some a, some b => ramBoth x a b sameClock near s.free
      | some a, none => ramEdge x .a a
      | none, some b => ramEdge x .b b
      | none, none => x
    .next { s with fabric := { s.fabric with rams := mapSet {} s.fabric.rams k y }, free := s.free + 2 }
  else .next s

/-! Configuration. -/

/-- R478: a SLOT_WRITE ends. -/
def execSlotWriteDone (s : State) : Result := .next (endSlotWrite s)

/-- R485: a frame arrives and is assayed. -/
def execFrameAssay (answer : ReadAnswer) (s : State) : Result := .next (takeFrame s answer)

/-- R488: the global start. -/
def execFabricGlobalStart (millivolts : List Nat) (s : State) : Result := .next (globalStart s millivolts)

/-- R491: a drain ends, and the load begins. -/
def execPlDrainEnd (r : RegionId) (s : State) : Result :=
  match s.fabric.load with
  | some { kind := .region r' source entry addr, draining := true, .. } =>
    if r' = r.val then .next (beginPartial { s with fabric := { s.fabric with load := none } } r' source entry addr) else .next s
  | _ => .next s

/-- R496: a loaded or reset region starts. -/
def execRegionStart (r : RegionId) (millivolts : Nat) (s : State) : Result := .next (startRegion s r.val millivolts)

/-- R492: a scrub to blank ends. -/
def execScrubToBlankDone (r : RegionId) (s : State) : Result := .next (endScrub s r.val)

/-- R497: a region reset ends. -/
def execRegionResetEnd (r : RegionId) (s : State) : Result :=
  if (getRegion s r.val).code = .resetting then .next (beginRegion s r.val false) else .next s

/-- R500: the configuration scrubber checks one frame. -/
def execCfgScrubFrame (found : ScrubFinding) (s : State) : Result := .next (scrubFrame s found)

end Sys2Proof.Machine
end

