-- ==== Sys2Proof/Machine/SignalOps.lean ====
section
/-! DEFINITION. Signal engines (R457 to R475): instruction words and their legality, operands and pointers, accumulators and flags,
loops, and the two banks. -/

namespace Sys2Proof.Machine

/-- The instructions of R465. -/
inductive SeOp where
  | nop | mac | msu | mpy | adda | clra | sha | rda | add | sub | and | or | xor | shf | min | max | abs | mov | st | ldi | ldih
  | movp | getp | loop | br | rti | halt | in | out | setsr | getsr | setrot
deriving DecidableEq, Repr

/-- R465: the opcodes. -/
def seOpcode : Nat → Option SeOp
  | 0x00 => some .nop | 0x01 => some .mac | 0x02 => some .msu | 0x03 => some .mpy | 0x04 => some .adda | 0x05 => some .clra
  | 0x06 => some .sha | 0x07 => some .rda | 0x10 => some .add | 0x11 => some .sub | 0x12 => some .and | 0x13 => some .or
  | 0x14 => some .xor | 0x15 => some .shf | 0x16 => some .min | 0x17 => some .max | 0x18 => some .abs | 0x19 => some .mov
  | 0x1A => some .st | 0x1B => some .ldi | 0x1C => some .ldih | 0x1D => some .movp | 0x1E => some .getp | 0x20 => some .loop
  | 0x21 => some .br | 0x22 => some .rti | 0x23 => some .halt | 0x24 => some .in | 0x25 => some .out | 0x26 => some .setsr
  | 0x27 => some .getsr | 0x28 => some .setrot
  | _ => none

/-- R465: the bits below OP that a row uses. -/
def seUsed : SeOp → Nat
  | .nop | .rti | .halt => 0
  | .mac | .msu | .mpy => 0x3FFE000
  | .adda => 0x3F02000
  | .clra => 0x2000
  | .sha => 0x3F00
  | .rda => 0xFE000
  | .add | .sub | .and | .or | .xor | .shf | .min | .max => 0x3FFDF00
  | .abs | .mov => 0x3F01F00
  | .st => 0x3FFC000
  | .ldi => 0x3FFFFFF
  | .ldih => 0x3E00FFF
  | .movp | .getp => 0x3E0000F
  | .loop => 0x3FFFFF0
  | .br => 0x3C003FF
  | .in => 0x1F00
  | .out => 0x3F00000
  | .setsr | .getsr => 0x3E00000
  | .setrot => 0x3

/-- An operand as its selector names it (R460): a register, or memory through pointer `ptr` of a bus, with its post-step. -/
inductive SeOperand where
  | reg (n : Nat)
  | mem (bus ptr : Nat) (post : Bool)
deriving DecidableEq, Repr

/-- R460: a selector; none where it is illegal. -/
def seSelector (v : Nat) : Option SeOperand :=
  if bit v 5 then
    let bus := bits v 3 2
    let ptr := bits v 1 2
    if bus = 3 ∨ (bus = 2 ∧ 2 ≤ ptr) then none else some (.mem bus ptr (bit v 0))
  else some (.reg (bits v 0 5))

/-- The bus of an operand. -/
def seBus : SeOperand → Option Nat
  | .reg _ => none
  | .mem b _ _ => some b

/-- R465: the number of a pointer: XP0 to XP3, YP0 to YP3, CP0 and CP1. -/
def sePointer (bus ptr : Nat) : Nat := 4 * bus + ptr

def seS1 (w : Nat) : Option SeOperand := seSelector (bits w 20 6)
def seS2 (w : Nat) : Option SeOperand := seSelector (bits w 14 6)

/-- Whether an operand is legal as a destination: a register, X or Y (R465, R466). -/
def seDestOk : Option SeOperand → Bool
  | some (.reg _) => true
  | some (.mem b _ _) => b < 2
  | none => false

/-- Whether two operands are legal and lie on different buses (R459, R466). -/
def sePairOk (a b : Option SeOperand) : Bool :=
  match a, b with
  | some x, some y => (seBus x).isNone || (seBus y).isNone || seBus x ≠ seBus y
  | _, _ => false

/-- The bank an engine runs in. -/
def seBank (x : SigEngine) : SeBank := if x.inh then x.shadow else x.main

def setBank (x : SigEngine) (b : SeBank) : SigEngine := if x.inh then { x with shadow := b } else { x with main := b }

/-- R468: whether a loop of the running bank is under way. -/
def seInLoop (x : SigEngine) : Bool := (seBank x).lc ≠ 0

/-- R466: whether a legal opcode's instruction at the engine's address is legal. -/
def seLegal (x : SigEngine) (op : SeOp) (w : Nat) : Bool :=
  let low := w % 2 ^ 26
  low &&& seUsed op = low &&
  match op with
  | .nop | .halt | .clra | .sha | .ldi | .ldih | .in | .setsr | .getsr | .setrot => true
  | .mac | .msu | .mpy | .add | .sub | .and | .or | .xor | .min | .max => sePairOk (seS1 w) (seS2 w)
  | .adda | .abs | .mov | .out => (seS1 w).isSome
  | .rda => seDestOk (seS2 w)
  | .shf =>
    let n := signedOf 6 (bits w 14 6)
    (seS1 w).isSome && -24 ≤ n && n ≤ 24
  | .st => !bit w 25 && (match seS2 w with
    | some (.mem b _ _) => b < 2
    | _ => false)
  | .movp | .getp => bits w 0 4 ≤ 9
  | .loop => !seInLoop x && x.pc + bits w 4 10 ≤ 1023 && (!bit w 25 || bits w 20 5 = 0)
  | .br => bits w 22 4 ≤ 8
  | .rti => x.inh

/-- R469: the word at the engine's address: from the loop cache where it holds it, else from C memory. -/
def seFetch (x : SigEngine) : U32 :=
  let b := seBank x
  if ¬ x.inh ∧ seInLoop x ∧ b.ls ≤ x.pc ∧ x.pc ≤ b.le ∧ x.cache.tag = some (b.ls, b.le + 1 - b.ls) then
    match x.cache.words.find? fun e => e.1 = x.pc - b.ls with
    | some e => e.2
    | none => mapGet 0 x.c x.pc
  else mapGet 0 x.c x.pc

/-- R469: a main-bank loop of 16 instructions or fewer fills the loop cache as it goes. -/
def seFill (x : SigEngine) : SigEngine :=
  let b := seBank x
  if ¬ x.inh ∧ seInLoop x ∧ b.ls ≤ x.pc ∧ x.pc ≤ b.le ∧ x.cache.tag = some (b.ls, b.le + 1 - b.ls)
      ∧ ¬ (x.cache.words.any fun e => e.1 = x.pc - b.ls) then
    { x with cache := { x.cache with words := (x.pc - b.ls, mapGet 0 x.c x.pc) :: x.cache.words } }
  else x

/-- The instruction at the engine's address: its row, or none where it is illegal (R466). -/
def seDecode (x : SigEngine) : Option SeOp :=
  let w := (seFetch x).toNat
  match seOpcode (bits w 26 6) with
  | some op => if seLegal x op w then some op else none
  | none => none

/-! Registers, pointers and memory. -/

/-- R470: registers that rotate. -/
def seRotation (sr : BitVec 24) : Nat :=
  match bits sr.toNat 8 2 with
  | 0 => 0 | 1 => 8 | 2 => 16 | _ => 32

/-- R470: the physical register that Dn names in the main bank. -/
def sePhysical (sr : BitVec 24) (n : Nat) : Nat :=
  let s := seRotation sr
  if n < s then (n + bits sr.toNat 10 5) % s else n

/-- R470, R471: what Dn reads as. DEDUCED (log entry 58). -/
def seReg (x : SigEngine) (n : Nat) : BitVec 24 :=
  if x.inh then (if n < 8 then mapGet 0 x.shadowD n else mapGet 0 x.d n) else mapGet 0 x.d (sePhysical x.main.sr n)

/-- R470, R471: Dn written. -/
def setSeReg (x : SigEngine) (n : Nat) (v : BitVec 24) : SigEngine :=
  if x.inh then (if n < 8 then { x with shadowD := mapSet 0 x.shadowD n v } else { x with d := mapSet 0 x.d n v })
  else { x with d := mapSet 0 x.d (sePhysical x.main.sr n) v }

/-- The smallest power of two that is at least `n`, within `k` more doublings of `p`. -/
def powerAbove (n p : Nat) : Nat → Nat
  | 0 => p
  | k + 1 => if n ≤ p then p else powerAbove n (2 * p) k

/-- R461: a pointer after its post-step. -/
def seStep (p : BitVec 24) : BitVec 24 :=
  let addr := bits p.toNat 0 10
  let step := signedOf 4 (bits p.toNat 10 4)
  let len := bits p.toNat 14 10
  let base := if len = 0 then 0 else addr - addr % powerAbove len 1 10
  let span := if len = 0 then 1024 else len
  BitVec.ofNat 24 (base + (((addr : Int) - base + step) % (span : Int)).toNat + (p.toNat / 1024) * 1024)

/-- The word address of an access (R461): X and Y take ADDR[8:0]. -/
def seAddr (bus : Nat) (p : BitVec 24) : Nat := if bus = 2 then bits p.toNat 0 10 else bits p.toNat 0 9

/-- R458: an operand's value. -/
def seValue (x : SigEngine) : SeOperand → BitVec 24
  | .reg n => seReg x n
  | .mem bus ptr _ =>
    let a := seAddr bus (mapGet 0 (seBank x).pointers (sePointer bus ptr))
    (mapGet 0 (if bus = 0 then x.x else if bus = 1 then x.y else x.c) a).setWidth 24

/-- R461: the post-step of an operand. -/
def sePost (x : SigEngine) : SeOperand → SigEngine
  | .mem bus ptr true =>
    let b := seBank x
    setBank x { b with pointers := mapMod 0 b.pointers (sePointer bus ptr) seStep }
  | _ => x

/-- R458: a data word as memory stores it. -/
def seStored (v : BitVec 24) : U32 := v.signExtend 32

/-- A destination written. -/
def seWrite (x : SigEngine) (o : SeOperand) (v : BitVec 24) : SigEngine :=
  match o with
  | .reg n => setSeReg x n v
  | .mem bus ptr _ =>
    let a := seAddr bus (mapGet 0 (seBank x).pointers (sePointer bus ptr))
    if bus = 0 then { x with x := mapSet 0 x.x a (seStored v) } else { x with y := mapSet 0 x.y a (seStored v) }

/-! Arithmetic and flags (R462 to R464). -/

/-- An integer brought into `w` bits: clamped under SAT, or wrapped; and whether it was outside. -/
def seRange (w : Nat) (sat : Bool) (v : Int) : BitVec w × Bool :=
  let hi : Int := 2 ^ (w - 1) - 1
  let lo : Int := -(2 ^ (w - 1) : Int)
  if hi < v then (if sat then BitVec.ofInt w hi else BitVec.ofInt w v, true)
  else if v < lo then (if sat then BitVec.ofInt w lo else BitVec.ofInt w v, true)
  else (BitVec.ofInt w v, false)

/-- A bit of SR set to a value. -/
def srBit (sr : BitVec 24) (i : Nat) (v : Bool) : BitVec 24 := if v then sr ||| (1#24 <<< i) else sr &&& ~~~(1#24 <<< i)

/-- R465: Z and N from a written result, and a sticky bit (6 AOV, 7 SOV) where the result left its range. -/
def seFlags (x : SigEngine) (zero neg : Bool) (sticky : Option Nat) : SigEngine :=
  let b := seBank x
  let sr := srBit (srBit b.sr 4 zero) 5 neg
  setBank x { b with sr := match sticky with
    | some i => srBit sr i true
    | none => sr }

def seSat (x : SigEngine) : Bool := (seBank x).sr.getLsbD 2
def seFrac (x : SigEngine) : Bool := (seBank x).sr.getLsbD 0

/-- The accumulator that ACC selects. -/
def seAcc (x : SigEngine) (acc : Bool) : BitVec 56 := if acc then (seBank x).acc1 else (seBank x).acc0

/-- R463: an accumulator result, with its flags. -/
def seSetAcc (x : SigEngine) (acc : Bool) (v : Int) : SigEngine :=
  let r := seRange 56 (seSat x) v
  let b := seBank x
  let y := setBank x (if acc then { b with acc1 := r.1 } else { b with acc0 := r.1 })
  seFlags y (r.1 = 0) r.1.msb (if r.2 then some 6 else none)

/-- A 24-bit result in a destination, with its flags. -/
def seSetWord (x : SigEngine) (o : SeOperand) (v : BitVec 24) (left : Bool) : SigEngine :=
  seFlags (seWrite x o v) (v = 0) v.msb (if left then some 7 else none)

/-- R464: an accumulator converted to a data word, and whether it left its range. -/
def seConvert (x : SigEngine) (acc : Bool) : BitVec 24 × Bool :=
  let a := seAcc x acc
  let low := bits a.toNat 0 23
  let v : Int := a.toInt / 2 ^ 23
  let up : Bool := (seBank x).sr.getLsbD 1 && (2 ^ 22 < low || (low = 2 ^ 22 && v % 2 = 1))
  seRange 24 (seSat x) (if seFrac x then (if up then v + 1 else v) else a.toInt)

/-! Flow (R468 to R471). -/

/-- R468, R470: the address after an instruction that goes on in order: the next, or the loop-back. DEDUCED (log entry 58). -/
def seAdvance (x : SigEngine) : SigEngine :=
  let b := seBank x
  if b.lc ≠ 0 ∧ x.pc = b.le then
    if 1 < b.lc then
      let s := seRotation b.sr
      let rrb := if s = 0 then 0 else (bits b.sr.toNat 10 5 + s - 1) % s
      let sr := if b.rot ∧ s ≠ 0 then (b.sr &&& ~~~(0x1F#24 <<< 10)) ||| (BitVec.ofNat 24 rrb <<< 10) else b.sr
      let len := b.le + 1 - b.ls
      let y := setBank x { b with lc := b.lc - 1, sr := sr }
      { y with pc := b.ls, cache := if ¬ x.inh ∧ len ≤ 16 ∧ x.cache.tag.isNone then { tag := some (b.ls, len) } else x.cache }
    else { setBank x { b with lc := 0 } with pc := (x.pc + 1) % 1024 }
  else { x with pc := (x.pc + 1) % 1024 }

/-- R471: an instruction of the main bank has issued. -/
def seIssued (x : SigEngine) : SigEngine := { seFill x with issued := x.issued || !x.inh }

/-- Whether an engine's clock runs and it is not halted. DEDUCED (log entry 59). -/
def seRuns (s : State) (e : SeId) : Bool := regionClocked s (e.val / 24) && (getSe s e.val).cause = .running

/-- R469, R472, R474: an access of the memory port where the engine's memories were `x` before the edge and are `y` after it, and
`written` is the word that the engine writes at the edge: a read gives the old word, and where both write the engine's data stands. A
write to C memory invalidates the loop cache. DEDUCED (log entry 58). -/
def sePortAccess (x y : SigEngine) (written : Option (Nat × Nat)) (a : SePort) : SigEngine :=
  let mem (z : SigEngine) : List (Nat × U32) := if a.sel = 0 then z.x else if a.sel = 1 then z.y else z.c
  match a.write with
  | none => { y with rdata := mapGet 0 (mem x) a.addr }
  | some w =>
    if written = some (a.sel, a.addr) then y
    else if a.sel = 0 then { y with x := mapSet 0 y.x a.addr w }
    else if a.sel = 1 then { y with y := mapSet 0 y.y a.addr w }
    else { y with c := mapSet 0 y.c a.addr w, cache := {} }

/-- The word that ST or RDA writes in X or Y memory. -/
def seStores (x : SigEngine) (op : SeOp) (w : Nat) : Option (Nat × Nat) :=
  match op, seS2 w with
  | .st, some (.mem b p _) => some (b, seAddr b (mapGet 0 (seBank x).pointers (sePointer b p)))
  | .rda, some (.mem b p _) => some (b, seAddr b (mapGet 0 (seBank x).pointers (sePointer b p)))
  | _, _ => none

/-- R474: the access of the memory port that waits for the edge of an instruction, made at it: `x` is the engine before the instruction
and `y` after it. -/
def seShared (x y : SigEngine) (written : Option (Nat × Nat)) : SigEngine :=
  match x.port with
  | none => y
  | some a => { sePortAccess x y written a with port := none }

/-- An instruction of a row issues: nothing happens unless the engine runs, waits for no handshake, and has that row's
instruction at its address. `act` is given the engine and the instruction word. -/
def seIssue (s : State) (e : SeId) (op : SeOp) (act : SigEngine → Nat → SigEngine) : State :=
  let x := getSe s e.val
  let w := (seFetch x).toNat
  if seRuns s e ∧ x.wait = .none ∧ seDecode x = some op then setSe s e.val (seShared x (act (seIssued x) w) (seStores x op w)) else s

/-- An instruction that works on its operands and goes on in order. -/
def seStraight (s : State) (e : SeId) (op : SeOp) (act : SigEngine → Nat → SigEngine) : State :=
  seIssue s e op fun x w => seAdvance (act x w)

/-- An operand, which R466 has found legal. -/
def seOperand (o : Option SeOperand) : SeOperand := o.getD (.reg 0)

/-- R463: MAC, MSU and MPY: the accumulator from its old value and the exact product. -/
def seProduct (x : SigEngine) (w : Nat) (f : Int → Int → Int) : SigEngine :=
  let a := seOperand (seS1 w)
  let b := seOperand (seS2 w)
  let p := (seValue x a).toInt * (seValue x b).toInt
  let y := seSetAcc x (bit w 13) (f (seAcc x (bit w 13)).toInt p)
  sePost (sePost y a) b

/-- ADD to MAX: the register DST from two operands; the flag says the result left its range. -/
def seBinary (x : SigEngine) (w : Nat) (f : BitVec 24 → BitVec 24 → BitVec 24 × Bool) : SigEngine :=
  let a := seOperand (seS1 w)
  let b := seOperand (seS2 w)
  let r := f (seValue x a) (seValue x b)
  seSetWord (sePost (sePost x a) b) (.reg (bits w 8 5)) r.1 r.2

/-- SHF, ABS and MOV: the register DST from one operand. -/
def seUnary (x : SigEngine) (w : Nat) (f : BitVec 24 → BitVec 24 × Bool) : SigEngine :=
  let a := seOperand (seS1 w)
  let r := f (seValue x a)
  seSetWord (sePost x a) (.reg (bits w 8 5)) r.1 r.2

/-- R465: whether a branch condition holds. -/
def seCondition (x : SigEngine) (c : Nat) (dinValid doutReady : Bool) : Bool :=
  let sr := (seBank x).sr
  match c with
  | 0 => true
  | 1 => sr.getLsbD 4
  | 2 => !sr.getLsbD 4
  | 3 => sr.getLsbD 5
  | 4 => !sr.getLsbD 5
  | 5 => sr.getLsbD 6
  | 6 => sr.getLsbD 7
  | 7 => dinValid
  | _ => doutReady

/-- R468: LOOP. DEDUCED (log entry 58). -/
def seLoop (x : SigEngine) (w : Nat) : SigEngine :=
  let count := if bit w 25 then bits (seReg x (bits w 15 5)).toNat 0 16 else bits w 15 10
  let len := bits w 4 10
  let ls := x.pc + 1
  let le := x.pc + len
  let y := setBank x { seBank x with ls := ls, le := le, lc := count, rot := bit w 14 }
  let cache := if ¬ x.inh ∧ 1 ≤ len ∧ len ≤ 16 ∧ x.cache.tag ≠ some (ls, len) then { tag := some (ls, len) } else x.cache
  if count = 0 then { y with pc := (le + 1) % 1024 } else { y with pc := ls % 1024, cache := cache }

/-- R462: SR as SETSR leaves it: RW bits from the word, W1C bits cleared where it holds 1, the rest kept. -/
def seSetSr (old v : BitVec 24) : BitVec 24 :=
  (old &&& 0x00FFF0) &&& ~~~(v &&& 0x0000C0) ||| (v &&& 0x00000F)

/-- R462: SR as it reads: INH is 1 in the shadow bank. -/
def seReadSr (x : SigEngine) : BitVec 24 := srBit (seBank x).sr 15 x.inh

/-- R475: an SE_START or a restart clears LC and INH, keeps the registers, and invalidates the loop cache. DEDUCED (log entry 58). -/
def seRestart (x : SigEngine) : SigEngine :=
  { x with pc := 0, inh := false, issued := false, cause := .running, cache := {}, wait := .none
           main := { x.main with lc := 0 }, shadow := { x.shadow with lc := 0 } }

end Sys2Proof.Machine
end

