-- ==== Sys2Proof/Machine/SignalCmds.lean ====
section
/-! DEFINITION. The commands of a signal engine (R465 to R475): one for each instruction, issued where the engine has it at its
address, and its handshakes, interrupt, start and memory port. -/

namespace Sys2Proof.Machine

/-- R465: NOP. -/
def execSeNop (e : SeId) (s : State) : Result :=
  .next (seStraight s e .nop fun x _ => x)

/-- R465: MAC adds the product to the accumulator (R463). -/
def execSeMac (e : SeId) (s : State) : Result :=
  .next (seStraight s e .mac fun x w => seProduct x w fun a p => a + p)

/-- R465: MSU subtracts the product from the accumulator (R463). -/
def execSeMsu (e : SeId) (s : State) : Result :=
  .next (seStraight s e .msu fun x w => seProduct x w fun a p => a - p)

/-- R465: MPY loads the accumulator with the product (R463). -/
def execSeMpy (e : SeId) (s : State) : Result :=
  .next (seStraight s e .mpy fun x w => seProduct x w fun _ p => p)

/-- R465: ADDA adds its operand, aligned by FRAC (R463). -/
def execSeAdda (e : SeId) (s : State) : Result :=
  .next (seStraight s e .adda fun x w => 
    let a := seOperand (seS1 w)
    let v := (seValue x a).toInt * (if seFrac x then 2 ^ 23 else 1)
    sePost (seSetAcc x (bit w 13) ((seAcc x (bit w 13)).toInt + v)) a)

/-- R465: CLRA clears the accumulator. -/
def execSeClra (e : SeId) (s : State) : Result :=
  .next (seStraight s e .clra fun x w => seSetAcc x (bit w 13) 0)

/-- R465: SHA shifts the accumulator by a signed amount of 5 bits, a right shift toward −∞ (R463). -/
def execSeSha (e : SeId) (s : State) : Result :=
  .next (seStraight s e .sha fun x w => 
    let n := signedOf 5 (bits w 8 5)
    let a := (seAcc x (bit w 13)).toInt
    seSetAcc x (bit w 13) (if 0 ≤ n then a * 2 ^ n.toNat else a / 2 ^ n.natAbs))

/-- R465: RDA converts the accumulator to a data word in a register, X or Y (R464). -/
def execSeRda (e : SeId) (s : State) : Result :=
  .next (seStraight s e .rda fun x w => 
    let d := seOperand (seS2 w)
    let r := seConvert x (bit w 13)
    sePost (seSetWord x d r.1 r.2) d)

/-- R465: ADD. -/
def execSeAdd (e : SeId) (s : State) : Result :=
  .next (seStraight s e .add fun x w => seBinary x w fun a b => seRange 24 (seSat x) (a.toInt + b.toInt))

/-- R465: SUB. -/
def execSeSub (e : SeId) (s : State) : Result :=
  .next (seStraight s e .sub fun x w => seBinary x w fun a b => seRange 24 (seSat x) (a.toInt - b.toInt))

/-- R465: AND. -/
def execSeAnd (e : SeId) (s : State) : Result :=
  .next (seStraight s e .and fun x w => seBinary x w fun a b => (a &&& b, false))

/-- R465: OR. -/
def execSeOr (e : SeId) (s : State) : Result :=
  .next (seStraight s e .or fun x w => seBinary x w fun a b => (a ||| b, false))

/-- R465: XOR. -/
def execSeXor (e : SeId) (s : State) : Result :=
  .next (seStraight s e .xor fun x w => seBinary x w fun a b => (a ^^^ b, false))

/-- R465: SHF shifts by a signed amount of 6 bits: left for positive, arithmetic right for negative (R463). -/
def execSeShf (e : SeId) (s : State) : Result :=
  .next (seStraight s e .shf fun x w => 
    let n := signedOf 6 (bits w 14 6)
    seUnary x w fun a => seRange 24 (seSat x) (if 0 ≤ n then a.toInt * 2 ^ n.toNat else a.toInt / 2 ^ n.natAbs))

/-- R465: MIN, signed. -/
def execSeMin (e : SeId) (s : State) : Result :=
  .next (seStraight s e .min fun x w => seBinary x w fun a b => (if a.toInt ≤ b.toInt then a else b, false))

/-- R465: MAX, signed. -/
def execSeMax (e : SeId) (s : State) : Result :=
  .next (seStraight s e .max fun x w => seBinary x w fun a b => (if a.toInt ≤ b.toInt then b else a, false))

/-- R465: ABS; of −2^23 it is 2^23 − 1 under SAT with SOV, and −2^23 otherwise. -/
def execSeAbs (e : SeId) (s : State) : Result :=
  .next (seStraight s e .abs fun x w => 
    seUnary x w fun a =>
      if a = 0x800000 then (if seSat x then (0x7FFFFF, true) else (0x800000, false)) else (if a.msb then -a else a, false))

/-- R465: MOV. -/
def execSeMov (e : SeId) (s : State) : Result :=
  .next (seStraight s e .mov fun x w => seUnary x w fun a => (a, false))

/-- R465: ST stores a register in X or Y memory (R458). -/
def execSeSt (e : SeId) (s : State) : Result :=
  .next (seStraight s e .st fun x w => 
    let d := seOperand (seS2 w)
    sePost (seWrite x d (seReg x (bits w 20 5))) d)

/-- R465: LDI loads 21 bits, sign-extended. -/
def execSeLdi (e : SeId) (s : State) : Result :=
  .next (seStraight s e .ldi fun x w => setSeReg x (bits w 21 5) (BitVec.ofInt 24 (signedOf 21 (bits w 0 21))))

/-- R465: LDIH loads the high 12 bits of a register. -/
def execSeLdih (e : SeId) (s : State) : Result :=
  .next (seStraight s e .ldih fun x w => 
    setSeReg x (bits w 21 5) (BitVec.ofNat 24 (bits w 0 12 * 4096 + bits (seReg x (bits w 21 5)).toNat 0 12)))

/-- R465: MOVP loads a pointer from a register. -/
def execSeMovp (e : SeId) (s : State) : Result :=
  .next (seStraight s e .movp fun x w => 
    let b := seBank x
    setBank x { b with pointers := mapSet 0 b.pointers (bits w 0 4) (seReg x (bits w 21 5)) })

/-- R465: GETP reads a pointer into a register. -/
def execSeGetp (e : SeId) (s : State) : Result :=
  .next (seStraight s e .getp fun x w => setSeReg x (bits w 21 5) (mapGet 0 (seBank x).pointers (bits w 0 4)))

/-- R468: LOOP sets up a loop, or passes its body where the count is 0. -/
def execSeLoop (e : SeId) (s : State) : Result := .next (seIssue s e .loop seLoop)

/-- R465, R468: BR; taken, it ends the loop it lies in. -/
def execSeBr (e : SeId) (dinValid doutReady : Bool) (s : State) : Result :=
  .next (seIssue s e .br fun x w =>
    if seCondition x (bits w 22 4) dinValid doutReady then { setBank x { seBank x with lc := 0 } with pc := bits w 0 10 } else seAdvance x)

/-- R471: RTI: the main bank goes on where it was interrupted. -/
def execSeRti (e : SeId) (s : State) : Result :=
  .next (seIssue s e .rti fun x _ => { x with inh := false, pc := x.resume, issued := false })

/-- R465: HALT, with cause 1. -/
def execSeHalt (e : SeId) (s : State) : Result := .next (seIssue s e .halt fun x _ => { x with cause := .halt })

/-- R473: IN issues, and waits for an input word. -/
def execSeIn (e : SeId) (s : State) : Result := .next (seIssue s e .in fun x w => { x with wait := .input w })

/-- R473: OUT issues: it presents its word, and waits until the design takes it. -/
def execSeOut (e : SeId) (s : State) : Result :=
  .next (seIssue s e .out fun x w => { x with wait := .output w, dout := seValue x (seOperand (seS1 w)) })

/-- R473: a waiting IN retires with the word. -/
def execSeInHandshake (e : SeId) (din : BitVec 24) (s : State) : Result :=
  let x := getSe s e.val
  match x.wait with
  | .input w => if seRuns s e then .next (setSe s e.val (seAdvance (setSeReg { x with wait := .none } (bits w 8 5) din))) else .next s
  | _ => .next s

/-- R473: a waiting OUT retires. -/
def execSeOutHandshake (e : SeId) (s : State) : Result :=
  let x := getSe s e.val
  match x.wait with
  | .output w => if seRuns s e then .next (setSe s e.val (seAdvance (sePost { x with wait := .none } (seOperand (seS1 w))))) else .next s
  | _ => .next s

/-- R465: SETSR writes SR under the access codes of R462. -/
def execSeSetsr (e : SeId) (s : State) : Result :=
  .next (seStraight s e .setsr fun x w => setBank x { seBank x with sr := seSetSr (seBank x).sr (seReg x (bits w 21 5)) })

/-- R465: GETSR reads SR. -/
def execSeGetsr (e : SeId) (s : State) : Result :=
  .next (seStraight s e .getsr fun x w => setSeReg x (bits w 21 5) (seReadSr x))

/-- R465: SETROT sets the rotation size and clears the base (R470). -/
def execSeSetrot (e : SeId) (s : State) : Result :=
  .next (seStraight s e .setrot fun x w => 
    let b := seBank x
    setBank x { b with sr := (b.sr &&& ~~~0x007F00#24) ||| (BitVec.ofNat 24 (bits w 0 2) <<< 8) })

/-- R466: an illegal instruction writes nothing, and the engine halts with cause 2. -/
def execSeIllegalInstruction (e : SeId) (s : State) : Result :=
  let x := getSe s e.val
  if seRuns s e ∧ x.wait = .none ∧ seDecode x = none then .next (setSe s e.val (seShared x { x with cause := .illegal } none))
  else .next s

/-- R471: SE_IRQ is taken: the engine goes on in the shadow bank at C address 0x3F0. A waiting IN or OUT is abandoned. -/
def execSeInterrupt (e : SeId) (s : State) : Result :=
  let x := getSe s e.val
  if seRuns s e ∧ ¬ x.inh ∧ x.main.sr.getLsbD 3 ∧ x.issued then
    .next (setSe s e.val { x with inh := true, resume := x.pc, pc := 0x3F0, wait := .none })
  else .next s

/-- R475: SE_START restarts a halted engine. -/
def execSeStart (e : SeId) (s : State) : Result :=
  let x := getSe s e.val
  if regionClocked s (e.val / 24) ∧ x.cause ≠ .running then .next (setSe s e.val (seRestart x)) else .next s

/-- R472, R474: an access of the memory port: select 0 X, 1 Y, 2 C, 3 idle; at an edge of its own, or shared with the next instruction
that issues. DEDUCED (log entry 58). -/
def execSeMemoryPortAccess (e : SeId) (sel : Fin 4) (addr : Fin 1024) (we : Bool) (wdata : U32) (s : State) (shared : Bool := false) : Result :=
  let x := seShared (getSe s e.val) (getSe s e.val) none
  let a : SePort := { sel := sel.val, addr := if sel.val = 2 then addr.val else addr.val % 512, write := if we then some wdata else none }
  if regionClocked s (e.val / 24) ∧ sel.val ≠ 3 then .next (setSe s e.val (if shared then { x with port := some a } else sePortAccess x x none a))
  else .next s

end Sys2Proof.Machine
end

