-- ==== Sys2Proof/Machine/LedgerOps.lean ====
section
/-! DEFINITION. The ledger's recording, freeze and copies (R562 to R565), entries and counter records as bytes (R550, R559), the
counters' scheduled changes (R546, R553), sampling (R555, R558), and how a session closes (R68). -/

namespace Sys2Proof.Machine

/-- The first entry of the smallest sequence number among those of severity at most `sev` taken out of a list in increasing
order. -/
def dropOldest (sev : Fin 4) (l : List LedgerEntry) : Option (List LedgerEntry) := (takeFirst (fun e => e.sev ≤ sev) l).map (·.2)

/-- R562: an entry recorded: in a full ledger it overwrites the oldest of its severity or lower, or is dropped. -/
def recordEntry (s : State) (e : LedgerEntry) : State :=
  if s.ledger.held.length < 65536 then { s with ledger := { s.ledger with held := s.ledger.held ++ [e] } }
  else
    match dropOldest e.sev s.ledger.held with
    | some rest => { s with ledger := { s.ledger with held := rest ++ [e] } }
    | none => dictBump s keyLedgerDropped 1

/-- R561: the island records the head of its input queue; during a freeze nothing is recorded. -/
def recordHead (s : State) : State :=
  match s.ledger.freeze, s.ledger.queue with
  | none, e :: rest => recordEntry { s with ledger := { s.ledger with queue := rest } } e
  | _, _ => s

/-- The entries that wait in the input queue recorded. DEDUCED (log entry 25). -/
def recordAll (s : State) : State := s.ledger.queue.foldl recordEntry { s with ledger := { s.ledger with queue := [] } }

/-- R564: a freeze starts for a session: what was generated before it is recorded first. DEDUCED (log entry 25). -/
def startFreeze (s : State) (sid : U32) : State :=
  let s1 := recordAll s
  dictSet { s1 with ledger := { s1.ledger with freeze := some sid } } keyLedgerMissed 0

/-- R564: a freeze ends: cause 0 its holder, 1 its session closed, 2 the limit. -/
def endFreeze (s : State) (cause : Nat) : State :=
  match s.ledger.freeze with
  | none => s
  | some sid =>
    logEntry { s with ledger := { s.ledger with freeze := none } } 1 0x8002 6 sid.toNat
      (packData [(32, dictGet s keyLedgerMissed), (8, cause)])

/-- R564: every held entry removed. -/
def clearLedger (s : State) (sid : U32) : State :=
  logEntry { s with ledger := { s.ledger with held := [] } } 1 0x8001 6 sid.toNat (packData [(32, s.ledger.held.length)])

/-- R565: an entry copied to the critical ring. DEDUCED (log entry 26). -/
def copyCritical (s : State) (e : LedgerEntry) : State :=
  let mark (x : LedgerEntry) : LedgerEntry := if x.seq = e.seq then { x with copied := true } else x
  let ring := s.ledger.critRing ++ [e]
  { s with ledger := { s.ledger with
      critRing := ring.drop (ring.length - 4096), critTotal := sat32 (s.ledger.critTotal + 1)
      held := s.ledger.held.map mark, queue := s.ledger.queue.map mark
      uncopied := s.ledger.uncopied.filter fun x => x.seq ≠ e.seq } }

/-- R503: every CRITICAL entry not yet copied is. -/
def copyAllCritical (s : State) : State := s.ledger.uncopied.foldl copyCritical s

/-- R559: the 32 bytes of an entry. DEDUCED (log entry 26). -/
def entryBytes (e : LedgerEntry) : List Byte :=
  natBytes 32 (e.time.toNat + e.sev.val <<< 64 + (if e.copied then 1 <<< 66 else 0) + (if e.calSet then 1 <<< 67 else 0)
    + (e.srcKind % 16) <<< 68 + (e.srcUnit % 65536) <<< 72 + (e.code % 65536) <<< 88 + (e.seq % 2 ^ 24) <<< 104 + (e.data % 2 ^ 128) <<< 128)

/-! Sessions close. -/

/-- R68: the sessions that pass a test close: their keys are erased, their open transfers discarded, and a freeze one holds
ends (R564). -/
def closeSessions (s : State) (p : Session → Bool) : State :=
  let gone := s.sessions.sessions.filter p
  let s1 := { s with sessions := { s.sessions with sessions := s.sessions.sessions.filter fun x => !p x } }
  match s.ledger.freeze with
  | some sid => if gone.any fun x => x.sid = sid then endFreeze s1 1 else s1
  | none => s1

/-- Every session and every pending handshake ended. -/
def closeAllSessions (s : State) : State :=
  let s1 := closeSessions s fun _ => true
  { s1 with sessions := { s1.sessions with handshakes := [] } }

/-- Whether a session came by the mailbox. -/
def byMailbox (v : Via) : Bool :=
  match v with
  | .mailbox => true
  | .fieldBus _ _ _ _ => false

/-- R80: the sessions of one transport ended, and with them its pending handshakes. DESIGN CHOICE (log entry 88). -/
def closeTransport (s : State) (mailbox : Bool) : State :=
  let s1 := closeSessions s fun x => byMailbox x.via = mailbox
  { s1 with sessions := { s1.sessions with handshakes := s1.sessions.handshakes.filter fun h => byMailbox h.via ≠ mailbox } }

/-! Counters. -/

/-- R544: the set and block of a select index. -/
def selectSet (index : Nat) : Option (CounterSet × Nat) :=
  if 0x8100 ≤ index ∧ index < 0x8160 then some (.core, index - 0x8100)
  else if 0x8200 ≤ index ∧ index < 0x8280 then some (.controller, index - 0x8200)
  else if 0x8300 ≤ index ∧ index < 0x8308 then some (.link, index - 0x8300)
  else if 0x8400 ≤ index ∧ index < 0x84A0 ∧ (index - 0x8400) % 16 < 15 then some (.waystation, index - 0x8400)
  else none

/-- R547: whether an event code is one of a set's. DEDUCED (log entry 27). -/
def eventOk (set : CounterSet) (block ev : Nat) : Bool :=
  ev ≤ 1 || match set with
  | .core => (0x10 ≤ ev && ev ≤ 0x1C) || (0x20 ≤ ev && ev ≤ 0x26) || (0x30 ≤ ev && ev ≤ 0x38) || (0x40 ≤ ev && ev ≤ 0x4D)
      || (0x50 ≤ ev && ev ≤ 0x5F)
  | .controller => 0x10 ≤ ev && ev ≤ 0x1D
  | .link => 0x10 ≤ ev && ev ≤ 0x1C
  | .waystation => (0x10 ≤ ev && ev ≤ 0x17) || (ev = 0x18 && block = 7)

/-- R546: whether a select word is accepted. -/
def selectOk (set : CounterSet) (block w : Nat) : Bool :=
  let unit := bits w 8 4
  let cls := bits w 17 3
  let master := bits w 20 4
  eventOk set block (bits w 0 8) && bits w 24 8 = 0 &&
  match set with
  | .core => unit ≤ 11 && bits w 12 2 ≠ 3 && master ≤ 3 && cls ≤ 1
  | .controller => unit ≤ 2 && bits w 12 2 = 0 && master ≤ 7 && cls ≤ 3
  | .link => unit = 0 && bits w 12 2 = 0 && !bit w 14 && !bit w 15 && master = 0 && cls ≤ 3
  | .waystation => unit ≤ 5 && bits w 12 2 = 0 && !bit w 15 && master ≤ 6 && cls ≤ 4

/-- R546, R549: whether a write of a select word or an address window is one of a set's selects. -/
def isSelect (set : CounterSet) (sub : Nat) : Bool := sub ≤ counterCount set

/-- R546, R549: a select word or window takes effect; a select word clears its counter. -/
def applySelect (s : State) (q : PendingSelect) : State :=
  let c := s.counters
  let selects := mapSet 0 c.selects (keyOf q.index q.sub) q.value
  let values := match selectSet q.index with
    | some (set, block) => if isSelect set q.sub then mapSet {} c.values (counterNumber set block (q.sub - 1)) {} else c.values
    | none => c.values
  { s with counters := { c with selects := selects, values := values } }

/-- Whether the power domain of a counter's block is off (R550, R553). -/
def blockOff (s : State) (set : CounterSet) (block : Nat) : Bool :=
  match set with
  | .core => coreOff s block
  | .controller => s.power.off.getLsbD (13 + block / 32)
  | .link => s.power.off.getLsbD (if block < 4 then 17 else 18)
  | .waystation => s.power.off.getLsbD 20

/-- The counters of a block (R544). -/
def blockCounters (set : CounterSet) (block : Nat) : List Nat := (List.range (counterCount set)).map (counterNumber set block)

/-- The blocks of a set in the order of their records (R544). -/
def setBlocks : CounterSet → List Nat
  | .core => List.range 96
  | .controller => List.range 128
  | .link => List.range 8
  | .waystation => (List.range 10).flatMap fun y => (List.range 15).map fun x => 16 * y + x

/-- R553: every counter of every powered block cleared. -/
def clearCounters (s : State) : State :=
  let off (set : CounterSet) : List Nat := ((setBlocks set).filter (blockOff s set)).flatMap (blockCounters set)
  let kept := off .core ++ off .controller ++ off .link ++ off .waystation
  { s with counters := { s.counters with values := s.counters.values.filter fun e => kept.contains e.1 } }

/-- R554: the counters of some blocks cleared as their domain switches off. -/
def dropCounters (s : State) (set : CounterSet) (blocks : List Nat) : State :=
  let gone := blocks.flatMap (blockCounters set)
  { s with counters := { s.counters with values := s.counters.values.filter fun e => !gone.contains e.1 } }

/-- R551: the GTC stamp of a record: exactly the first count of the tick in lock-step mode, within 2 counts in elastic mode; `late`, 0
to 4, says which. DEDUCED (log entry 62). -/
def stampOf (s : State) (late : Nat) : Nat :=
  if lockstepMode s then s.gtc.toNat / 16 * 16 else (s.gtc.toNat + late + (2 ^ 64 - 2)) % 2 ^ 64

/-- R550: the 16 bytes of a counter's record; `n` numbers its free value. -/
def counterRecord (s : State) (set : CounterSet) (block i n late : Nat) : List Byte :=
  let off := blockOff s set block
  let word := mapGet 0 s.counters.selects (keyOf (counterBase set + block) (i + 1))
  let c := mapGet {} s.counters.values (counterNumber set block i)
  let v := if off then 0 else if cycleEvent set (bits word 0 8) then Config.freeNat (s.free + n) % 2 ^ 48 else c.value.toNat
  natBytes 16 (v + (if c.ovf && !off then 2 ^ 48 else 0) + (if off then 2 ^ 49 else 0) + stampOf s late * 2 ^ 64)

/-- R551: how late the records of a DOMAIN are latched: each no earlier than the one before it. -/
def latchTimes (s : State) : Nat → Nat → Nat → List Nat
  | 0, _, _ => []
  | k + 1, n, last =>
    let late := max last (Config.freeNat (s.free + 2 * n + 1) % 5)
    late :: latchTimes s k (n + 1) late

/-- R550: the records of a set's DOMAIN. -/
def counterDomain (s : State) (set : CounterSet) : List Byte :=
  let places := (setBlocks set).flatMap fun b => (List.range (counterCount set)).map fun i => (b, i)
  ((places.zip (latchTimes s places.length 0 0)).zipIdx).flatMap fun p => counterRecord s set p.1.1.1 p.1.1.2 (2 * p.2) p.1.2

/-! Sampling. -/

/-- R558: every sample buffer emptied, and every core's sampling seeded anew (R555). -/
def clearSamples (s : State) : State :=
  { s with cores := mapCores s.cores (fun _ k => { k with sampling := none }), sampleInit := sampleInitNow s }

end Sys2Proof.Machine
end

