-- ==== Sys2Proof/Machine/PowerOps.lean ====
section
/-! DEFINITION. Power states and domains (R502 to R512), the reset kinds and what each keeps (R47, R513 to R516, R589), clock steps
(R519, R520), and the hardware limits (R521). -/

namespace Sys2Proof.Machine

/-! Survival (R47, R515, R589). -/

/-- Whether an entry can be written by some role. -/
def entryWritable (e : Entry) : Bool :=
  let w (a : Access) : Bool := a = .rw || a = .rws || a = .wo
  w e.operator || w e.service || w e.owner

/-- R516, R589: whether an entry is a VOLATILE setting that a reset returns to its default: a writable one, or one of the three
that the governor sets. What reports a state or a measurement always reads the current value. -/
def volatileSetting (key : Nat) : Bool :=
  match entryFind (key / 256) (key % 256) with
  | some e => e.persist = .volatile && (entryWritable e || key = keyTollRate || key = keyScrubEvery || key = keyCfgScrubInterval)
  | none => false

/-- The index ranges of R589 whose entries belong to no block of the module as a whole: link ports, lock-step, counters. -/
def otherBlock (key : Nat) : Bool :=
  let i := key / 256
  (0x4100 ≤ i && i < 0x4108) || (0x9000 ≤ i && i < 0xA000) || i = 0x4000 || (0x8600 ≤ i && i < 0x8800)

/-- R589: the VOLATILE entries of the module as a whole returned. -/
def returnModule (s : State) : State := returnEntries s fun k => volatileSetting k && !otherBlock k

/-- R515, R589: lock-step state and coordinates returned. -/
def returnLock (s : State) : State :=
  let s1 := returnEntries s fun k =>
    entryPersist k = some .volatile && (0x9000 ≤ k / 256 && k / 256 < 0xA000 || k = keySysAddr || k = keyTorusX || k = keyTorusY || k = keyTorusZ)
  { s1 with lockstep := {} }

/-! Clocks (R519, R520). -/

/-- R520: an upward step: the rail rises first, and the frequency follows when it has settled. -/
def raiseStep (s : State) (step : Nat) : State := { s with power := { s.power with railTo := some step } }

/-- R520: a new step in elastic mode: down at once, up after the rail. -/
def changeStep (s : State) (step : Nat) : State :=
  let now := dictGet s keyClkStep
  if now < step then setStep { s with power := { s.power with railTo := none } } step
  else if step < now then raiseStep s step
  else s

/-! Domains (R504, R509). -/

/-- The bit of a domain. -/
def domainBit (d : Nat) : BitVec 24 := 1#24 <<< d

/-- R507: POWER_STATE. DEDUCED (log entry 68). -/
def powerState (s : State) : Nat :=
  match s.power.mode with
  | .s3 => 3
  | .s4 | .off => 4
  | .on => if s.power.gated then 1 else if s.power.off ≠ 0 then 2 else 0

/-- R349: the towers of the HP groups that some bits name and that are not yet in self-refresh. -/
def groupTowers (s : State) (v : BitVec 24) : BitVec 8 :=
  (List.range 8).foldl (fun (m : BitVec 8) t =>
    if v.getLsbD (13 + t / 2) && (getTower s.stacked t).state ≠ .selfRefresh then m ||| (1#8 <<< t) else m) 0

/-- R509, R512: DOMAIN_OFF takes a value: domains named and on wait for their condition, domains off and not named power up. -/
def setDomains (s : State) (v : BitVec 24) : State :=
  let inRefresh := (List.range 8).foldl (fun (m : BitVec 24) t =>
    if (getTower s.stacked t).state = .selfRefresh then m ||| domainBit (13 + t / 2) else m) 0
  let up := (s.power.off ||| inRefresh) &&& ~~~v
  dictSet { s with power := { s.power with waking := s.power.waking ||| up, toSelfRefresh := groupTowers s (v &&& ~~~s.power.off) } }
    keyDomainOff v.toNat

/-- R265: whether a caravan that has not ended names a core of a sector. -/
def sectorNamed (s : State) (k : Nat) : Bool :=
  s.caravans.any fun e =>
    (e.2.state = .armed || e.2.state = .running || e.2.state = .faultWait)
      && ((endsAt s e.2 fun a => spaceOf a = 1 && cmCore a / 12 = k).isSome
        || (let d := cvDesc e.2.desc
            d.op = 2 && (List.range 96).any fun c => c / 12 = k && d.mask.getLsbD c))

/-- R162: whether a core's engines have nothing queued and nothing issued. -/
def enginesIdle (k : Core) : Bool := k.engines.all fun e => e.2.queue.isEmpty && e.2.jobs.isEmpty

/-- R509: whether a domain may switch off now. -/
def mayTurnOff (s : State) (d : Nat) : Bool :=
  if d < 8 then (List.range 12).all (fun i => enginesIdle (mapGet {} s.cores (12 * d + i))) && !sectorNamed s d
  else if d < 12 then !configBusy s
  else if d < 13 then true
  else if d < 17 then (List.range 2).all fun i => (getTower s.stacked (2 * (d - 13) + i)).state = .selfRefresh
  else d < 19

/-- A tile sector without power: its cores as at power-on, their work in flight at the queue manager ended, their counters
cleared. -/
def sectorOff (s : State) (k : Nat) : State :=
  let mine (c : CoreId) : Bool := c.val / 12 = k
  let ring (x : Ring) : Ring :=
    let gone := x.claims.filter fun q => mine q.core
    { x with claims := x.claims.filter fun q => !mine q.core, pool := gone.map (·.entry) ++ x.pool
             posts := x.posts.map fun p => match p.poster with
               | some q => if mine q.1 then { p with poster := none } else p
               | none => p }
  let s1 := { s with
    cores := s.cores.filter fun e => e.1 / 12 ≠ k
    queues := { s.queues with rings := mapAll {} ring s.queues.rings }
    caravans := mapAll {} (loseHolds (fun c => c / 12 = k) (sysAddr s)) s.caravans
    net := abandon s.net fun r => (match r.who with
      | .gatherLine c _ _ => mine c
      | .image c _ => mine c
      | _ => false) }
  let off (x : Ring) : Bool := ringEn x && ringConsumer x = 1 && ringFld x 24 7 < 96 && ringFld x 24 7 / 12 = k
  let s2 := s1.queues.rings.foldl (fun s e => if off e.2 then targetOffPool s e.1 else s) s1
  dropCounters s2 .core ((List.range 12).map (12 * k + ·))

/-- A fabric quadrant without power: its regions BLANK, its PLLs unlocked. -/
def quadrantOff (s : State) (q : Nat) : State :=
  let s1 := (List.range 16).foldl (fun s i =>
    let r := 16 * q + i
    let s2 := blankRegion (isolateRegion s r) r
    { s2 with fabric := { s2.fabric with regions := mapSet {} s2.fabric.regions r {} } }) s
  dictSet s1 keyFpllLocked ((BitVec.ofNat 8 (dictGet s1 keyFpllLocked) &&& ~~~(3#8 <<< (2 * q))).toNat)

/-- Askua ports without power: R385 acts on their traffic. -/
def portsOff (s : State) (first : Nat) : State :=
  let s1 := (List.range 4).foldl (fun s i => if (getPort s.links (first + i)).state = .disabled then returnPort s (first + i) else portFall s (first + i) .down) s
  dropCounters s1 .link ((List.range 4).map (first + ·))

/-- R509: a domain switches off. -/
def turnOff (s : State) (d : Nat) : State :=
  let s1 := { s with power := { s.power with off := s.power.off ||| domainBit d } }
  if d < 8 then sectorOff s1 d
  else if d < 12 then quadrantOff s1 (d - 8)
  else if d < 13 then s1
  else if d < 17 then dropCounters s1 .controller ((List.range 32).map (32 * (d - 13) + ·))
  else portsOff s1 (4 * (d - 17))

/-- R509: a domain is on again. -/
def domainUp (s : State) (d : Nat) : State :=
  { s with power := { s.power with off := s.power.off &&& ~~~domainBit d, waking := s.power.waking &&& ~~~domainBit d } }

/-! Resets (R513, R514). -/

/-- What a reset leaves of stacked memory's queues: every accepted write has taken effect (R333). -/
def drainTowers (m : Stacked) : Stacked :=
  let writes := m.towers.flatMap fun t => t.2.pcs.flatMap fun p => acceptedWrites p.2
  let m1 := writes.foldl stackApply m
  let idle (p : PseudoChannel) : PseudoChannel := { p with queue := [], reading := [], openRows := [] }
  { m1 with towers := mapAll {} (fun t => { t with pcs := mapAll {} idle t.pcs }) m1.towers }

/-- R296, R515: the PCIe function, BAR0, the MSI-X table and the rings as a reset leaves them; PERST_N stands.
DEDUCED (log entry 78). -/
def resetPcie (s : State) : State :=
  { s with pcie := { perstN := s.pcie.perstN, linkUp := s.pcie.linkUp }, bar0 := {}, queues := { ttCache := s.queues.ttCache }
           net := { s.net with requests := s.net.requests.filter fun r =>
                      (match r.who with | .ringFetch _ | .ringPost _ | .ringDiscard _ | .ringTail _ | .bar2 _ _ => false | _ => true) } }

/-- R513: a module reset. A partial load from host memory fails with it (R498). -/
def moduleResetNow (s : State) (d3hotKept : Bool) : State :=
  let s0 := match s.fabric.load with
    | some { kind := .region r 2 _ _, next := n, .. } => partialFailed s r 0x09 n
    | _ => s
  let s1 := resetPcie (coreArrayReset s0)
  let s2 := closeTransport (returnModule s1) true
  let s3 := setDomains s2 0
  dictSet { s3 with power := { s3.power with gated := false }, pcie := { s3.pcie with d3hot := d3hotKept } } keyLastReset 1

/-- R538: a module reset during the unseal sequence waits for its end. DEDUCED (log entry 66). -/
def moduleReset (s : State) (t : ResetTrigger) : State :=
  if isUnsealing s then { s with security := { s.security with deferred := some t } } else moduleResetNow s false

/-- R513, R385, R515: every Askua port reset: it trains again. -/
def resetPorts (s : State) : State :=
  (List.range 8).foldl (fun s p =>
    let was := (getPort s.links p).state
    modPort (clearPort s p) p fun x => { x with state := if was = .disabled then .disabled else .down, trainStep := 0, latExceeded := false }) s

/-- R513: border ports' outstanding requests completed with ERR. -/
def failBorder (s : State) : State :=
  s.net.border.foldl (fun s (e : Nat × BorderPort) =>
    let s1 := { s with net := { s.net with border := mapSet {} s.net.border e.1 { nextTag := e.2.nextTag } } }
    (e.2.taken.map (·.2) ++ e.2.queue).foldl (fun s f => send s (errResponse f)) s1) s

/-- R527: a slot's copy in the store unwrapped into the key store; one whose tag fails leaves the slot empty. No event of the spec
makes a tag fail, so whether one does is a free value. DESIGN CHOICE (log entry 70). -/
def unwrapKey (s : State) (slot : Nat) : State :=
  let s1 := useFree s 1
  if freshNat s = 0 then logEntry { s1 with security := { s1.security with keys := mapSet none s1.security.keys slot none } } 3 0x7001 0 0 (packData [(8, slot)])
  else s1

/-- R527: every copy of a key in the store unwrapped. -/
def unwrapKeys (s : State) : State := (s.security.keys.map (·.1)).foldl unwrapKey s

/-- The standby copies erased (R72). -/
def eraseStandby (s : State) : State := { s with security := { s.security with standbyKeys := [], holding := none, ownerResult := 0 } }

/-- R513: a warm reset: everything but the island, the towers and the fabric. The management complex reloads.
DEDUCED (log entry 66). -/
def warmReset (s : State) : State :=
  let s1 := abortLoad (resetPorts (failBorder (resetPcie (coreArrayReset s))))
  let s2 := returnModule (closeAllSessions s1)
  let s3 := clearSamples { s2 with counters := { s2.counters with values := [], clearAt := none } }
  let s4 := { s3 with
    stacked := drainTowers s3.stacked
    net := { border := s3.net.border.filter fun e => e.2 ≠ ({} : BorderPort) }
    banks := [], queues := {}, mgmt := .reloading, complex := { s3.complex with running := false }
    power := { s3.power with gated := false, calm := 0 } }
  dictSet (dictSet (setDomains s4 0) keyModuleState 0) keyLastReset 2

/-- R497, R515: entries that a power-on reset keeps: STORED ones. -/
def storedOnly (d : List (Nat × Nat)) : List (Nat × Nat) := d.filter fun e => entryPersist e.1 = some .stored

/-- R347: every tower begins its training, whose results replace those of the last. -/
def trainTowers (s : State) : State :=
  let s1 := dictSet (dictSet s keyLaneRepairs 0) keyTrainTime 0
  { s1 with stacked := { s1.stacked with towers := (List.range 8).foldl (fun m t => mapMod {} m t fun (x : Tower) => { x with state := .training }) s1.stacked.towers } }

/-- R513, R515: a power-on reset: the module as it is right after power-on, with what is stored, the pins and cables as they
stand, and a sequence of R539 to run where one was interrupted. DEDUCED (log entry 65). -/
def powerOnReset (s : State) : State :=
  let d := storedOnly s.dict
  let cables := s.links.ports.filterMap fun e => if e.2.cable then some (e.1, ({ cable := true } : Port)) else none
  trainTowers { State.reset with
    pending := s.pending, out := s.out, free := s.free, fuses := s.fuses, straps := s.straps, dict := d
    links := { ports := cables }
    lockstep := { mode := mapGet 0 d keyLsMode = 1 }
    pcie := { perstN := s.pcie.perstN }
    fabric := { store := { s.fabric.store with job := none } }
    security := { keys := s.security.keys
                  step := if mapGet 0 d keyDebugState = 1 then 1 else 0
                  interrupted := mapGet 0 d keyDebugState = 1 }
    ledger := { critRing := s.ledger.critRing, critTotal := s.ledger.critTotal }
    power := { sysrefLost := s.power.sysrefLost, gtcRefLost := s.power.gtcRefLost } }

/-- Every rail off, the island's too, with the cause that the next power-on reports (R502, R525): nothing that is not stored
is left. DEDUCED (log entry 65). -/
def railsOff (s : State) (cause : Nat) : State :=
  let s1 := powerOnReset (dictSet s keyPowerOnCause cause)
  { s1 with power := { s1.power with mode := .off }, stacked := {} }

/-! Low power states (R508, R510, R511). -/

/-- R508: whether nothing in the module works. -/
def moduleIdle (s : State) : Bool :=
  s.cores.all (fun e =>
    e.2.engines.all (fun g => g.2.queue.isEmpty && g.2.jobs.isEmpty) && e.2.vector.queue.isEmpty && e.2.vector.running.isNone
      && e.2.gathers.all (fun g => g.2.queue.isEmpty && g.2.running.isNone)
      && e.2.cc.threads.all fun t => t.2.state = .idle || t.2.state = .taskWait)
    && s.caravans.all (fun e => !(e.2.state = .armed || e.2.state = .running || e.2.state = .faultWait))
    && s.queues.rings.all (fun e => e.2.fetching.isNone) && s.net.flits.isEmpty

/-- R510, R515: what S3 and S4 share: sessions closed and the role keys copied, every block that loses its power at its reset
values, the island's state kept. DEDUCED (log entry 66). -/
def enterStandby (s : State) (mode : PowerMode) : State :=
  let wake := BitVec.ofNat 64 (dictGet s keyWakeAt)
  let s1 := closeAllSessions s
  let s2 := resetPorts (resetPcie (if mode = .s3 then resetCores s1 else coreArrayReset s1))
  let s3 := returnLock (returnModule s2)
  let s4 := dropCounters (dropCounters (dropCounters (dropCounters s3 .core (setBlocks .core)) .controller (setBlocks .controller)) .link
    (setBlocks .link)) .waystation (setBlocks .waystation)
  let s5 := { s4 with
    security := { s4.security with standbyKeys := s4.security.keys.filter fun k => k.1 < 4 }
    net := {}, banks := if mode = .s3 then s4.banks else []
    caravans := if mode = .s3 then mapAll {} (loseHolds (fun _ => true) (sysAddr s)) s4.caravans else []
    queues := {}, mgmt := .standby
    complex := { memory := if mode = .s3 then s4.complex.memory else none }
    stacked := drainTowers s4.stacked
    power := { s4.power with mode := mode, off := BitVec.allOnes 24, waking := 0, toSelfRefresh := 0, gated := false, wakeAt := wake, railTo := none, calm := 0 } }
  dictSet (dictSet (dictSet s5 keyModuleState 0) keyWakeCause 0) keyFpllLocked 0

/-- R172: a core's memory as S3 keeps it: the retained segments with their marks; the rest reads as after a zero fill. -/
def retainCore (segments : Nat) (k : Core) : Core :=
  let keep (a : Nat) : Bool := segments.testBit (a / 131072)
  { mem := { bytes := k.mem.bytes.filter fun e => keep e.1
             incomplete := k.mem.incomplete.filter fun e => keep (64 * e.1), poison := k.mem.poison.filter fun e => keep (64 * e.1) } }

/-- R349, R499, R510: entry into S3. -/
def enterS3 (s : State) : State :=
  let segments := dictGet s keyCmRetainSegments
  let s1 := enterStandby s .s3
  let tower (t : Tower) : Tower := if t.state = .failed then t else { t with state := .selfRefresh }
  let towers := (List.range 8).foldl (fun m t => mapMod {} m t tower) s1.stacked.towers
  { s1 with cores := mapCores s1.cores fun _ k => retainCore segments k, stacked := { s1.stacked with towers := towers } }

/-- R499, R510, R515: entry into S4: configuration and contents are lost, RETAINED entries return to their defaults. -/
def enterS4 (s : State) : State :=
  let s1 := enterStandby (if (s.fabric.load.isSome : Bool) then abortLoad s else s) .s4
  let s2 := returnEntries s1 fun k => entryPersist k = some .retained && !(0x8800 ≤ k / 256 && k / 256 < 0x8900)
  { s2 with cores := [], stacked := {}, fabric := { store := { s2.fabric.store with job := none } }, counters := {}
            dict := (dictSet s2 keyFabricState 0).dict }

/-- R511: what every wake does: its cause, sessions closed, the standby copies erased, every domain on; the dictionary waits for the
firmware's check. -/
def wakeCommon (s : State) (cause : Nat) : State :=
  let s1 := eraseStandby (closeAllSessions s)
  dictSet { s1 with power := { s1.power with mode := .on, off := 0, waking := 0, afterTrip := false } } keyWakeCause cause

/-- R511: a wake from S4: the power-up sequence from the row that powers MGT and SEC on. -/
def wakeS4 (s : State) (cause : Nat) : State :=
  let s1 := trainTowers (wakeCommon s cause)
  let again := isUnsealing s1
  { s1 with mgmt := .standby
            security := { s1.security with step := if again then 1 else 0, interrupted := again, holding := none } }

/-- R511: a wake event in S3 or S4: from S4 the module boots, from S3 its wake sequence begins. DEDUCED (log entry 66). -/
def wakeEvent (s : State) (cause : Nat) : State :=
  match s.power.mode with
  | .s4 => wakeS4 s cause
  | .s3 => dictSet (closeAllSessions s) keyWakeCause cause
  | _ => s

/-- What a firmware slot holds. -/
def firmwareIn (s : State) (slot : Nat) : Option Firmware := mapGet none s.fabric.store.firmware (0x10 + slot)

/-- R229, R532: whether a firmware slot holds an image that passes. -/
def firmwareOk (s : State) (slot : Nat) : Bool := (firmwareIn s slot).any (firmwareCheck s.fuses (dictGet s keyFwMinBuild))

/-- R511, R532: whether the firmware kept in the private memory is that of the active slot and passes. -/
def retainedOk (s : State) : Bool :=
  let slot := dictGet s keyFwSlotActive
  s.complex.memory.isSome && decide (s.complex.memory = firmwareIn s slot) && firmwareOk s slot

/-- R511: the end of a wake from S3: towers READY, RUNNING regions started, STOPPED; or a boot as from S4 where the retained
firmware fails its check. -/
def endS3Wake (s : State) : State :=
  let cause := dictGet s keyWakeCause
  let s1 := wakeCommon s cause
  if retainedOk s then
    let tower (t : Tower) : Tower := if t.state = .selfRefresh then { t with state := .ready } else t
    let s2 := { s1 with mgmt := .serving, complex := { s1.complex with running := true }, stacked := { s1.stacked with towers := mapAll {} tower s1.stacked.towers } }
    let s3 := unwrapKeys ((List.range 64).foldl (fun s r => if (getRegion s r).code = .running then beginRegion s r false else s) s2)
    dictSet s3 keyModuleState 1
  else
    let s2 := enterS4 s
    wakeS4 s2 cause

/-! Hardware limits (R521). -/

/-- R521: a throttle: step 4 at least. -/
def throttleNow (s : State) (l : LimitReading) : State :=
  if dictGet s keyThrottleActive = 1 then s
  else
    let s1 := dictBump (dictSet s keyThrottleActive 1) keyThrottleEvents 1
    let s2 := logEntry s1 2 0x1001 0 0 (packData [(8, l.cause.val), (8, l.sensor.toNat), (32, l.reading.toNat)])
    let s3 := if dictGet s keyLsState = 5 then breachCm s2 3 else s2
    if dictGet s3 keyClkStep < 4 then dictSet { s3 with power := { s3.power with railTo := none } } keyClkStep 4 else s3

/-- R521: a throttle released: the governor's step again. -/
def throttleEnd (s : State) : State :=
  if dictGet s keyThrottleActive = 1 then
    let s1 := dictSet s keyThrottleActive 0
    if s1.power.step < dictGet s1 keyClkStep then raiseStep s1 s1.power.step else s1
  else s

/-- R521, R538: a trip: S4 without the conditions of R510; an unseal sequence stops where it stands. -/
def tripNow (s : State) (l : LimitReading) : State :=
  let s1 := logEntry s 3 0x1002 0 0 (packData [(8, l.sensor.toNat), (32, l.reading.toNat)])
  let s2 := enterS4 (dictSet (dictBump s1 keyTrips 1) keyPowerOnCause 3)
  { s2 with power := { s2.power with tripped := true, afterTrip := true }, security := { s2.security with step := 0, holding := none } }

/-! Resets and standby that a session asks for. -/

/-- R512, R513: WARM_RESET: the reset runs with the module in S0. -/
def resetWarm (s : State) : State :=
  match s.power.mode with
  | .s4 => { warmReset (wakeS4 s 0) with mgmt := .standby }
  | .s3 => warmReset (endS3Wake s)
  | _ => warmReset s

/-- R513, R226: CORE_RESET: a program that runs starts anew. -/
def resetArray (s : State) : State :=
  let s1 := dictSet (coreArrayReset s) keyLastReset 3
  if dictGet s keyModuleState = 2 then programStart s1 else s1

/-- R508, R510, R511: POWER_REQ takes a value. -/
def requestPower (s : State) (v : Nat) : State :=
  let s1 := dictSet s keyPowerReq v
  match v with
  | 0 => if s.power.mode = .s3 ∨ s.power.mode = .s4 then wakeEvent s1 1 else wakeS1 s1
  | 3 => enterS3 s1
  | 4 => enterS4 s1
  | _ => s1

/-- R538: the entries whose writes wait while the module unseals: CORE_RESET, WARM_RESET and POWER_REQ. -/
def mustWait (key : Nat) : Bool := [keyCoreReset, keyWarmReset, keyPowerReq].contains key

/-- R226, R508, R512: what a write of one of these entries does. -/
def runAsked (s : State) (ask : Nat × Nat) : State :=
  if ask.1 = keyCoreReset then resetArray s else if ask.1 = keyWarmReset then resetWarm s else requestPower s ask.2

/-- R538: such a write waits while the module unseals, and runs at once else. DEDUCED (log entry 69). -/
def waitOrRun (s : State) (ask : Nat × Nat) : State :=
  if isUnsealing s then { s with security := { s.security with asked := s.security.asked ++ [ask] } } else runAsked s ask

/-- R538: what waited runs once the sequence has ended: the writes in their order, then a module reset. DEDUCED (log entry 69). -/
def runWaiting (s : State) (w : Security) : State :=
  let s1 := w.asked.foldl runAsked s
  match w.deferred with
  | some t => moduleReset s1 t
  | none => s1

/-! Pins (R573, R574). -/

/-- R574: ALERT_N asserted. -/
def alertAsserted (s : State) : Bool :=
  dictGet s keyThrottleActive = 1 || (s.power.mode = .s4 && s.power.afterTrip) || dictGet s keyLsState = 6

/-- R573: MOD_PG released high: the PCIE domain is on. -/
def modPowerGood (s : State) : Bool := s.power.mode = .on && !s.power.off.getLsbD 19

end Sys2Proof.Machine
end

