-- ==== Sys2Proof/Machine/PowerCmds.lean ====
section
/-! DEFINITION. The commands of power, clocks, limits and the governor that are no frames: input thresholds and power-up (R502 to
R505), S1 (R508), domains (R509), timed and S3 wakes (R511), the references (R517, R583), the governor's period (R522 to R524),
steps and hardware limits (R520, R521), the resets of the host's pins (R296, R505, R517), and the management complex's restart
and boot (R228, R229). -/

namespace Sys2Proof.Machine

/-! Input power and power-up. -/

/-- R502: a module without power starts. DEDUCED (log entry 65). -/
def powerGood (s : State) : State := if s.power.mode = .off then powerOnReset s else s

/-- INPUT_POWER_GOOD (R502): the power-up sequence begins. -/
def execInputPowerGood (s : State) : Result := .next (powerGood s)

/-- UNDERVOLTAGE_LOCKOUT (R502, R503): CRITICAL entries not yet copied are, the cause is written, and every rail goes off. -/
def execUndervoltageLockout (s : State) : Result :=
  .next (if s.power.mode = .off then s else railsOff (copyAllCritical s) 1)

/-- OVERVOLTAGE_LOCKOUT (R502): every rail goes off. -/
def execOvervoltageLockout (s : State) : Result := .next (if s.power.mode = .off then s else railsOff s 4)

/-- OVERVOLTAGE_RELEASE (R502): the power-up sequence begins again. -/
def execOvervoltageRelease (s : State) : Result := .next (powerGood s)

/-- POWER_ON_RESET (R505, R513): the reset that ends a time without power. -/
def execPowerOnReset (s : State) : Result := .next (powerGood s)

/-- R505, R348: whether a tower's boot is over. -/
def towerBooted (s : State) (t : Nat) : Bool := (getTower s.stacked t).state = .ready || (getTower s.stacked t).state = .failed

/-- R505: whether the boot may end: towers booted, the fabric started, failed or not to be loaded, the tile sectors on. -/
def mayStop (s : State) : Bool :=
  s.power.mode = .on && dictGet s keyModuleState = 0 && (List.range 8).all (towerBooted s)
    && (dictGet s keyFabricState = 2 || dictGet s keyFabricState = 3 || dictGet s keyCfgBootSlot = 0xFF)
    && (List.range 8).all fun k => !s.power.off.getLsbD k

/-- MODULE_STATE_STOPPED (R505): the module is STOPPED; after a power-on reset BOOT_TIME tells the time it took. -/
def execModuleStateStopped (bootMs : U32) (s : State) : Result :=
  if mayStop s then
    let s1 := dictSet s keyModuleState 1
    .next (if dictGet s keyLastReset = 0 then dictSet s1 keyBootTime bootMs.toNat else s1)
  else .next s

/-! Power states. -/

/-- S1_ENTRY (R508): while POWER_REQ allows it and nothing works, the clocks are gated. -/
def execS1Entry (s : State) : Result :=
  if s.power.mode = .on ∧ dictGet s keyPowerReq = 1 ∧ moduleIdle s then .next { s with power := { s.power with gated := true } } else .next s

/-- S1_EXIT (R508): the clocks run again. -/
def execS1Exit (s : State) : Result := .next (wakeS1 s)

/-- DOMAIN_SWITCH_OFF (R509): a domain that DOMAIN_OFF names switches off once its condition holds. -/
def execDomainSwitchOff (d : DomainId) (s : State) : Result :=
  if (dictGet s keyDomainOff).testBit d.val ∧ ¬ s.power.off.getLsbD d.val ∧ s.power.mode = .on ∧ mayTurnOff s d.val then .next (turnOff s d.val)
  else .next s

/-- DOMAIN_POWER_UP_DONE (R509): a domain that powers up is on; a tower group once its towers have left self-refresh (R349). -/
def execDomainPowerUpDone (d : DomainId) (s : State) : Result :=
  let resting := (List.range 2).any fun i => (getTower s.stacked (2 * (d.val - 13) + i)).state = .selfRefresh
  if s.power.waking.getLsbD d.val ∧ ¬ (13 ≤ d.val ∧ d.val < 17 ∧ resting) then .next (domainUp s d.val) else .next s

/-- WAKE_AT_EXPIRE (R511): calendar time has reached the WAKE_AT that the entry took. -/
def execWakeAtExpire (s : State) : Result :=
  if (s.power.mode = .s3 ∨ s.power.mode = .s4) ∧ s.power.wakeAt ≠ 0 ∧ s.power.wakeAt ≤ calendar s ∧ ¬ s.power.tripped then .next (wakeEvent s 2)
  else .next s

/-- S3_WAKE (R511): the wake sequence from S3, once a wake event has been observed, runs to its end. -/
def execS3Wake (s : State) : Result :=
  if s.power.mode = .s3 ∧ dictGet s keyWakeCause ≠ 0 then .next (endS3Wake s) else .next s

/-! References (R517, R583). -/

/-- SYSREF_LOSS (R517). -/
def execSysrefLoss (s : State) : Result :=
  if s.power.sysrefLost then .next s
  else
    let s1 := dictSet { s with power := { s.power with sysrefLost := true } } keySysrefOk 0
    .next (logEntry (if lockstepMode s then s1 else dictSet s1 keyClkSource 2) 2 0x1003 0 0 0)

/-- SYSREF_RETURN (R517). -/
def execSysrefReturn (s : State) : Result :=
  let s1 := dictSet { s with power := { s.power with sysrefLost := false } } keySysrefOk 1
  .next (if lockstepMode s then s1 else dictSet s1 keyClkSource 0)

/-- GTC_REF_IN_LOSS (R583): an anchor that uses GTC_REF_IN moves to SYSREF. -/
def execGtcRefInLoss (s : State) : Result :=
  if isAnchor s ∧ dictGet s keyLsRefSource = 1 ∧ ¬ s.power.gtcRefLost then
    .next (logEntry { s with power := { s.power with gtcRefLost := true } } 2 0x1003 0 0 0)
  else .next s

/-- GTC_REF_IN_RETURN (R583). -/
def execGtcRefInReturn (s : State) : Result := .next { s with power := { s.power with gtcRefLost := false } }

/-! The governor. -/

/-- A reading in millionths as an F32. -/
def f32Micro (m : Nat) : Nat := fp32Code (numDiv (.fin false m 0) (.fin false 1000000 0))

/-- R525: the readings of a period reported. -/
def reportReadings (s : State) (g : GovReadings) : State :=
  let s1 := dictSet (dictSet (dictSet s keyInputVoltage g.inputVoltage.toNat) keyInputCurrent g.inputCurrent.toNat) keyInputPower g.inputPower.toNat
  (g.dieSensors.take 64).zipIdx.foldl (fun (s : State) (r : U32 × Nat) => dictSet s (keyTj0 + r.2) r.1.toNat) (dictSet s1 keyTjMax (f32Micro g.dieMax))

/-- R502: whether the input lies from 38 to 40 V and its current above 31 A, as F32 codes. DEDUCED (log entry 67). -/
def overCurrent (g : GovReadings) : Bool :=
  0x42180000 ≤ g.inputVoltage.toNat && g.inputVoltage.toNat < 0x42200000 && 0x41F80000 < g.inputCurrent.toNat && g.inputCurrent.toNat < 0x7F800000

/-- R522: the step wanted and the new calm, from the step, the calm and the readings. DEDUCED (log entry 67). -/
def governorStep (step calm target limit lo hi : Nat) (g : GovReadings) : Nat × Nat :=
  let t := g.towers.foldl max g.dieMax
  let r : Nat × Nat :=
    if target * 1000000 < t ∨ limit * 1000000 < g.power ∨ overCurrent g then (step + 1, 0)
    else if t < (target - 5) * 1000000 ∧ g.power < 950000 * limit then
      if calm + 1 = 10 then (step - 1, 0) else (step, calm + 1)
    else (step, 0)
  (min (max r.1 lo) hi, r.2)

/-- R523: the TOLL_RATE decided. -/
def governorToll (s : State) (g : GovReadings) : Nat :=
  let v := dictGet s keyTollRate
  let w := if 50000 < g.queueFull then v - v / 4 else if g.queueFull < 10000 then v + 32 else v
  min (max w (dictGet s keyTollRateFloor)) 1024

/-- R523: the SCRUB_EVERY decided. DEDUCED (log entry 67). -/
def governorScrub (s : State) (g : GovReadings) : Nat :=
  let v := dictGet s keyScrubEvery
  let w := if 1000 < g.eccRoseLastHour then v / 2 else if 24 ≤ g.eccHoursSinceRise then 2 * v else v
  min (max w (dictGet s keyScrubEveryMin)) (dictGet s keyScrubEveryMax)

/-- R523: the CFG_SCRUB_INTERVAL decided after a pass, in either mode. DEDUCED (log entry 67). -/
def governorCfgScrub (s : State) : State :=
  match s.fabric.scrubEnded with
  | some corrected =>
    let v := dictGet s keyCfgScrubInterval
    let w := if corrected then 1 else min (max (2 * v) 1) (dictGet s keyCfgScrubIntervalMax)
    govChange (dictSet { s with fabric := { s.fabric with scrubEnded := none } } keyCfgScrubInterval w) 5 v w
  | none => s

/-- R355, R523: whether a port's eye margin is below EQ_MARGIN_MIN. DEDUCED (log entry 53). -/
def lowMargin (s : State) (p : Nat) : Bool := portUp s p && dictGet s (portKey p 8) < dictGet s keyEqMarginMin

/-- R520, R523: the decisions of a period applied at once, in elastic mode. DEDUCED (log entry 53). -/
def governElastic (s : State) (g : GovReadings) (step : Nat) : State :=
  let old := s.power.step
  let s1 := changeStep s step
  let s2 := govChange { s1 with power := { s1.power with step := step } } 1 old step
  let toll := governorToll s g
  let scrub := governorScrub s g
  let s3 := govChange (dictSet s2 keyTollRate toll) 3 (dictGet s keyTollRate) toll
  let s4 := govChange (dictSet s3 keyScrubEvery scrub) 4 (dictGet s keyScrubEvery) scrub
  (List.range 8).foldl (fun s p => if lowMargin s p then modPort s p fun x => { x with eqWindow := true } else s) s4

/-- R524: the wishes of a period sent towards the anchor, in lock-step mode. DEDUCED (log entry 53). -/
def governLockstep (s : State) (g : GovReadings) (step : Nat) : State :=
  let s1 := takeWish s 1 step 8
  let s2 := if dictGet s keyLsRefreshMode = 1 then
      (if g.towers.any fun t => 80000000 < t then takeWish s1 2 0 8 else if g.cool1s then takeWish s1 2 1 8 else s1) else s1
  let s3 := takeWish (takeWish s2 3 (governorToll s g) 8) 4 (governorScrub s g) 8
  if (List.range 8).any (lowMargin s) then takeWish s3 5 6250 8 else s3

/-- GOVERNOR_PERIOD (R522 to R524). -/
def execGovernorPeriod (g : GovReadings) (s : State) : Result :=
  if s.power.mode = .on ∧ s.mgmt = .serving then
    let s1 := governorCfgScrub (reportReadings s g)
    let r := governorStep s.power.step s.power.calm (dictGet s keyThermalTarget) (dictGet s keyPowerLimit) (dictGet s keyStepMin) (dictGet s keyStepMax) g
    let s2 := { s1 with power := { s1.power with calm := r.2 } }
    .next (if lockstepMode s then governLockstep s2 g r.1 else governElastic s2 g r.1)
  else .next s

/-- STEP_UP_RAIL_SETTLED (R520): the rail has risen, and the frequency follows. -/
def execStepUpRailSettled (s : State) : Result :=
  match s.power.railTo with
  | some step => .next (setStep s step)
  | none => .next s

/-! Hardware limits (R521). -/

/-- THROTTLE (R521). -/
def execThrottle (l : LimitReading) (s : State) : Result := .next (if s.power.mode = .on then throttleNow s l else s)

/-- THROTTLE_RELEASE (R521). -/
def execThrottleRelease (s : State) : Result := .next (throttleEnd s)

/-- TRIP (R521). -/
def execTrip (l : LimitReading) (s : State) : Result := .next (if s.power.mode = .on then tripNow s l else s)

/-- TRIP_RELEASE (R521): every sensor is at 80 °C or below, and a wake is accepted again. -/
def execTripRelease (s : State) : Result := .next { s with power := { s.power with tripped := false } }

/-! The host's pins. -/

/-- MODULE_RESET (R296, R513). PERST_N asserted holds the endpoint in reset until PERST_N_DEASSERT. -/
def execModuleReset (t : ResetTrigger) (s : State) : Result :=
  let s1 := if t = .perstN then { s with pcie := { s.pcie with perstN := true, linkUp := false } } else s
  .next (if s.power.mode = .on then moduleReset s1 t else s1)

/-- PERST_N_DEASSERT (R505): the endpoint leaves its fundamental reset. -/
def execPerstNDeassert (s : State) : Result := .next { s with pcie := { s.pcie with perstN := false, linkUp := true } }

/-- PCIE_LINK_DOWN (R517): the PCIe reference is lost. -/
def execPcieLinkDown (s : State) : Result := .next { s with pcie := { s.pcie with linkUp := false } }

/-! The management complex (R228, R229). -/

/-- MGMT_MISMATCH (R228): both cores stop; every session closes, and nothing answers until the restart. Which outputs differ is not
the model's: the program counters of the two cores are free values. -/
def execMgmtMismatch (cycle : U64) (s : State) : Result :=
  if s.mgmt = .serving then
    let s1 := closeAllSessions { logEntry s 3 0x2001 0 0 (packData [(64, cycle.toNat)]) with mgmt := .reloading }
    let x : Complex := { s1.complex with running := false, first := { pc := BitVec.ofNat 64 (freshNat s1) }, second := { pc := BitVec.ofNat 64 (freshNat (useFree s1 1)) } }
    .next (useFree { s1 with complex := x } 2)
  else .next s

/-- R227, R228: the complex copies a slot into its private memory, and both cores start anew. -/
def loadComplex (s : State) (slot : Nat) : State :=
  let build := match firmwareIn s slot with
    | some f => f.build.toNat
    | none => 0
  dictSet (dictSet { s with mgmt := .serving, complex := { memory := firmwareIn s slot, running := true } } keyFwSlotActive slot) keyFwBuild build

/-- R229: the complex runs a slot: it serves, reports its build, begins the full load of CFG_BOOT_SLOT (R488), and, after a
power-on, the start-up (R389, R409). DEDUCED (log entries 57, 75). -/
def runFirmware (s : State) (slot : Nat) : State :=
  let s1 := loadComplex s slot
  let boot := dictGet s keyCfgBootSlot
  let s2 := if boot = 0xFF ∨ configBusy s1 then s1 else startFullLoad s1 boot
  if dictGet s keyWakeCause = 0 ∧ dictGet s keyLsState = 0 then startDiscovery s2 else s2

/-- R229, R567: the ledger entry of a fallback. -/
def fwFallback (s : State) (failed booted : Nat) : State := logEntry s 3 0x2002 0 0 (packData [(8, failed), (8, booted)])

/-- MGMT_RESTART_DONE (R228): the complex has been reloaded from the active slot and serves again. Where that slot holds nothing any
more, the other slot takes its place as at a boot (R229). DESIGN CHOICE (log entry 75). -/
def execMgmtRestartDone (s : State) : Result :=
  let slot := dictGet s keyFwSlotActive
  if s.mgmt ≠ .reloading then .next s
  else if (firmwareIn s slot).isSome then .next (loadComplex s slot)
  else if firmwareOk s (1 - slot) then .next (loadComplex (fwFallback s slot (1 - slot)) (1 - slot))
  else .next (dictSet { fwFallback s slot 0xFF with mgmt := .standby } keyFwSlotActive 0xFF)

/-- MANAGEMENT_BOOT (R229, R505, R527): the security domain unwraps its keys; the slot of FW_SLOT_SELECT boots if it passes, else the
other, else the standby subset stays. -/
def execManagementBoot (s0 : State) : Result :=
  let s := unwrapKeys s0
  if s0.power.mode = .on ∧ s0.mgmt = .standby ∧ dictGet s0 keyModuleState = 0 then
    let slot := dictGet s keyFwSlotSelect
    if firmwareOk s slot then .next (runFirmware s slot)
    else if firmwareOk s (1 - slot) then .next (runFirmware (fwFallback s slot (1 - slot)) (1 - slot))
    else .next (dictSet (fwFallback s slot 0xFF) keyFwSlotActive 0xFF)
  else .next s0

/-- R351: the tower's share of LANE_REPAIRS, and the slowest tower's time. -/
def trainResult (s : State) (repairs trainUs : Nat) : State :=
  let s1 := dictSet s keyLaneRepairs ((dictGet s keyLaneRepairs + repairs) % 65536)
  dictSet s1 keyTrainTime (max (dictGet s1 keyTrainTime) (trainUs % 2 ^ 32))

/-- R347, R348: a tower ends its training and zero fill, or fails it. -/
def execTowerBootDone (t : TowerId) (ok : Bool) (failedPins repairs : Nat) (trainUs : Nat) (s : State) : Result :=
  let x := getTower s.stacked t.val
  if x.state = .off ∨ x.state = .training ∨ x.state = .filling then
    if ok then
      let x' : Tower := { x with state := .ready, repairs := repairs }
      .next (trainResult { s with stacked := zeroFill (setTower s.stacked t.val x') t.val } repairs trainUs)
    else
      let x' : Tower := { x with state := .failed, failedPins := failedPins, repairs := repairs }
      let s1 := logEntry (trainResult { s with stacked := setTower s.stacked t.val x' } repairs trainUs) 3 0x3002 2 t.val (packData [(16, failedPins)])
      .next (if dictGet s keyLsState = 1 ∨ dictGet s keyLsState = 2 ∨ dictGet s keyLsState = 4 then detectFault s1 0xA else s1)
  else .next s

end Sys2Proof.Machine
end

