-- ==== Sys2Proof/Machine/SecurityOps.lean ====
section
/-! DEFINITION. Keys and key blobs (R526 to R530), the unseal sequence and sealing (R536 to R541), and the debug port
(R443, R486, R533 to R535, R539). -/

namespace Sys2Proof.Machine

/-! Keys. -/

/-- R526: the slot codes of the table "Key slots". -/
def slotCode (c : Nat) : Bool := (1 ≤ c && c ≤ 3) || (0x10 ≤ c && c ≤ 0x17)

/-- R526: the image slots. -/
def imageSlot (c : Nat) : Bool := 0x10 ≤ c && c ≤ 0x17

/-- R542: KEY_PRESENT. -/
def keyPresent (s : State) : Nat :=
  let has (c : Nat) : Nat := if (keyOfSlot s c).isSome then 1 else 0
  ([1, 2, 3].map fun c => has c <<< c).sum + ((List.range 8).map fun n => has (0x10 + n) <<< (8 + n)).sum

/-- What a key blob carries (R528). -/
structure KeyBlob where
  slot : Nat
  nonce : Nat
  key : List Byte
deriving DecidableEq, Repr

/-- R528, R529: a blob unwrapped under a session's K_WRAP: none where its slot, a reserved bit, its tag or its NONCE fails the
first two conditions. -/
def openBlob (s : State) (x : Session) (blob : List Byte) : Option KeyBlob :=
  let head := blob.take 4
  let nonce := (blob.drop 4).take 12
  let aad := head ++ natBytes 8 (dictGet s keySerial)
  if blob.length ≠ 64 ∨ ¬ slotCode (leNat (head.take 1)) ∨ leNat (head.drop 1) ≠ 0 then none
  else
    match gcmDecrypt x.kWrap nonce aad ((blob.drop 16).take 32) (blob.drop 48) with
    | none => none
    | some key => if x.lastNonce.all (· < leNat nonce) then some { slot := leNat (head.take 1), nonce := leNat nonce, key := key } else none

/-- R529, condition 3: whether an image slot may not be written now. -/
def imageSlotBarred (s : State) (slot : Nat) : Bool := imageSlot slot && (dictGet s keyDebugState ≠ 0 || configBusy s)

/-- The NONCE of the last blob that a session applied (R529). -/
def noteNonce (s : State) (sid : U32) (nonce : Nat) : State :=
  let mark (x : Session) : Session := if x.sid = sid then { x with lastNonce := some nonce } else x
  { s with sessions := { s.sessions with sessions := s.sessions.sessions.map mark } }

/-- R529: a slot of the key store and of the store takes a key. DEDUCED (log entry 70). -/
def putKey (s : State) (slot : Nat) (key : Option (List Byte)) : State :=
  { s with security := { s.security with keys := mapSet none s.security.keys slot key } }

/-- R529, R530: the sessions of a role close. -/
def closeRole (s : State) (role : Nat) : State := closeSessions s fun x => x.role = role

/-! Unsealing. -/

/-- R536: the conditions of an unseal. -/
def mayUnseal (s : State) : Bool :=
  dictGet s keyDebugState = 0 && s.straps.debug && dictGet s keyModuleState = 1
    && (List.range 8).all (fun t => (getTower s.stacked t).state = .ready)
    && s.caravans.all (fun e => !(e.2.state = .armed || e.2.state = .running || e.2.state = .faultWait))
    && !configBusy s && dictGet s keyLsState ≠ 4 && dictGet s keyLsState ≠ 5

/-- R537: an unseal accepted: its key waits in the holding register, and the sequence begins. Its response was the last frame of
every session. DEDUCED (log entry 69). -/
def beginUnseal (s : State) (key : List Byte) : State :=
  let s1 := logEntry (dictSet s keyDebugState 1) 2 0x7002 0 0 0
  closeAllSessions { s1 with security := { s1.security with holding := some key, step := 1, interrupted := false } }

/-- Step 1 of R537: the key store, the standby copy, the sessions. -/
def eraseKeys (s : State) : State :=
  let s1 := closeAllSessions s
  { s1 with security := { s1.security with keys := [], standbyKeys := [] } }

/-- Step 2 of R537: configuration cells, block RAM, engine memories, the trace buffer; every region BLANK. -/
def eraseFabric (s : State) : State :=
  let s1 := (List.range 64).foldl (fun s r =>
    let s2 := isolateRegion s r
    { s2 with fabric := { s2.fabric with regions := mapSet {} s2.fabric.regions r {} } }) s
  dictSet { s1 with fabric := { s1.fabric with cells := [], rams := [], engines := [], flops := [], segs := [], keepers := [], trace := {}, load := none } } keyFabricState 0

/-- Step 3 of R537: core memories, contexts on die, caches, the queue manager's pool, cached translations. -/
def eraseTiles (s : State) : State :=
  let core (_ : Nat) (k : Core) : Core := { sampling := k.sampling }
  let ring (x : Ring) : Ring := { x with pool := [], claims := [] }
  { s with cores := mapCores s.cores core, caravans := [], banks := []
           queues := { s.queues with rings := mapAll {} ring s.queues.rings, ttCache := [] }
           pcie := { s.pcie with atsCache := [] } }

/-- Step 4 of R537: all of stacked memory. -/
def eraseStacked (s : State) : State := { s with stacked := { (drainTowers s.stacked) with bytes := [], poison := [] } }

/-- The last rows of R537, and R539: the new OWNER key, or the report of an interruption; what waited runs (R538).
DEDUCED (log entry 69). -/
def endUnseal (s : State) : State :=
  let s1 := dictBump (dictSet s keyDebugState 2) keyUnsealCount 1
  let s2 := match s.security.holding with
    | some key => logEntry (putKey s1 3 (some key)) 2 0x7003 0 0 (packData [(32, dictGet s1 keyUnsealCount)])
    | none => logEntry s1 3 0x7004 0 0 0
  let s3 := { s2 with security := { s2.security with holding := none, step := 0, interrupted := false, deferred := none, asked := [] } }
  runWaiting s3 s.security

/-- R537: the step of the sequence that runs ends, and the next begins. DEDUCED (log entry 69). -/
def unsealStep (s : State) : State :=
  let next (s : State) : State := { s with security := { s.security with step := s.security.step + 1 } }
  match s.security.step with
  | 1 => next (eraseKeys s)
  | 2 => next (eraseFabric s)
  | 3 => next (eraseTiles s)
  | 4 => next (eraseStacked s)
  | 5 => endUnseal { s with security := { s.security with keys := [] } }
  | _ => s

/-- R541: the module sealed. DEDUCED (log entry 73). -/
def sealNow (s : State) : State :=
  logEntry { (dictSet s keyDebugState 0) with security := { s.security with extest := false } } 1 0x7005 0 0 0

/-! The debug port. -/

/-- R533: whether the TAP is enabled. -/
def tapEnabled (s : State) : Bool := dictGet s keyDebugState = 2 && s.straps.debug && s.power.mode = .on

/-- Bits shifted out on TDO. -/
def tdoOut (s : State) (width value : Nat) : State := { s with out := s.out ++ [.tdo width (value % 2 ^ width)] }

/-- R533: BYPASS: the one-bit register, 0 as the scan begins. PRESUMED (log entry 72). -/
def tapBypass (s : State) (tdi : Bool) : State :=
  tdoOut { s with security := { s.security with bypass := tdi, extest := false } } 1 (if s.security.bypass then 1 else 0)

/-- R533: an instruction of the enabled TAP, or BYPASS. An instruction other than EXTEST leaves the pins to the design; a Birsia
debug access breaks the cycle-match of a run (R535). PRESUMED (log entry 72). -/
def tapDo (s : State) (debug : Bool) (act : State → State) : State :=
  if tapEnabled s then
    let s1 := { s with security := { s.security with extest := false } }
    act (if debug ∧ dictGet s keyLsState = 5 then breachCm s1 6 else s1)
  else tapBypass { s with security := { s.security with bypass := false } } false

/-- The place in a full image that a frame's trailer names (R479, R481). -/
def rawPlace (frame : List Byte) : Option Nat :=
  let region := trailerField frame 16 7
  let f := trailerField frame 0 16
  if region = 0x7F then (if f < 5120 then some f else none)
  else if region < 64 ∧ f < 4608 then some (framePlace region f) else none

/-- R443: the legacy sites of a region that its committed logic frames connect. -/
def regionSites (s : State) (r : Nat) : List Nat :=
  s.fabric.cells.flatMap fun e =>
    if framePlace r 0 ≤ e.1 ∧ e.1 < framePlace r 3672 then sitesOf r (e.1 - framePlace r 0) e.2 else []

/-- R443: a contention on a line: it is disconnected, counted and logged. -/
def contend (s : State) (r line : Nat) : State :=
  let s1 := { s with fabric := { s.fabric with cut := mapSet false s.fabric.cut (64 * r + line) true } }
  let old := dictGet s1 keyContentionRegions
  let s2 := dictSet s1 keyContentionRegions (if old.testBit r then old else old + 2 ^ r)
  logEntry (dictBump s2 keyContentionEvents 1) 2 0x5004 4 r (packData [(8, line)])

/-- R443, R486: a raw frame committed without the assay; every line that it leaves with two or more connected sites is
disconnected, unless it already is. DEDUCED (log entry 73). -/
def rawFrame (s : State) (frame : List Byte) : State :=
  match rawPlace frame with
  | none => s
  | some place =>
    let data := frame.take 512
    let s1 := commitCells s place data
    match areaOf place with
    | (none, _) => s1
    | (some r, f) =>
      let sites := regionSites s1 r
      let clash (line : Nat) : Bool := 2 ≤ (sites.eraseDups.filter fun a => a / 8 = line).length && !mapGet false s1.fabric.cut (64 * r + line)
      let touched := ((sitesOf r f data).map (· / 8)).eraseDups
      (touched.filter clash).foldl (fun s line => contend s r line) s1

/-- R534, R535: 8 bytes of core memory or stacked memory read or written by the TAP, by module address; the access keeps no
hold. An address that names nothing gives a free value, and takes no write. -/
def debugAccess (s : State) (write : Bool) (addr data : Nat) : State :=
  let a := spaceAddr addr
  if spaceOf addr = 1 ∧ spaceOk addr ∧ cmCore addr < 96 ∧ ¬ coreOff s (cmCore addr) ∧ a % coreBytes + 8 ≤ coreBytes then
    let c : CoreId := Fin.ofNat 96 (cmCore addr)
    let k := getCore s c
    let at_ := a % coreBytes
    if write then
      let w := writeRows k.mem [(at_, natBytes 8 data)] false
      tdoOut (setCore s c { k with mem := w.1 }) 64 0
    else tdoOut s 64 (leNat (coreRead k.mem at_ 8))
  else if spaceOf addr = 0 ∧ spaceOk addr then
    match translate s a with
    | (.hit pa leaf, cache) =>
      let s1 := { s with queues := { s.queues with ttCache := cache } }
      if write then tdoOut (if leaf.writable then { s1 with stacked := stackWrite s1.stacked pa (natBytes 8 data) false } else s1) 64 0
      else tdoOut s1 64 (leNat (stackRead s1.stacked pa 8))
    | _ => tdoOut (useFree s 1) 64 (freshNat s)
  else
    let off := spaceOf addr = 1 ∧ spaceOk addr ∧ coreOff s (cmCore addr)
    let s1 := if off then logTargetOff s (cmCore addr) 2 else s
    tdoOut (useFree s1 1) 64 (freshNat s)

/-- R29, R534: BD_CORE on a thread of a core; of one that is not powered nothing is reached. A step is one instruction that issues while the others of the thread do not: the
thread halts again when it has retired. DEDUCED (log entry 73). -/
def debugThread (s : State) (c : CoreId) (t : ThreadId) (op : DebugOp) : State :=
  if coreOff s c.val then tdoOut (useFree (logTargetOff s c.val 2) 1) 64 (freshNat s)
  else
    let x := getThread s c t
    match op with
    | .halt => modThread s c t fun x => { x with debugHalted := true, debugStep := false }
    | .resume => modThread s c t fun x => { x with debugHalted := false, debugStep := false }
    | .step => modThread s c t fun x => { x with debugHalted := false, debugStep := true }
    | .readReg r => tdoOut s 64 (regGet x r.val).toNat
    | .writeReg r v => setThread s c t (regSet x r.val v)
    | .readPc => tdoOut s 64 x.pc.toNat
    | .writePc v => modThread s c t fun x => { x with pc := v }

/-- R534, R539: BD_STATUS. -/
def debugStatus (s : State) : Nat := dictGet s keyDebugState % 4 + (if s.straps.debug then 4 else 0) + 8 * (s.security.ownerResult % 4)

/-- R539: BD_OWNER_KEY: the key goes into an empty OWNER slot where its check bits match. -/
def restoreOwner (s : State) (key : List Byte) (check : Nat) : State :=
  let result (s : State) (n : Nat) : State := { s with security := { s.security with ownerResult := n } }
  if dictGet s keyDebugState = 2 ∧ (keyOfSlot s 3).isNone ∧ leNat ((sha256 key).take 4) = check then
    logEntry (result (putKey s 3 (some key)) 1) 2 0x7006 0 0 0
  else result s 2

end Sys2Proof.Machine
end

