-- ==== Sys2Proof/Machine/SecurityCmds.lean ====
section
/-! DEFINITION. The commands of security that are no frames: the unseal sequence's steps (R537, R539), the debug strap (R533), and
the TAP's instructions (R443, R534, R535, R539). -/

namespace Sys2Proof.Machine

/-- UNSEAL_STEP_DONE (R537, R539): the step that runs ends. A sequence that runs again after a power-on waits for the towers' boot. -/
def execUnsealStepDone (s : State) : Result :=
  if s.power.mode = .on ∧ (s.security.interrupted → (List.range 8).all (towerBooted s)) then .next (unsealStep s) else .next s

/-- DBG_STRAP_CHANGE (R533, R572): the strap is asserted or not; without it the TAP is disabled. -/
def execDbgStrapChange (asserted : Bool) (s : State) : Result :=
  .next { s with straps := { s.straps with debug := asserted }, security := { s.security with extest := s.security.extest && asserted } }

/-- BYPASS (R534). -/
def execBypass (tdi : Bool) (s : State) : Result := .next (tapBypass s tdi)

/-- IDCODE (R534), also of a sealed module. -/
def execIdcode (s : State) : Result := .next (tdoOut { s with security := { s.security with extest := false } } 32 0x0B96035F)

/-- SAMPLE/PRELOAD (R534): the pins captured. -/
def execSamplePreload (pins : BitVec 352) (s : State) : Result :=
  .next (tapDo s false fun s => tdoOut { s with security := { s.security with boundary := pins, captured := pins } } 352 pins.toNat)

/-- EXTEST (R534): the boundary cells drive the pins and capture them; the design's inputs read what they captured. -/
def execExtest (drive pins : BitVec 352) (s : State) : Result :=
  .next (tapDo s false fun s => tdoOut { s with security := { s.security with boundary := drive, captured := pins, extest := true } } 352 pins.toNat)

/-- BD_FRAME (R443, R486, R534). -/
def execBdFrame (frame : List Byte) (s : State) : Result := .next (tapDo s true fun s => rawFrame s frame)

/-- BD_MEM (R534, R535). -/
def execBdMem (isWrite : Bool) (addr data : U64) (s : State) : Result :=
  .next (tapDo s true fun s => debugAccess s isWrite addr.toNat data.toNat)

/-- BD_CORE (R534, R535). -/
def execBdCore (c : CoreId) (t : ThreadId) (op : DebugOp) (s : State) : Result := .next (tapDo s true fun s => debugThread s c t op)

/-- BD_STATUS (R534). -/
def execBdStatus (s : State) : Result := .next (tapDo s true fun s => tdoOut s 5 (debugStatus s))

/-- BD_OWNER_KEY (R539): 256 bits of the key, then 32 check bits, each least significant bit first. -/
def execBdOwnerKey (key : BitVec 256) (check : U32) (s : State) : Result :=
  .next (tapDo s true fun s => restoreOwner s (natBytes 32 key.toNat) check.toNat)

end Sys2Proof.Machine
end

