-- ==== Sys2Proof/Machine/LedgerCmds.lean ====
section
/-! DEFINITION. The commands of counters and the ledger that are no frames: scheduled selects and clears (R546, R549, R553),
recording (R561, R562), the critical ring (R565), and the freeze's limit (R564). -/

namespace Sys2Proof.Machine

/-- CNT_SELECT_APPLY (R546, R549): the oldest select or window whose tick has come takes effect. -/
def execCntSelectApply (s : State) : Result :=
  match takeFirst (fun q : PendingSelect => q.tick ≤ tickOf s) s.counters.pending with
  | some (q, rest) => .next (applySelect { s with counters := { s.counters with pending := rest } } q)
  | none => .next s

/-- CNT_CLEAR_APPLY (R553): every counter of every powered block cleared. -/
def execCntClearApply (s : State) : Result :=
  match s.counters.clearAt with
  | some k =>
    if k ≤ tickOf s then
      let s1 := clearCounters s
      .next { s1 with counters := { s1.counters with clearAt := none } }
    else .next s
  | none => .next s

/-- LEDGER_RECORD (R561, R562): the head of the input queue is recorded. -/
def execLedgerRecord (s : State) : Result := .next (recordHead s)

/-- CRITICAL_COPY (R565): the complex copies the oldest CRITICAL entry not yet copied. -/
def execCriticalCopy (s : State) : Result :=
  match s.mgmt, s.ledger.uncopied with
  | .serving, e :: _ => .next (copyCritical s e)
  | _, _ => .next s

/-- LEDGER_FREEZE_LIMIT (R564): the limit has passed. -/
def execLedgerFreezeLimit (s : State) : Result := .next (endFreeze s 2)

end Sys2Proof.Machine
end

