-- ==== Sys2Proof/Machine/DictRead.lean ====
section
/-! DEFINITION. The dictionary's entries as a request finds them: which entry an index and subindex name (R40, R41, R51, R544,
R558), and what each entry reads as (R28, R42, R79, R516, R550, R563). -/

namespace Sys2Proof.Machine

/-! Status codes (R78). -/

abbrev stOk : Nat := 0x00
abbrev stNoIndex : Nat := 0x01
abbrev stNoSub : Nat := 0x02
abbrev stDenied : Nat := 0x03
abbrev stReadOnly : Nat := 0x04
abbrev stWriteOnly : Nat := 0x05
abbrev stWrongState : Nat := 0x06
abbrev stType : Nat := 0x07
abbrev stRange : Nat := 0x08
abbrev stReserved : Nat := 0x09
abbrev stStandby : Nat := 0x0A
abbrev stBusy : Nat := 0x0B
abbrev stOrder : Nat := 0x0C
abbrev stAuthFailed : Nat := 0x0D
abbrev stLockout : Nat := 0x0E
abbrev stRoleDisabled : Nat := 0x0F
abbrev stSessionLimit : Nat := 0x10
abbrev stNoSession : Nat := 0x11
abbrev stBadEntry : Nat := 0x12
abbrev stBufferFault : Nat := 0x13
abbrev stStoreFault : Nat := 0x14

/-- A CONST entry that every role reads (R40, R41). -/
def constEntry (index sub : Nat) (t : EntryType) (v : Nat) : Entry := ent index 1 sub 1 t .const .const .const .stored v 0 0

/-- R40, R41, R51: the entry that an index and subindex name, or the status of a request for it. -/
def lookupEntry (index sub : Nat) : Nat ⊕ Entry :=
  if 0xA000 ≤ index ∧ index < 0xF000 then .inl stReserved
  else if 1 ≤ index ∧ index ≤ 13 then
    if sub = 0 then .inr (constEntry index 0 .u8 2)
    else if sub = 1 then .inr (constEntry index 1 .u32 0)
    else if sub = 2 then .inr (constEntry index 2 .string 0)
    else .inl stNoSub
  else if 0x8400 ≤ index ∧ index < 0x84A0 ∧ index % 16 = 15 then .inl stNoIndex
  else
    match indexTop index with
    | none => .inl stNoIndex
    | some top =>
      if sub = 0 then .inr (constEntry index 0 .u8 top)
      else
        match entryFind index sub with
        | some e => .inr e
        | none => .inl stNoSub

/-- R50, R52: whether the standby responder answers for an index. -/
def inStandby (index : Nat) : Bool :=
  index < 0x300 || (0x1000 ≤ index && index < 0x1100) || (0x2000 ≤ index && index < 0x3000) || (0x8800 ≤ index && index < 0x8900)

/-- R52, R229: whether the standby responder serves in place of the dictionary server. DEDUCED (log entry 75). -/
def standbyServes (s : State) : Bool := s.power.mode = .s3 || s.power.mode = .s4 || s.mgmt = .standby

/-- R43, R44, R51: the access code of a role. -/
def accessOf (e : Entry) (role : Nat) : Access :=
  match role with
  | 1 => if 0xF000 ≤ e.index then .none else e.operator
  | 2 => e.service
  | _ => e.owner

/-! Values. -/

/-- The bytes of a string of ASCII characters. -/
def asciiBytes (t : String) : List Byte := t.toList.map fun c => BitVec.ofNat 8 c.toNat

/-- R351: TOWER_STATE. -/
def towerStateCode : TowerCode → Nat
  | .off => 0 | .training => 1 | .filling => 2 | .ready => 3 | .selfRefresh => 4 | .failed => 5

/-- R456: TRACE_STATE. -/
def traceStateCode : TraceCode → Nat
  | .idle => 0 | .armed => 1 | .triggered => 2 | .done => 3

/-- R509, R525: DOMAIN_ON. DEDUCED (log entry 68). -/
def domainOn (s : State) : Nat := if s.power.mode = .on then (~~~s.power.off).toNat else 0

/-- R351: REFRESH_RATE_HIGH. DEDUCED (log entry 49). -/
def refreshHigh (s : State) : Nat := ((List.range 8).map fun t => if (getTower s.stacked t).high then 2 ^ t else 0).sum

/-- The sampling state of core `n` (R558). -/
def samplingNow (s : State) (n : Nat) : Sampling := samplingOf s.sampleInit n (mapGet {} s.cores n)

/-- R516: the value of an entry of fixed size whose subindex is not 0, as it reads for a role. DEDUCED (log entry 68). -/
def entryNat (s : State) (role key : Nat) : Nat :=
  let index := key / 256
  let sub := key % 256
  if 1 ≤ index ∧ index ≤ 13 then
    typeSize (([.bool, .u8, .u16, .u32, .u64, .i8, .i16, .i32, .i64, .f32, .time64, .string, .domain] : List EntryType).getD (index - 1) .domain)
  else if key = keyDuMapId then s.fuses.duMap.toNat
  else if keyDuRow0 ≤ key ∧ key < keyDuRow0 + 8 then disabledColumn s.fuses (key - keyDuRow0)
  else if key = keySessionsOpen then s.sessions.handshakes.length + s.sessions.sessions.length
  else if key = keyMyRole then role
  else if keyTowerState0 ≤ key ∧ key < keyTowerState0 + 8 then towerStateCode (getTower s.stacked (key - keyTowerState0)).state
  else if keyTowerTemp0 ≤ key ∧ key < keyTowerTemp0 + 8 then (getTower s.stacked (key - keyTowerTemp0)).temp.toNat
  else if key = keyRefreshRateHigh then refreshHigh s
  else if 0x4100 ≤ index ∧ index < 0x4108 ∧ sub = 1 then
    let p := getPort s.links (index - 0x4100)
    portStateCode p.state + (if p.latExceeded then 0x80 else 0)
  else if key = keyGtcNow then s.gtc.toNat
  else if key = keyLsResidual then (if s.lockstep.aligned then f32Milli (150 * dictGet s keyLsHops) else 0)
  else if key = keyGclkTickLocked then gclkTickLocked s
  else if key = keyTraceState then traceStateCode s.fabric.trace.code
  else if keyRegionState0 ≤ key ∧ key < keyRegionState0 + 64 then regionCode (getRegion s (key - keyRegionState0)).code
  else if key = keyPowerState then powerState s
  else if key = keyDomainOn then domainOn s
  else if key = keyTileMhz then f32Milli (68750 * (16 - dictGet s keyClkStep))
  else if key = keyNetMhz then f32Milli (93750 * (16 - dictGet s keyClkStep))
  else if key = keyDbgStrap then (if s.straps.debug then 1 else 0)
  else if key = keyKeyPresent then keyPresent s
  else if 0x8710 ≤ index ∧ index < 0x8770 ∧ sub = 1 then (samplingNow s (index - 0x8710)).records.length
  else if 0x8710 ≤ index ∧ index < 0x8770 ∧ sub = 2 then (samplingNow s (index - 0x8710)).lost
  else if key = keyLedgerCount then s.ledger.held.length
  else if key = keyLedgerNextSeq then s.ledger.nextSeq % 2 ^ 64
  else if key = keyLedgerFreeze then (if s.ledger.freeze.isSome then 1 else 0)
  else if key = keyCalendarNow then (calendar s).toNat
  else if key = keyEpochOffset then s.epoch.toNat
  else if key = keyCalendarValid then (if s.calendarValid then 1 else 0)
  else if key = keyCritRingTotal then s.ledger.critTotal
  else dictGet s key

/-- R79: the value of a STRING entry. -/
def entryString (key : Nat) : List Byte :=
  if key = keyVendor then asciiBytes "Birsia"
  else if key = keyOrderCode then asciiBytes "TG9600-A288-LC"
  else if key = keyModuleRev then asciiBytes "B"
  else if key = keyDieStepping then asciiBytes "B0"
  else asciiBytes (typeName (key / 256))

/-- The counter set of a counters DOMAIN (R550, R568). -/
def domainSet (key : Nat) : Option CounterSet :=
  if key = keyCoreCounters then some .core
  else if key = keyCtlCounters then some .controller
  else if key = keyLinkCounters then some .link
  else if key = keyWsCounters then some .waystation
  else none

/-- R550: the records of a set. -/
def setRecords (set : CounterSet) : Nat := (setBlocks set).length * counterCount set

/-- The content of a DOMAIN entry that can be read (R455, R542, R550, R558, R563, R565). -/
def entryDomain (s : State) (key : Nat) : List Byte :=
  match domainSet key with
  | some set => counterDomain s set
  | none =>
    if key = keyImageHash then s.lockstep.imageHash
    else if key = keyTraceData then (if s.fabric.trace.code = .done then traceBytes s.fabric.trace else [])
    else if key = keyFwPublicKey then s.fuses.fwKey
    else if key = keyLedgerData then (s.ledger.held.filter fun e => dictGet s keyLedgerReadFrom ≤ e.seq).flatMap entryBytes
    else if key = keyCritRing then s.ledger.critRing.flatMap entryBytes
    else if 0x871003 ≤ key ∧ key % 256 = 3 then (samplingNow s (key / 256 - 0x8710)).records.flatten
    else []

/-- R56: the length of a DOMAIN. -/
def domainLength (s : State) (key : Nat) : Nat :=
  match domainSet key with
  | some set => 16 * setRecords set
  | none => (entryDomain s key).length

/-- R42, R56: the VALUE of a READ response. -/
def readBytes (s : State) (role index sub : Nat) (e : Entry) : List Byte :=
  match e.type with
  | .string => entryString (keyOf index sub)
  | .domain => natBytes 4 (domainLength s (keyOf index sub))
  | t => natBytes (typeSize t) (if sub = 0 then e.dflt else entryNat s role (keyOf index sub))

/-- R590, checks 1 to 3: the entry a request may reach, or its status. -/
def reachEntry (s : State) (role index sub : Nat) (write : Bool) : Nat ⊕ Entry :=
  match lookupEntry index sub with
  | .inl st => .inl st
  | .inr e =>
    if standbyServes s ∧ ¬ inStandby index then .inl stStandby
    else
      match accessOf e role, write with
      | .none, _ => .inl stDenied
      | .wo, false => .inl stWriteOnly
      | .ro, true => .inl stReadOnly
      | .const, true => .inl stReadOnly
      | _, _ => .inr e

/-- R73: a READ request: its status and the body of its response. -/
def readEntry (s : State) (role index sub : Nat) : Nat × List Byte :=
  match reachEntry s role index sub false with
  | .inl st => (st, [])
  | .inr e =>
    if keyOf index sub = keyTraceData ∧ s.fabric.trace.code ≠ .done then (stWrongState, [])
    else (stOk, natBytes 2 index ++ natBytes 1 sub ++ natBytes 1 (typeCode e.type) ++ readBytes s role index sub e)

/-- R76: a SEG_READ request of at most `limit` bytes: its status and the body of its response. DEDUCED (log entry 74). -/
def segRead (s : State) (role index sub offset length limit : Nat) : Nat × List Byte :=
  match reachEntry s role index sub false with
  | .inl st => (st, [])
  | .inr e =>
    let key := keyOf index sub
    if e.type ≠ .domain then (stType, [])
    else if (domainSet key).isSome ∧ (offset % 16 ≠ 0 ∨ length % 16 ≠ 0) then (stRange, [])
    else if key = keyTraceData ∧ s.fabric.trace.code ≠ .done then (stWrongState, [])
    else
      let data := entryDomain s key
      (stOk, natBytes 2 index ++ natBytes 1 sub ++ natBytes 1 0 ++ natBytes 4 offset ++ natBytes 4 data.length
        ++ (data.drop offset).take (min length limit))

end Sys2Proof.Machine
end

