-- ==== Sys2Proof/Machine/DictWrite.lean ====
section
/-! DEFINITION. Writes of dictionary entries: the values each entry takes (R42), the states in which a write is refused (R44, R506
to R510 and each entry's own rule), and what a write does (R46, R588 and each entry's own rule). -/

namespace Sys2Proof.Machine

/-! Values. -/

/-- R269: STREAM_SPLIT: three shares from 1 to 14 that add to 16. -/
def splitOk (v : Nat) : Bool :=
  let a := bits v 0 4
  let b := bits v 4 4
  let c := bits v 8 4
  v / 2 ^ 12 = 0 && 1 ≤ a && a ≤ 14 && 1 ≤ b && b ≤ 14 && 1 ≤ c && c ≤ 14 && a + b + c = 16

/-- R478: the targets of SLOT_WRITE. -/
def slotTarget (v : Nat) : Bool := v ≤ 3 || v = 0x10 || v = 0x11 || (0x80 ≤ v && v ≤ 0xFF)

/-- The address windows of a counter set (R549). -/
def isWindow (set : CounterSet) (sub : Nat) : Bool := (set = .core || set = .controller) && counterCount set < sub

/-- R42, R590 check 5: the conditions on a value that its row's range does not give. DEDUCED (log entry 64). -/
def valueRule (s : State) (key v : Nat) : Bool :=
  let index := key / 256
  let sub := key % 256
  if key = keyPlcaEnable then v = 0 || dictGet s keyPlcaNodeId ≠ 255
  else if key = keyPlcaNodeId then v ≠ 255 || dictGet s keyPlcaEnable = 0
  else if key = keyCcImageBase then v % 0x4000000 = 0
  else if key = keyCcEntry then v % 2 = 0 && v ≤ 0x3FFFFFE
  else if key = keyThreadQuantum then v = 0 || 16 ≤ v
  else if key = keyStreamSplit then splitOk v
  else if key = keyTtPhysBase then v % 4096 = 0
  else if key = keyTtEntries then v % 512 = 0
  else if key = keyScrubEveryMin then v ≤ dictGet s keyScrubEveryMax
  else if key = keyScrubEveryMax then dictGet s keyScrubEveryMin ≤ v
  else if key = keyStepMin then v ≤ dictGet s keyStepMax
  else if key = keyStepMax then dictGet s keyStepMin ≤ v
  else if key = keyEqMarginMin then 0x3D4CCCCD ≤ v && v ≤ 0x3F000000
  else if key = keyLsStartTimeout then v = 0 || 1000 ≤ v
  else if key = keyPowerReq then v ≤ 1 || v = 3 || v = 4
  else if key = keyDomainOff then v ≤ 0x7FFFF
  else if key = keyModuleCmd then v = 1 || v = 2
  else if key = keyCfgBootSlot ∨ key = keyCfgFallbackSlot then v ≤ 3 || v = 0xFF
  else if key = keySlotWrite then slotTarget v
  else if key = keySlotWriteSrc then v % 4096 = 0 && v < 2 ^ 39
  else if key = keyPlAddr then v % 4096 = 0
  else if key = keyKeyClear then slotCode v && v ≠ 3
  else if key = keyFwMinBuild then dictGet s keyFwMinBuild ≤ v
  else
    match selectSet index with
    | some (set, block) => isWindow set sub || selectOk set block v
    | none => true

/-- R42: whether a value of the right length is one the entry takes. -/
def valueOk (s : State) (e : Entry) (key v : Nat) : Bool :=
  (e.type = .f32 || (e.lo ≤ v && v ≤ e.hi)) && valueRule s key v

/-! States. -/

/-- R506: whether a program may start by MODULE_CMD. -/
def mayRunProgram (s : State) : Bool :=
  !s.lockstep.mode && dictGet s keyModuleState = 1 && (List.range 8).all fun t => (getTower s.stacked t).state ≠ .failed

/-- R510: whether the module may enter S3 or S4. -/
def mayEnterLow (s : State) : Bool :=
  dictGet s keyModuleState = 1
    && s.caravans.all (fun e => !(e.2.state = .armed || e.2.state = .running || e.2.state = .faultWait))
    && !configBusy s && (s.pcie.d3hot || !s.pcie.linkUp) && dictGet s keyLsState ≠ 4 && dictGet s keyLsState ≠ 5

/-- R508, R510, R511, R521: whether POWER_REQ takes a value now. -/
def powerReqOk (s : State) (v : Nat) : Bool :=
  if v = 0 then !((s.power.mode = .s3 || s.power.mode = .s4) && s.power.tripped)
  else if v = 1 then !(dictGet s keyLsState = 4 || dictGet s keyLsState = 5)
  else mayEnterLow s

/-- R490: whether PL_START is accepted. -/
def mayPlStart (s : State) : Bool :=
  !configBusy s && dictGet s keyFabricState ≠ 1 && !(dictGet s keyLsState = 5 && dictGet s keyPlSource ≠ 0)

/-- R532: whether a firmware slot would pass with another FW_MIN_BUILD. -/
def passesWith (s : State) (min slot : Nat) : Bool := (mapGet none s.fabric.store.firmware (0x10 + slot)).any (firmwareCheck s.fuses min)

/-- R564: LEDGER_FREEZE by a session: whether the freeze is another's. -/
def freezeOk (s : State) (sid : U32) : Bool := s.ledger.freeze.isNone || s.ledger.freeze = some sid

/-- R417: whether the anchor may launch. -/
def mayLaunch (s : State) : Bool :=
  isAnchor s && dictGet s keyLsState = 4 && s.lockstep.launch.isNone && readyTotal s = dictGet s keySysModules
    && (List.range 8).all fun t => (getTower s.stacked t).state ≠ .failed

/-- R590, check 6: whether the module's state lets a write happen. A write of 0 to a BOOL that starts an action starts none
(R588). DEDUCED (log entries 56, 64, 77). -/
def stateRule (s : State) (sid : U32) (e : Entry) (key v : Nat) : Bool :=
  let index := key / 256
  if 0x5220 ≤ index ∧ index ≤ 0x5230 then
    (key = keyTraceArm && v = 0) || !(s.fabric.trace.code = .armed || s.fabric.trace.code = .triggered)
  else if e.owner = .wo ∧ e.type = .bool ∧ v = 0 then true
  else if key = keyFbEnable then v = 1 || dictGet s keyMailboxEnable = 1
  else if key = keyMailboxEnable then v = 1 || dictGet s keyFbEnable = 1
  else if key = keyModuleCmd then (if v = 1 then mayRunProgram s else dictGet s keyModuleState ≠ 0)
  else if key = keyPowerReq then powerReqOk s v
  else if key = keyDomainOff then v = dictGet s keyDomainOff || !(dictGet s keyLsState = 4 || dictGet s keyLsState = 5)
  else if key = keyCfgFullLoad then !configBusy s && dictGet s keyLsState ≠ 5
  else if key = keySlotWrite then s.fabric.store.job.isNone
  else if key = keyPlStart then mayPlStart s
  else if key = keyRegionReset then (getRegion s v).code = .running && !configBusy s
  else if key = keyLsRestart then isAnchor s
  else if key = keyLsReady then dictGet s keyLsState ≠ 6
  else if key = keyLaunch then mayLaunch s
  else if key = keyLsStop then isAnchor s && dictGet s keyLsState = 5
  else if key = keyKeyClear then !imageSlotBarred s v
  else if key = keyFwMinBuild then passesWith s v 0 || passesWith s v 1
  else if key = keyLedgerFreeze then freezeOk s sid
  else if key = keyLedgerClear then s.ledger.freeze.isNone
  else true

/-- R44, R590 check 6. -/
def stateOk (s : State) (sid : U32) (role : Nat) (e : Entry) (key v : Nat) : Bool :=
  (accessOf e role ≠ .rws || dictGet s keyModuleState = 1) && stateRule s sid e key v

/-! Effects. -/

/-- R426: MODULE_CMD STOP. DEDUCED (log entry 77). -/
def stopModule (s : State) : State := if dictGet s keyLsState = 5 then stopRun s else stopProgram s

/-- R506, R226: MODULE_CMD START. -/
def startModule (s : State) : State := dictSet (programStart s) keyModuleState 2

/-- R376: PORT_ENABLE of a port. -/
def enablePort (s : State) (p v : Nat) : State :=
  let s1 := dictSet s (portKey p 0xC) v
  if v = 0 then portFall s1 p .disabled
  else if (getPort s1.links p).state = .disabled then modPort s1 p fun x => { x with state := .down } else s1

/-- R385: PORT_RESET of a port: it falls, and trains again. -/
def resetPort (s : State) (p : Nat) : State :=
  modPort (clearPort s p) p fun x => { x with state := if x.state = .disabled then .disabled else .down, trainStep := 0, latExceeded := false }

/-- R546, R549: a select word or a window written: it takes effect at tick k + 4. -/
def scheduleSelect (s : State) (index sub v : Nat) : State :=
  let q : PendingSelect := { index := index, sub := sub, value := v, tick := tickOf s + 4 }
  dictSet { s with counters := { s.counters with pending := s.counters.pending ++ [q] } } (keyOf index sub) v

/-- R564: LEDGER_FREEZE written by a session. -/
def writeFreeze (s : State) (sid : U32) (v : Nat) : State :=
  match s.ledger.freeze with
  | none => if v = 1 then startFreeze s sid else s
  | some _ => if v = 0 then endFreeze s 0 else s

/-- R416: LS_READY: the check of the image begins in ARMED. DEDUCED (log entry 76). -/
def beginReady (s : State) : State := dictSet s keyReadyStatus (if dictGet s keyLsState = 4 then 1 else 6)

/-- R561: CALENDAR_SET (R560). -/
def setCalendar (s : State) (v : Nat) : State := { s with epoch := BitVec.ofNat 64 v - s.gtc, calendarValid := true }

/-- R384, R414: LS_RESTART on the anchor. -/
def floodRestart (s : State) : State := takeRestart (flood s 0xC 1 0)

/-- R255: TOLL_BURST takes a value: each core keeps the tolls it holds, up to the new depth of its bucket. -/
def setTollBurst (s : State) (v : Nat) : State :=
  let old := dictGet s keyTollBurst
  let core (k : Core) : Core := { k with stream := { k.stream with spent := v - min (old - k.stream.spent) v } }
  dictSet { s with cores := (List.range 96).foldl (fun m c => mapMod {} m c core) s.cores } keyTollBurst v

/-- R590: the effect of an accepted write of a value. -/
def applyWrite (s : State) (sid : U32) (e : Entry) (key v : Nat) : State :=
  let index := key / 256
  let sub := key % 256
  if key = keyTraceArm then (if v = 1 then armTrace s else stopTrace s)
  else if e.owner = .wo ∧ e.type = .bool ∧ v = 0 then s
  else if key = keyFbEnable ∨ key = keyMailboxEnable then
    (if v = 0 then closeTransport (dictSet s key 0) (decide (key = keyMailboxEnable)) else dictSet s key 1)
  else if key = keyModuleCmd then (if v = 1 then startModule s else stopModule s)
  else if mustWait key then waitOrRun s (key, v)
  else if key = keyPowerCycle then railsOff s 2
  else if key = keyDomainOff then setDomains s (BitVec.ofNat 24 v)
  else if 0x4100 ≤ index ∧ index < 0x4108 ∧ sub = 0xC then enablePort s (index - 0x4100) v
  else if 0x4100 ≤ index ∧ index < 0x4108 ∧ sub = 0xD then resetPort s (index - 0x4100)
  else if key = keyLsRestart then floodRestart s
  else if key = keyLsReady then beginReady s
  else if key = keyLaunch then anchorLaunch s
  else if key = keyLsStop then anchorAgree s 6 0 false
  else if key = keySlotWrite then startSlotWrite s v
  else if key = keyCfgFullLoad then startFullLoad s v
  else if key = keyPlStart then plStart s
  else if key = keyRegionReset then startRegionReset s v
  else if key = keyKeyClear then closeRole (putKey s v none) v
  else if key = keySeal then sealNow s
  else if key = keyCntClear then { s with counters := { s.counters with clearAt := some (tickOf s + 4) } }
  else if key = keySampleClear then clearSamples s
  else if key = keyLedgerFreeze then writeFreeze s sid v
  else if key = keyLedgerClear then clearLedger s sid
  else if key = keyCalendarSet then setCalendar s v
  else if key = keyTollBurst then setTollBurst s v
  else
    match selectSet index with
    | some _ => scheduleSelect s index sub v
    | none => dictSet s key v

/-- R590: a WRITE request: its status, and its effect. The bytes of a value that a STRING entry would take are no matter: no STRING
entry can be written. `fails` says that the store fails a commit (R48): the entry, or the key slot of KEY_CLEAR, then keeps what it
holds (R78). -/
def writeEntry (s : State) (sid : U32) (role index sub type : Nat) (bytes : List Byte) (fails : Bool) : Nat × (State → State) :=
  match reachEntry s role index sub true with
  | .inl st => (st, id)
  | .inr e =>
    let key := keyOf index sub
    let v := leNat bytes
    if e.type = .domain ∨ type ≠ typeCode e.type ∨ bytes.length ≠ typeSize e.type then (stType, id)
    else if ¬ valueOk s e key v then (stRange, id)
    else if ¬ stateOk s sid role e key v then (stWrongState, id)
    else if (e.persist = .stored ∨ key = keyKeyClear) ∧ fails then (stStoreFault, id)
    else (stOk, fun t => applyWrite t sid e key v)

/-- R529, R536: a whole DOMAIN written to KEY_LOAD or UNSEAL: its status, and its effect. A key whose commit fails is in no slot.
DEDUCED (log entry 70). -/
def applyDomain (s : State) (x : Session) (key : Nat) (blob : List Byte) (fails : Bool) : Nat × (State → State) :=
  match openBlob s x blob with
  | none => (stRange, id)
  | some b =>
    if key = keyUnseal then
      if b.slot ≠ 3 then (stRange, id)
      else if ¬ mayUnseal s then (stWrongState, id)
      else (stOk, fun t => beginUnseal t b.key)
    else if imageSlotBarred s b.slot then (stWrongState, id)
    else if fails then (stStoreFault, id)
    else (stOk, fun t => closeRole (putKey (noteNonce t x.sid b.nonce) b.slot (some b.key)) b.slot)

/-- R75, R590: a SEG_WRITE request: its status, the open transfer it leaves, and its effect. A whole DOMAIN's value and the module's
state are checked before the order of the segments and the other sessions' transfers; a segment that leaves the DOMAIN incomplete
brings no value to check. A first segment during an open transfer of the same session breaks the order. DEDUCED (log entry 74).
DESIGN CHOICE (log entry 88). -/
def segWrite (s : State) (x : Session) (index sub flags offset total : Nat) (data : List Byte) (limit : Nat) (fails : Bool) :
    Nat × Option DomainWrite × (State → State) :=
  match reachEntry s x.role index sub true with
  | .inl st => (st, x.writing, id)
  | .inr e =>
    let key := keyOf index sub
    let first := flags.testBit 0
    let last := flags.testBit 1
    let others := s.sessions.sessions.any fun y => y.sid ≠ x.sid && y.writing.any fun w => w.key = key
    let got : List Byte := match x.writing with
      | some w => if first then [] else w.received
      | none => []
    let continues : Bool := match x.writing with
      | some w => w.key = key && w.total = total && offset = w.received.length
      | none => false
    let ordered := data.length ≤ limit && (if first then x.writing.isNone && decide (offset = 0) else continues)
      && got.length + data.length ≤ total && (!last || got.length + data.length = total)
    let whole := applyDomain s x key (got ++ data) fails
    if e.type ≠ .domain then (stType, x.writing, id)
    else if ordered ∧ last ∧ whole.1 ≠ stOk then (whole.1, none, id)
    else if key = keyUnseal ∧ ¬ mayUnseal s then (stWrongState, x.writing, id)
    else if ¬ ordered then (stOrder, none, id)
    else if first ∧ others then (stBusy, x.writing, id)
    else if last then (stOk, none, whole.2)
    else (stOk, some { key := key, total := total, received := got ++ data }, id)

end Sys2Proof.Machine
end

