-- ==== Sys2Proof/Machine/ServerOps.lean ====
section
/-! DEFINITION. The dictionary server and the standby responder: frames (R53 to R59), the handshake (R63 to R65, R70 to R72),
session frames (R66 to R69), requests (R73 to R76), and the mailbox (R60 to R62). -/

namespace Sys2Proof.Machine

/-! Frames. -/

/-- R53: the 24 bytes of a header. -/
def headerBytes (opcode : Nat) (sid seq len status : Nat) : List Byte :=
  natBytes 2 0xB15A ++ natBytes 1 1 ++ natBytes 1 opcode ++ natBytes 4 sid ++ natBytes 8 seq ++ natBytes 2 len ++ natBytes 2 status ++ natBytes 4 0

/-- R53, R66: the header and body of a request as sent. -/
def requestBytes (op : Nat) (f : Frame) : List Byte :=
  natBytes 2 f.magic.toNat ++ [f.version] ++ natBytes 1 op ++ natBytes 4 f.sessionId.toNat ++ natBytes 8 f.seq.toNat
    ++ natBytes 2 f.bodyLen.toNat ++ natBytes 2 f.status.toNat ++ natBytes 4 f.rsv.toNat ++ f.body

/-- R56: the least length of a request's body, and whether it is the exact length. -/
def bodyLength (op : Nat) : Nat × Bool :=
  match op with
  | 0x02 => (20, true) | 0x03 => (32, true) | 0x10 => (4, true) | 0x11 => (4, false) | 0x12 => (12, true) | 0x13 => (12, false)
  | _ => (0, true)

/-- R58, R61: the longest frame of a transport, and the most DATA of a segment (R75). -/
def frameLimit (v : Via) : Nat := if byMailbox v then 4096 else 1232

/-- R75: the most DATA of a segment. -/
def dataLimit (v : Via) : Nat := if byMailbox v then 4044 else 1180

/-- R55, R58: whether a frame of an opcode is dropped and counted. DEDUCED (log entry 74). -/
def badFrame (op : Nat) (f : Frame) : Bool :=
  let l := bodyLength op
  f.magic ≠ 0xB15A || f.version ≠ 1 || f.rsv ≠ 0 || f.status ≠ 0 || f.body.length ≠ f.bodyLen.toNat
    || f.tag.length ≠ (if 0x10 ≤ op then 16 else 0) || f.body.length < l.1 || (l.2 && f.body.length ≠ l.1)
    || frameLimit f.via < 24 + f.body.length + f.tag.length

/-- R57: the module's IPv6 link-local address, from its MAC address. PRESUMED (log entries 71, 80). -/
def ownAddress (s : State) : BitVec 128 :=
  let mac := dictGet s keyMacAddr
  BitVec.ofNat 128 (0xFE80 <<< 112 + (bits mac 24 24 ^^^ 0x020000) <<< 40 + 0xFFFE <<< 24 + bits mac 0 24)

/-- ff02::1. PRESUMED (log entry 80). -/
def allNodes : BitVec 128 := BitVec.ofNat 128 (0xFF02 <<< 112 + 1)

/-- R57, R59, R80: whether a frame reaches the server: on the field bus, sent to the module's address and port (a DISCOVER also
to ff02::1) while the transport is enabled, or in S3 or S4; by the mailbox, outside the standby subset. Nothing answers without
power or while the complex restarts (R228). DEDUCED (log entry 74). -/
def reachesServer (s : State) (via : Via) (discover : Bool) : Bool :=
  s.power.mode ≠ .off && s.mgmt ≠ .reloading &&
  match via with
  | .fieldBus _ _ dst port =>
    (dst = ownAddress s || (discover && dst = allNodes)) && port.toNat = dictGet s keyFbUdpPort
      && (dictGet s keyFbEnable = 1 || s.power.mode = .s3 || s.power.mode = .s4)
  | .mailbox => !standbyServes s

/-- R69: whether two arrivals are one client's: the mailbox, or one address and port. -/
def sameClient (a b : Via) : Bool :=
  match a, b with
  | .mailbox, .mailbox => true
  | .fieldBus x p _ _, .fieldBus y q _ _ => x = y && p = q
  | _, _ => false

/-- What the server answers a frame with: a response frame, or none. DESIGN CHOICE (log entry 83). -/
def sendFrame (s : State) (via : Via) (bytes : List Byte) : State := { s with out := s.out ++ [.frame via bytes] }

/-- A response without a tag (R54, R68). -/
def plainResponse (s : State) (via : Via) (op sid seq status : Nat) (body : List Byte) : State :=
  sendFrame s via (headerBytes (op + 0x80) sid seq body.length status ++ body)

/-! The handshake. -/

/-- R72: the role keys in force: of the key store, or of the standby responder's copy in S3 and S4. -/
def roleKey (s : State) (role : Nat) : Option (List Byte) :=
  mapGet none (if s.power.mode = .on then s.security.keys else s.security.standbyKeys) role

/-- R70, R72: sessions and pending handshakes held at most. DEDUCED (log entry 75). -/
def sessionLimit (s : State) : Nat := if standbyServes s then 2 else 8

/-- Whether an identifier names a session or a pending handshake. -/
def sidHeld (s : State) (n : Nat) : Bool :=
  s.sessions.sessions.any (fun x => x.sid.toNat = n) || s.sessions.handshakes.any fun h => h.sid.toNat = n

/-- The least identifier at or after `n` (in `fuel` steps) that is not 0 and not held. DESIGN CHOICE (log entry 12). -/
def freeSid (s : State) : Nat → Nat → Nat
  | 0, n => n
  | fuel + 1, n => if n = 0 ∨ sidHeld s n then freeSid s fuel ((n + 1) % 2 ^ 32) else n

/-- R71: the status that a HELLO for a role gets, 0 where a handshake opens. Where several apply, an empty slot comes before a
lockout, and a lockout before the limit. DESIGN CHOICE (log entry 88). -/
def helloStatus (s : State) (role : Nat) : Nat :=
  if role = 0 ∨ 3 < role then stRange
  else if isUnsealing s ∨ (roleKey s role).isNone then stRoleDisabled
  else if mapGet false s.sessions.locked role then stLockout
  else if sessionLimit s ≤ s.sessions.sessions.length + s.sessions.handshakes.length then stSessionLimit
  else stOk

/-- R63, R70, R71: a HELLO. SESSION_ID and DEVICE_NONCE are the module's to draw: free values. -/
def serveHello (s : State) (f : Frame) : State :=
  let role := leNat (f.body.take 1)
  let st := helloStatus s role
  if st ≠ stOk then plainResponse s f.via 0x02 0 0 st []
  else
    let sid := freeSid s 16 (freshNat s % 2 ^ 32)
    let s1 := useFree s 1
    let nonce := freshBytes s1 16
    let h : Handshake := { sid := BitVec.ofNat 32 sid, role := role, via := f.via, clientNonce := (f.body.drop 4).take 16, deviceNonce := nonce }
    let s2 := useFree { s1 with sessions := { s1.sessions with handshakes := s1.sessions.handshakes ++ [h] } } 16
    plainResponse s2 f.via 0x02 sid 0 0 (nonce ++ natBytes 8 (dictGet s keySerial))

/-- R64: M_C or M_D. -/
def proofMessage (s : State) (label : String) (h : Handshake) : List Byte :=
  asciiBytes label ++ natBytes 1 h.role ++ natBytes 4 h.sid.toNat ++ h.clientNonce ++ h.deviceNonce ++ natBytes 8 (dictGet s keySerial)

/-- R65: K_TAG or K_WRAP. -/
def sessionKey (s : State) (label : String) (h : Handshake) (key : List Byte) : List Byte :=
  hkdf256 key (h.clientNonce ++ h.deviceNonce) (asciiBytes label ++ natBytes 4 h.sid.toNat ++ natBytes 8 (dictGet s keySerial))

/-- R71: an AUTH_FAILED result of a role: counted; the fourth in a row locks the role out. -/
def authFailed (s : State) (role : Nat) : State :=
  let n := mapGet 0 s.sessions.authFails role + 1
  let s1 := dictBump s keyAuthFailures 1
  if 4 ≤ n then
    logEntry { s1 with sessions := { s1.sessions with authFails := mapSet 0 s1.sessions.authFails role 0, locked := mapSet false s1.sessions.locked role true } }
      2 0x0201 0 0 (packData [(8, role)])
  else { s1 with sessions := { s1.sessions with authFails := mapSet 0 s1.sessions.authFails role n } }

/-- R63, R65, R71: an ACCEPT: the session opens with its two keys. -/
def acceptProof (s : State) (f : Frame) (h : Handshake) (key : List Byte) : State :=
  let x : Session := { sid := h.sid, role := h.role, via := h.via, kTag := sessionKey s "reolo-tag" h key, kWrap := sessionKey s "reolo-wrap" h key }
  let s1 := { s with sessions := { s.sessions with sessions := s.sessions.sessions ++ [x], authFails := mapSet 0 s.sessions.authFails h.role 0 } }
  let s2 := if h.role = 3 then logEntry s1 1 0x0202 6 h.sid.toNat (packData [(8, if byMailbox h.via then 1 else 0)]) else s1
  plainResponse s2 f.via 0x03 h.sid.toNat 0 0 (hmac256 key (proofMessage s "RLOD" h))

/-- R63, R68, R71: a PROOF. One that names no pending handshake of its client gets NO_SESSION; a wrong one ends its handshake.
DEDUCED (log entry 74). -/
def serveProof (s : State) (f : Frame) : State :=
  match s.sessions.handshakes.find? fun h => h.sid = f.sessionId && sameClient h.via f.via with
  | none => plainResponse s f.via 0x03 f.sessionId.toNat 0 stNoSession []
  | some h =>
    let s1 := { s with sessions := { s.sessions with handshakes := s.sessions.handshakes.filter fun y => y.sid ≠ h.sid } }
    match roleKey s h.role with
    | none => plainResponse (authFailed s1 h.role) f.via 0x03 h.sid.toNat 0 stAuthFailed []
    | some key =>
      if f.body = hmac256 key (proofMessage s "RLOC" h) then acceptProof s1 f h key
      else plainResponse (authFailed s1 h.role) f.via 0x03 h.sid.toNat 0 stAuthFailed []

/-! Session frames. -/

def modSession (s : State) (sid : U32) (g : Session → Session) : State :=
  { s with sessions := { s.sessions with sessions := s.sessions.sessions.map fun x => if x.sid = sid then g x else x } }

/-- R66: a wrong tag: counted; the sixteenth in a row closes the session. -/
def tagFailure (s : State) (x : Session) : State :=
  let s1 := dictBump s keyTagFailures 1
  if 16 ≤ x.tagFails + 1 then
    closeSessions (logEntry s1 2 0x0203 6 x.sid.toNat (packData [(8, x.role)])) fun y => y.sid = x.sid
  else modSession s1 x.sid fun y => { y with tagFails := y.tagFails + 1 }

/-- What a request comes to: its status, the body of its response, the open transfer it leaves, how many free values its response
took, and its effect. -/
structure Served where
  status : Nat
  body : List Byte := []
  writing : Option DomainWrite
  used : Nat := 0
  act : State → State := id

/-- R56, R73 to R76, R590: a session's request; `fails` says that the store fails its commit. -/
def serveBody (s : State) (x : Session) (op : Nat) (via : Via) (body : List Byte) (fails : Bool) : Served :=
  let index := leNat (body.take 2)
  let sub := leNat ((body.drop 2).take 1)
  let b3 := leNat ((body.drop 3).take 1)
  let w4 := leNat ((body.drop 4).take 4)
  let w8 := leNat ((body.drop 8).take 4)
  match op with
  | 0x10 =>
    let r := readEntry s x.role index sub
    { status := r.1, body := r.2, writing := x.writing }
  | 0x11 =>
    let r := writeEntry s x.sid x.role index sub b3 (body.drop 4) fails
    { status := r.1, body := body.take 4, writing := x.writing, act := r.2 }
  | 0x12 =>
    let r := segRead s x.role index sub w4 w8 (dataLimit via)
    { status := r.1, body := r.2, writing := x.writing
      used := match domainSet (keyOf index sub) with | some set => 2 * setRecords set | none => 0 }
  | 0x13 =>
    let r := segWrite s x index sub b3 w4 w8 (body.drop 12) (dataLimit via) fails
    { status := r.1, body := body.take 8, writing := r.2.1, act := r.2.2 }
  | 0x15 => { status := stOk, writing := none, act := fun t => closeSessions t fun y => y.sid = x.sid }
  | _ => { status := stOk, writing := x.writing }

/-- R54, R66, R67: a request executed: its response is sent and stored, and then its effect comes about. -/
def execute (s : State) (x : Session) (op : Nat) (f : Frame) : State :=
  let r := serveBody s x op f.via f.body f.storeFails
  let body := if r.status = stOk then r.body else []
  let head := headerBytes (op + 0x80) x.sid.toNat f.seq.toNat body.length r.status ++ body
  let response := head ++ (hmac256 x.kTag head).take 16
  let s1 := modSession (useFree s r.used) x.sid fun y => { y with lastSeq := f.seq, response := some response, tagFails := 0, writing := r.writing }
  r.act (sendFrame s1 f.via response)

/-- R66 to R69: a session frame. -/
def serveSession (s : State) (op : Nat) (f : Frame) : State :=
  match s.sessions.sessions.find? fun x => x.sid = f.sessionId && sameClient x.via f.via with
  | none => plainResponse s f.via op f.sessionId.toNat f.seq.toNat stNoSession []
  | some x =>
    if f.tag ≠ (hmac256 x.kTag (requestBytes op f)).take 16 then tagFailure s x
    else
      let s1 := modSession s x.sid fun y => { y with tagFails := 0 }
      if f.seq = x.lastSeq + 1 then execute s1 x op f
      else
        match x.response with
        | some r => if f.seq = x.lastSeq then sendFrame s1 f.via r else dictBump s1 keySeqDiscards 1
        | none => dictBump s1 keySeqDiscards 1

/-- R56, R59: the body of a DISCOVER response. DEDUCED (log entry 74). -/
def discoverBody (s : State) : List Byte :=
  natBytes 8 (dictGet s keySerial) ++ natBytes 1 (dictGet s keyModuleState) ++ natBytes 1 (powerState s) ++ natBytes 2 0

/-- R59: a DISCOVER: on the field bus its response waits. -/
def serveDiscover (s : State) (f : Frame) : State :=
  if byMailbox f.via then plainResponse s f.via 0x01 0 0 0 (discoverBody s)
  else { s with sessions := { s.sessions with discovers := s.sessions.discovers ++ [f.via] } }

/-- R53 to R76: a frame of an opcode arrives, or a datagram that is no frame (R55). DEDUCED (log entry 82). -/
def serveFrame (s : State) (op : Nat) (f : Frame) : State :=
  if ¬ reachesServer s f.via (op = 0x01) then s
  else if f.stray ∨ badFrame op f then dictBump s keyBadFrames 1
  else
    match op with
    | 0x01 => serveDiscover s f
    | 0x02 => serveHello s f
    | 0x03 => serveProof s f
    | _ => serveSession s op f

/-! The mailbox. -/

/-- R53, R54: a frame that a buffer holds, by its header: opcode, and frame; none where its length fits no form. -/
def parseFrame (bytes : List Byte) : Option (Nat × Frame) :=
  let fld (lo n : Nat) : Nat := leNat ((bytes.drop lo).take n)
  let op := fld 3 1
  let len := fld 16 2
  if bytes.length < 24 then none
  else
    some (op, { via := .mailbox, magic := BitVec.ofNat 16 (fld 0 2), version := BitVec.ofNat 8 (fld 2 1), sessionId := BitVec.ofNat 32 (fld 4 4)
                seq := BitVec.ofNat 64 (fld 8 8), bodyLen := BitVec.ofNat 16 len, status := BitVec.ofNat 16 (fld 18 2), rsv := BitVec.ofNat 32 (fld 20 4)
                body := (bytes.drop 24).take len, tag := bytes.drop (24 + len) })

/-- R56: the opcodes of requests. -/
def knownOp (op : Nat) : Bool := (1 ≤ op && op ≤ 3) || (0x10 ≤ op && op ≤ 0x15)

/-- The frames that have left by the mailbox since a state. -/
def mailFrame (before after : State) : Option (List Byte) :=
  (after.out.drop before.out.length).findSome? fun o => match o with
    | .frame .mailbox b => some b
    | _ => none

/-- R60: a queue-1 entry. Its KIND is that of a Reolo frame, also where it answers an entry of another KIND. DESIGN CHOICE (log
entry 88). -/
def mailEntry (entry : List Byte) (length status : Nat) : List Byte :=
  natBytes 2 2 ++ natBytes 2 length ++ natBytes 2 status ++ natBytes 2 0 ++ (entry.drop 8).take 16 ++ List.replicate 40 0

/-- R61, R302: the reads of a request frame in its host buffer, which carry no PASID. -/
def mailReads (s : State) (address length : Nat) : List Out :=
  (List.range (ceilDiv (min length 4096) 128)).map fun i =>
    let h := hostAddr (if s.pcie.ats then atsFind s.pcie none (address + 128 * i) else none) (address + 128 * i)
    .hostRead 0 none h.2 (BitVec.ofNat 64 h.1) (byteMask 0 (min 128 (length - 128 * i)))

/-- R61, R302: the writes of a response frame over the start of the buffer. -/
def mailWrites (s : State) (address : Nat) (bytes : List Byte) : List Out :=
  (List.range (ceilDiv bytes.length 128)).map fun i =>
    let h := hostAddr (if s.pcie.ats then atsFind s.pcie none (address + 128 * i) else none) (address + 128 * i)
    let line := (bytes.drop (128 * i)).take 128
    .hostWrite none h.2 (BitVec.ofNat 64 h.1) (byteMask 0 line.length) line false

/-- R54, R55, R61: the request frame of a queue-0 entry of some length, from what its buffer holds; none where no frame is so long. -/
def mailRequest (buffer : List Byte) (length : Nat) : Option (Nat × Frame) :=
  if length ≤ 4096 then parseFrame (buffer.take length) else none

/-- R60 to R62: an entry of ring 0 taken. `buffer` is what its host buffer holds, none where its translation fails, and `fails` says
that the store fails the request's commit. DEDUCED (log entry 31). -/
def serveMail (s : State) (entry : List Byte) (buffer : Option (List Byte)) (fails : Bool) : State :=
  let address := leNat ((entry.drop 8).take 8)
  let length := leNat ((entry.drop 2).take 2)
  let answer (s : State) (length status : Nat) : State := queueCompletion s 1 (mailEntry entry length status)
  if dictGet s keyMailboxEnable = 0 then answer s 0 0
  else if leNat (entry.take 2) ≠ 2 then answer s 0 stBadEntry
  else
    match buffer with
    | none => answer (logEntry s 2 0x0204 0 0 (packData [(64, address)])) 0 stBufferFault
    | some b =>
      let s := { s with out := s.out ++ mailReads s address length }
      match mailRequest b length with
      | none => answer (dictBump s keyBadFrames 1) 0 0
      | some (op, f) =>
        if ¬ knownOp op then answer (dictBump s keyBadFrames 1) 0 0
        else
          let s1 := serveFrame { s with out := [] } op { f with storeFails := fails }
          let gone := s1.out.filter fun o => match o with
            | .frame .mailbox _ => false
            | _ => true
          match mailFrame { s with out := [] } s1 with
          | some r =>
            answer { s1 with out := s.out ++ gone ++ mailWrites s1 address r } r.length 0
          | none => answer { s1 with out := s.out ++ s1.out } 0 0

end Sys2Proof.Machine
end

