-- ==== Sys2Proof/Machine/SessionCmds.lean ====
section
/-! DEFINITION. The commands that reach the dictionary server: its frames by opcode (R56 to R76), its timers (R59, R68, R70, R71),
the mailbox (R60 to R62), the writes that name one entry (R588 and each entry's own rule), the image check (R416), and ICMPv6
(R57). -/

namespace Sys2Proof.Machine

/-! Frames by opcode. -/

/-- DISCOVER (R59). -/
def execDiscover (f : Frame) (s : State) : Result := .next (serveFrame s 0x01 f)

/-- DISCOVER_REPLY_DELAY (R59): the response that has waited longest is sent, or dropped where the field bus no longer reaches the
server. DESIGN CHOICE (log entry 88). -/
def execDiscoverReplyDelay (s : State) : Result :=
  match s.sessions.discovers with
  | [] => .next s
  | v :: rest =>
    let s1 := { s with sessions := { s.sessions with discovers := rest } }
    .next (if reachesServer s v true then plainResponse s1 v 0x01 0 0 0 (discoverBody s) else s1)

/-- HELLO (R63, R70, R71). -/
def execHello (f : Frame) (s : State) : Result := .next (serveFrame s 0x02 f)

/-- PROOF (R63, R71). -/
def execProof (f : Frame) (s : State) : Result := .next (serveFrame s 0x03 f)

/-- AUTH_LOCKOUT_EXPIRE (R71): the lockout of a role ends. -/
def execAuthLockoutExpire (role : Fin 4) (s : State) : Result :=
  .next { s with sessions := { s.sessions with locked := mapSet false s.sessions.locked role.val false } }

/-- HANDSHAKE_EXPIRE (R70): a pending handshake expires. -/
def execHandshakeExpire (sid : U32) (s : State) : Result :=
  .next { s with sessions := { s.sessions with handshakes := s.sessions.handshakes.filter fun h => h.sid ≠ sid } }

/-- READ (R73). -/
def execRead (f : Frame) (s : State) : Result := .next (serveFrame s 0x10 f)

/-- WRITE (R74, R590). -/
def execWrite (f : Frame) (s : State) : Result := .next (serveFrame s 0x11 f)

/-- SEG_READ (R76). -/
def execSegRead (f : Frame) (s : State) : Result := .next (serveFrame s 0x12 f)

/-- SEG_WRITE (R75). -/
def execSegWrite (f : Frame) (s : State) : Result := .next (serveFrame s 0x13 f)

/-- KEEPALIVE (R56, R68). -/
def execKeepalive (f : Frame) (s : State) : Result := .next (serveFrame s 0x14 f)

/-- CLOSE (R68). -/
def execClose (f : Frame) (s : State) : Result := .next (serveFrame s 0x15 f)

/-- SESSION_IDLE_TIMEOUT (R68): a session idle too long closes. -/
def execSessionIdleTimeout (sid : U32) (s : State) : Result := .next (closeSessions s fun x => x.sid = sid)

/-! The mailbox. -/

/-- MAILBOX_REQUEST (R60 to R62, R283): the server takes the oldest entry of ring 0 that a fetch has brought, where the server runs;
HEAD advances. `buffer` is what its host buffer holds, none where its translation fails, and `storeFails` says that the store fails
the request's commit. -/
def execMailboxRequest (buffer : Option (List Byte)) (storeFails : Bool) (s : State) : Result :=
  let x := getRing s 0
  match x.pool with
  | [] => .next s
  | e :: rest =>
    if ringEn x ∧ ¬ ringErr x ∧ s.power.mode = .on ∧ s.mgmt = .serving then
      .next (serveMail (setRing s 0 { ringSet x 160 17 (headPlus x 1) with pool := rest }) e.bytes buffer storeFails)
    else .next s

/-! Writes of one entry. -/

/-- The entry a request names, as 256 times index plus subindex. -/
def frameKey (f : Frame) : Nat := keyOf (leNat (f.body.take 2)) (leNat ((f.body.drop 2).take 1))

/-- The value a WRITE carries. -/
def frameValue (f : Frame) : Nat := leNat (f.body.drop 4)

/-- A WRITE whose command is the write of one entry; another frame is no such command. DEDUCED (log entry 82). -/
def writeOf (s : State) (f : Frame) (key : Nat) : Result := .next (if frameKey f = key then serveFrame s 0x11 f else s)

/-- A WRITE whose command is the write of one value to one entry. DEDUCED (log entry 82). -/
def writeValueOf (s : State) (f : Frame) (key v : Nat) : Result :=
  .next (if frameKey f = key ∧ frameValue f = v then serveFrame s 0x11 f else s)

/-- A SEG_WRITE whose command is the write of one DOMAIN. DEDUCED (log entry 82). -/
def segWriteOf (s : State) (f : Frame) (key : Nat) : Result := .next (if frameKey f = key then serveFrame s 0x13 f else s)

/-- Whether a write names a subindex of a port. -/
def namesPort (f : Frame) (sub : Nat) : Bool := (List.range 8).any fun p => frameKey f = portKey p sub

/-- FB_ENABLE (R80). -/
def execFbEnable (f : Frame) (s : State) : Result := writeOf s f keyFbEnable

/-- MAILBOX_ENABLE (R80). -/
def execMailboxEnable (f : Frame) (s : State) : Result := writeOf s f keyMailboxEnable

/-- PORT_RESET (R385). -/
def execPortReset (f : Frame) (s : State) : Result := .next (if namesPort f 0xD then serveFrame s 0x11 f else s)

/-- PORT_ENABLE (R376, R387). -/
def execPortEnable (f : Frame) (s : State) : Result := .next (if namesPort f 0xC then serveFrame s 0x11 f else s)

/-- LS_RESTART (R414). -/
def execLsRestart (f : Frame) (s : State) : Result := writeOf s f keyLsRestart

/-- LS_READY (R416). -/
def execLsReady (f : Frame) (s : State) : Result := writeOf s f keyLsReady

/-- LAUNCH (R417). -/
def execLaunch (f : Frame) (s : State) : Result := writeOf s f keyLaunch

/-- LS_STOP (R418). -/
def execLsStop (f : Frame) (s : State) : Result := writeOf s f keyLsStop

/-- TRACE_ARM written 1 (R454). -/
def execTraceArm (f : Frame) (s : State) : Result := writeValueOf s f keyTraceArm 1

/-- TRACE_ARM written 0 (R454). -/
def execTraceStop (f : Frame) (s : State) : Result := writeValueOf s f keyTraceArm 0

/-- SLOT_WRITE (R478). -/
def execSlotWrite (f : Frame) (s : State) : Result := writeOf s f keySlotWrite

/-- CFG_FULL_LOAD (R488). -/
def execCfgFullLoad (f : Frame) (s : State) : Result := writeOf s f keyCfgFullLoad

/-- PL_START (R490). -/
def execPlStart (f : Frame) (s : State) : Result := writeOf s f keyPlStart

/-- REGION_RESET (R497). -/
def execRegionReset (f : Frame) (s : State) : Result := writeOf s f keyRegionReset

/-- MODULE_CMD written 1, START (R506). -/
def execModuleCmdStart (f : Frame) (s : State) : Result := writeValueOf s f keyModuleCmd 1

/-- MODULE_CMD written 2, STOP (R506). -/
def execModuleCmdStop (f : Frame) (s : State) : Result := writeValueOf s f keyModuleCmd 2

/-- CORE_RESET (R513). -/
def execCoreReset (f : Frame) (s : State) : Result := writeOf s f keyCoreReset

/-- WARM_RESET (R513). -/
def execWarmReset (f : Frame) (s : State) : Result := writeOf s f keyWarmReset

/-- POWER_CYCLE (R513). -/
def execPowerCycle (f : Frame) (s : State) : Result := writeOf s f keyPowerCycle

/-- POWER_REQ written 0 (R508, R511). -/
def execPowerReqWake (f : Frame) (s : State) : Result := writeValueOf s f keyPowerReq 0

/-- POWER_REQ written 1 (R508). -/
def execPowerReqS1 (f : Frame) (s : State) : Result := writeValueOf s f keyPowerReq 1

/-- POWER_REQ written 3 (R510). -/
def execPowerReqS3 (f : Frame) (s : State) : Result := writeValueOf s f keyPowerReq 3

/-- POWER_REQ written 4 (R510). -/
def execPowerReqS4 (f : Frame) (s : State) : Result := writeValueOf s f keyPowerReq 4

/-- DOMAIN_OFF (R509). -/
def execDomainOff (f : Frame) (s : State) : Result := writeOf s f keyDomainOff

/-- KEY_LOAD (R529). -/
def execKeyLoad (f : Frame) (s : State) : Result := segWriteOf s f keyKeyLoad

/-- KEY_CLEAR (R530). -/
def execKeyClear (f : Frame) (s : State) : Result := writeOf s f keyKeyClear

/-- UNSEAL (R536). -/
def execUnseal (f : Frame) (s : State) : Result := segWriteOf s f keyUnseal

/-- SEAL (R540). -/
def execSeal (f : Frame) (s : State) : Result := writeOf s f keySeal

/-- CNT_SEL_WRITE (R546, R549): a select word or an address window. -/
def execCntSelWrite (f : Frame) (s : State) : Result :=
  .next (if (selectSet (frameKey f / 256)).isSome then serveFrame s 0x11 f else s)

/-- CNT_CLEAR (R546). -/
def execCntClear (f : Frame) (s : State) : Result := writeOf s f keyCntClear

/-- SAMPLE_CLEAR (R557). -/
def execSampleClear (f : Frame) (s : State) : Result := writeOf s f keySampleClear

/-- LEDGER_FREEZE written 1 (R564). -/
def execLedgerFreeze (f : Frame) (s : State) : Result := writeValueOf s f keyLedgerFreeze 1

/-- LEDGER_FREEZE written 0 (R564). -/
def execLedgerUnfreeze (f : Frame) (s : State) : Result := writeValueOf s f keyLedgerFreeze 0

/-- LEDGER_CLEAR (R564). -/
def execLedgerClear (f : Frame) (s : State) : Result := writeOf s f keyLedgerClear

/-- CALENDAR_SET (R560). -/
def execCalendarSet (f : Frame) (s : State) : Result := writeOf s f keyCalendarSet

/-! The image check. -/

/-- The bytes of stacked memory from a stacked virtual address, page by page of 4 KiB; none where a page has no translation. -/
def imageBytes (s : State) (va : Nat) (n : Nat) : Option (List Byte) :=
  (List.range ((n + 4095) / 4096)).foldr (fun i rest =>
    match rest, (translate s (va + 4096 * i)).1 with
    | some r, .hit pa _ => some (stackRead s.stacked pa (min 4096 (n - 4096 * i)) ++ r)
    | _, _ => none) (some [])

/-- R415: a field of the lock-step header. DEDUCED (log entry 31). -/
def headerFld (h : Nat) (lo n : Nat) : Nat := bits h lo n

/-- R415, R416: the outcome of the check of a header whose image hashes to `hash`. DEDUCED (log entry 76). -/
def readyOutcome (s : State) (h : Nat) (hash : List Byte) : Nat :=
  let f := headerFld h
  let exact_ := f 40 1 = 0 && f 64 32 ≠ s.fuses.duMap.toNat
  let firmware := f 128 32 ≠ 0 && f 128 32 ≠ dictGet s keyFwBuild
  if f 0 32 ≠ 0x4448534C ∨ f 32 8 ≠ 1 ∨ f 160 32 = 0 ∨ 0x03FFFF00 < f 160 32 then 3
  else if leNat hash ≠ f 256 256 then 4
  else if f 96 8 ≠ dictGet s keyTorusX ∨ f 104 8 ≠ dictGet s keyTorusY ∨ f 112 8 ≠ dictGet s keyTorusZ then 5
  else if dictGet s keyLsState ≠ 4 then 6
  else if exact_ || f 120 8 ≠ dictGet s keySysLat || firmware then 7
  else 2

/-- R416: the outcome of the check recorded; a module that passes sends READY, and RUN_CM starts. DEDUCED (log entry 76). -/
def readyChecked (s : State) (h : Nat) (hash : List Byte) : State :=
  let code := readyOutcome s h hash
  let s1 := dictSet s keyReadyStatus code
  if code = 2 ∨ code = 7 then
    let s2 := dictSet (dictSet s1 keyRunCm (if code = 2 then 1 else 0)) keyRunCmCause (if code = 2 then 0 else 8)
    let l := { s2.lockstep with ready := true, buildFloor := headerFld h 40 1 = 1, imageHash := hash }
    sendReady { s2 with lockstep := l }
  else s1

/-- READY_CHECK_DONE (R416): the check that runs ends. A header or an image that has no translation is a bad header. -/
def execReadyCheckDone (s : State) : Result :=
  let base := dictGet s keyCcImageBase
  if dictGet s keyReadyStatus ≠ 1 then .next s
  else
    match imageBytes s (base + 0x03FFFF00) 64 with
    | none => .next (dictSet s keyReadyStatus 3)
    | some hb =>
      let h := leNat hb
      match imageBytes s base (min 0x03FFFF00 (headerFld h 160 32)) with
      | none => .next (dictSet s keyReadyStatus 3)
      | some image => .next (readyChecked s h (sha256 image))

/-! ICMPv6. -/

/-- NEIGHBOUR_SOLICITATION (R57): answered where it asks for the module's address, also with FB_ENABLE 0 and while the management
complex reloads. DESIGN CHOICE (log entry 88). -/
def execNeighbourSolicitation (src target : BitVec 128) (s : State) : Result :=
  if s.power.mode ≠ .off ∧ target = ownAddress s then
    .next { s with out := s.out ++ [.neighbourAdvertisement src target (BitVec.ofNat 48 (dictGet s keyMacAddr))] }
  else .next s

/-- ECHO_REQUEST (R57): answered where it is sent to the module's address, also with FB_ENABLE 0 and while the management complex
reloads. DESIGN CHOICE (log entry 88). -/
def execEchoRequest (src dst : BitVec 128) (payload : List Byte) (s : State) : Result :=
  if s.power.mode ≠ .off ∧ dst = ownAddress s then .next { s with out := s.out ++ [.echoReply src payload] } else .next s

end Sys2Proof.Machine
end

