-- ==== Sys2Proof/Machine/Dispatch.lean ====
section
/-! DEFINITION. The meaning of each command: one arm for each constructor of `Instr`, each a call of its meaning. -/

namespace Sys2Proof.Machine

def exec (i : Instr) (s : State) : Host.Outcome State Fault Refusal :=
  match i with
  | .discover f => Sys2Proof.Machine.execDiscover f s
  | .discoverReplyDelay => Sys2Proof.Machine.execDiscoverReplyDelay s
  | .hello f => Sys2Proof.Machine.execHello f s
  | .proof f => Sys2Proof.Machine.execProof f s
  | .authLockoutExpire role => Sys2Proof.Machine.execAuthLockoutExpire role s
  | .handshakeExpire sid => Sys2Proof.Machine.execHandshakeExpire sid s
  | .read f => Sys2Proof.Machine.execRead f s
  | .write f => Sys2Proof.Machine.execWrite f s
  | .segRead f => Sys2Proof.Machine.execSegRead f s
  | .segWrite f => Sys2Proof.Machine.execSegWrite f s
  | .keepalive f => Sys2Proof.Machine.execKeepalive f s
  | .close f => Sys2Proof.Machine.execClose f s
  | .sessionIdleTimeout sid => Sys2Proof.Machine.execSessionIdleTimeout sid s
  | .mailboxRequest buffer storeFails => Sys2Proof.Machine.execMailboxRequest buffer storeFails s
  | .fbEnable f => Sys2Proof.Machine.execFbEnable f s
  | .mailboxEnable f => Sys2Proof.Machine.execMailboxEnable f s
  | .mgmtMismatch cycle => Sys2Proof.Machine.execMgmtMismatch cycle s
  | .mgmtRestartDone => Sys2Proof.Machine.execMgmtRestartDone s
  | .managementBoot => Sys2Proof.Machine.execManagementBoot s
  | .mma c e => Sys2Proof.Machine.execMma c e s
  | .conv c e => Sys2Proof.Machine.execConv c e s
  | .engineInjectEnd c e => Sys2Proof.Machine.execEngineInjectEnd c e s
  | .engineDrainEnd c e => Sys2Proof.Machine.execEngineDrainEnd c e s
  | .engineOutputMark c e => Sys2Proof.Machine.execEngineOutputMark c e s
  | .seedLoadStart c e => Sys2Proof.Machine.execSeedLoadStart c e s
  | .seedLoadEnd c e => Sys2Proof.Machine.execSeedLoadEnd c e s
  | .dummyWindowExpire c e => Sys2Proof.Machine.execDummyWindowExpire c e s
  | .dummyDensityStep c e => Sys2Proof.Machine.execDummyDensityStep c e s
  | .warmupStart c e => Sys2Proof.Machine.execWarmupStart c e s
  | .warmupEnd c e => Sys2Proof.Machine.execWarmupEnd c e s
  | .bankRequestAged c bank requester => Sys2Proof.Machine.execBankRequestAged c bank requester s
  | .add c => Sys2Proof.Machine.execAdd c s
  | .sub c => Sys2Proof.Machine.execSub c s
  | .mul c => Sys2Proof.Machine.execMul c s
  | .fma c => Sys2Proof.Machine.execFma c s
  | .max c => Sys2Proof.Machine.execMax c s
  | .min c => Sys2Proof.Machine.execMin c s
  | .maxi c => Sys2Proof.Machine.execMaxi c s
  | .mini c => Sys2Proof.Machine.execMini c s
  | .scale c => Sys2Proof.Machine.execScale c s
  | .abs c => Sys2Proof.Machine.execAbs c s
  | .neg c => Sys2Proof.Machine.execNeg c s
  | .cvt c => Sys2Proof.Machine.execCvt c s
  | .quant c => Sys2Proof.Machine.execQuant c s
  | .cmp c => Sys2Proof.Machine.execCmp c s
  | .select c => Sys2Proof.Machine.execSelect c s
  | .copy c => Sys2Proof.Machine.execCopy c s
  | .fill c => Sys2Proof.Machine.execFill c s
  | .rsum c => Sys2Proof.Machine.execRsum c s
  | .rmax c => Sys2Proof.Machine.execRmax c s
  | .rmin c => Sys2Proof.Machine.execRmin c s
  | .ramax c => Sys2Proof.Machine.execRamax c s
  | .scalefind c => Sys2Proof.Machine.execScalefind c s
  | .anchor c => Sys2Proof.Machine.execAnchor c s
  | .wadd c => Sys2Proof.Machine.execWadd c s
  | .walign c => Sys2Proof.Machine.execWalign c s
  | .wexp c => Sys2Proof.Machine.execWexp c s
  | .wcvt c => Sys2Proof.Machine.execWcvt c s
  | .vectorEnd c => Sys2Proof.Machine.execVectorEnd c s
  | .gather c g => Sys2Proof.Machine.execGather c g s
  | .gatherLineFill c g line => Sys2Proof.Machine.execGatherLineFill c g line s
  | .gatherEnd c g => Sys2Proof.Machine.execGatherEnd c g s
  | .xgrnPush c => Sys2Proof.Machine.execXgrnPush c s
  | .xgrnStat c => Sys2Proof.Machine.execXgrnStat c s
  | .xgrnHclrRetry c => Sys2Proof.Machine.execXgrnHclrRetry c s
  | .xgrnHclrDiscard c => Sys2Proof.Machine.execXgrnHclrDiscard c s
  | .xgrnWopen c => Sys2Proof.Machine.execXgrnWopen c s
  | .xgrnRopen c => Sys2Proof.Machine.execXgrnRopen c s
  | .xgrnClose c => Sys2Proof.Machine.execXgrnClose c s
  | .xgrnRwait c => Sys2Proof.Machine.execXgrnRwait c s
  | .xgrnCvarm c => Sys2Proof.Machine.execXgrnCvarm c s
  | .xgrnCvarmResume c => Sys2Proof.Machine.execXgrnCvarmResume c s
  | .xgrnCvarmDiscard c => Sys2Proof.Machine.execXgrnCvarmDiscard c s
  | .xgrnCvwait c => Sys2Proof.Machine.execXgrnCvwait c s
  | .xgrnCvmark c => Sys2Proof.Machine.execXgrnCvmark c s
  | .xgrnQclaim c => Sys2Proof.Machine.execXgrnQclaim c s
  | .xgrnQdone c => Sys2Proof.Machine.execXgrnQdone c s
  | .xgrnYield c => Sys2Proof.Machine.execXgrnYield c s
  | .xgrnTstart c => Sys2Proof.Machine.execXgrnTstart c s
  | .xgrnTstop c => Sys2Proof.Machine.execXgrnTstop c s
  | .xgrnTsig c => Sys2Proof.Machine.execXgrnTsig c s
  | .ccInstruction c => Sys2Proof.Machine.execCcInstruction c s
  | .wfi c => Sys2Proof.Machine.execWfi c s
  | .mret c => Sys2Proof.Machine.execMret c s
  | .fenceI c => Sys2Proof.Machine.execFenceI c s
  | .cacheMissReturn c => Sys2Proof.Machine.execCacheMissReturn c s
  | .waitConditionObserved c t => Sys2Proof.Machine.execWaitConditionObserved c t s
  | .threadSelect c => Sys2Proof.Machine.execThreadSelect c s
  | .threadQuantum c => Sys2Proof.Machine.execThreadQuantum c s
  | .mtipCompare c t => Sys2Proof.Machine.execMtipCompare c t s
  | .interruptTake c t => Sys2Proof.Machine.execInterruptTake c t s
  | .caravanStart c => Sys2Proof.Machine.execCaravanStart c s
  | .contextFetchDone v => Sys2Proof.Machine.execContextFetchDone v s
  | .lineReadIssue v line => Sys2Proof.Machine.execLineReadIssue v line s
  | .lineDataArrival v line answer => Sys2Proof.Machine.execLineDataArrival v line answer s
  | .lineDeliver v line receiver => Sys2Proof.Machine.execLineDeliver v line receiver s
  | .faultDrainEnd v => Sys2Proof.Machine.execFaultDrainEnd v s
  | .caravanEnd v => Sys2Proof.Machine.execCaravanEnd v s
  | .mcStragglerTimeout v receiver => Sys2Proof.Machine.execMcStragglerTimeout v receiver s
  | .ringEnable r size8 value => Sys2Proof.Machine.execRingEnable r size8 value s
  | .ringDisable r size8 value => Sys2Proof.Machine.execRingDisable r size8 value s
  | .ringErrClear r size8 value => Sys2Proof.Machine.execRingErrClear r size8 value s
  | .barRegisterWrite offset size8 value => Sys2Proof.Machine.execBarRegisterWrite offset size8 value s
  | .bar0InvalidAccess isWrite offset size => Sys2Proof.Machine.execBar0InvalidAccess isWrite offset size s
  | .tailDb r value => Sys2Proof.Machine.execTailDb r value s
  | .headDb r value => Sys2Proof.Machine.execHeadDb r value s
  | .ringFetch r => Sys2Proof.Machine.execRingFetch r s
  | .ringFetchDone r answer => Sys2Proof.Machine.execRingFetchDone r answer s
  | .claimCopyDone r => Sys2Proof.Machine.execClaimCopyDone r s
  | .qdoneWriteDone r => Sys2Proof.Machine.execQdoneWriteDone r s
  | .qmCompletionWrite => Sys2Proof.Machine.execQmCompletionWrite s
  | .tailWriteback r translated => Sys2Proof.Machine.execTailWriteback r translated s
  | .msixSend r => Sys2Proof.Machine.execMsixSend r s
  | .coalTimer r => Sys2Proof.Machine.execCoalTimer r s
  | .msixUnmask vector => Sys2Proof.Machine.execMsixUnmask vector s
  | .remoteForward r => Sys2Proof.Machine.execRemoteForward r s
  | .forwardedEntryReceive r sender senderRing index entry => Sys2Proof.Machine.execForwardedEntryReceive r sender senderRing index entry s
  | .modEventClear value => Sys2Proof.Machine.execModEventClear value s
  | .modEventEnable value => Sys2Proof.Machine.execModEventEnable value s
  | .ttDataWrite whole value => Sys2Proof.Machine.execTtDataWrite whole value s
  | .ttDataLowLatch value => Sys2Proof.Machine.execTtDataLowLatch value s
  | .translationDone reads => Sys2Proof.Machine.execTranslationDone s reads
  | .bar2Read offset len reads => Sys2Proof.Machine.execBar2Read offset len s reads
  | .bar2Write offset bytes reads => Sys2Proof.Machine.execBar2Write offset bytes s reads
  | .atsInvalidation pasid iova sizeLog2 => Sys2Proof.Machine.execAtsInvalidation pasid iova sizeLog2 s
  | .atsInvalidationComplete => Sys2Proof.Machine.execAtsInvalidationComplete s
  | .pageRequestRaise => Sys2Proof.Machine.execPageRequestRaise s
  | .pageResponse prg code => Sys2Proof.Machine.execPageResponse prg code s
  | .moduleReset trigger => Sys2Proof.Machine.execModuleReset trigger s
  | .rd f => Sys2Proof.Machine.execRd f s
  | .wr f => Sys2Proof.Machine.execWr f s
  | .line f => Sys2Proof.Machine.execLine f s
  | .mcLine f receiver => Sys2Proof.Machine.execMcLine f receiver s
  | .holdReq f => Sys2Proof.Machine.execHoldReq f s
  | .rdData f => Sys2Proof.Machine.execRdData f s
  | .wrAck f => Sys2Proof.Machine.execWrAck f s
  | .holdGrant v holder => Sys2Proof.Machine.execHoldGrant v holder s
  | .credit f => Sys2Proof.Machine.execCredit f s
  | .retry f => Sys2Proof.Machine.execRetry f s
  | .retryResend tag => Sys2Proof.Machine.execRetryResend tag s
  | .mgtRd f => Sys2Proof.Machine.execMgtRd f s
  | .mgtWr f => Sys2Proof.Machine.execMgtWr f s
  | .mgtRsp f => Sys2Proof.Machine.execMgtRsp f s
  | .urgencyAge place => Sys2Proof.Machine.execUrgencyAge place s
  | .bpRequestPresent p ready => Sys2Proof.Machine.execBpRequestPresent p ready s
  | .bpResponse p tag err data poison => Sys2Proof.Machine.execBpResponse p tag err data poison s
  | .bpTimeout p tag => Sys2Proof.Machine.execBpTimeout p tag s
  | .smCommandIssue t k pc => Sys2Proof.Machine.execSmCommandIssue t k pc s
  | .smReadData t k pc low high => Sys2Proof.Machine.execSmReadData t k pc low high s
  | .smAgePromote t k pc place => Sys2Proof.Machine.execSmAgePromote t k pc place s
  | .refreshStop t k pc low high => Sys2Proof.Machine.execRefreshStop t k pc low high s
  | .lsRefreshSlot t halves => Sys2Proof.Machine.execLsRefreshSlot t halves s
  | .towerTempReading t reading milli => Sys2Proof.Machine.execTowerTempReading t reading milli s
  | .towerBootDone t ok failedPins repairs trainUs => Sys2Proof.Machine.execTowerBootDone t ok failedPins repairs trainUs s
  | .selfRefreshEntry t => Sys2Proof.Machine.execSelfRefreshEntry t s
  | .selfRefreshExitDone t => Sys2Proof.Machine.execSelfRefreshExitDone t s
  | .dataFrame p headers blocks trailer => Sys2Proof.Machine.execDataFrame p headers blocks trailer s
  | .packetRelease p => Sys2Proof.Machine.execPacketRelease p s
  | .replayTimeout p => Sys2Proof.Machine.execReplayTimeout p s
  | .frameAgeLimit p => Sys2Proof.Machine.execFrameAgeLimit p s
  | .blockLockLoss p lane => Sys2Proof.Machine.execBlockLockLoss p lane s
  | .recovery p => Sys2Proof.Machine.execRecovery p s
  | .recoveryTimeout p => Sys2Proof.Machine.execRecoveryTimeout p s
  | .nopBlock p block => Sys2Proof.Machine.execNopBlock p block s
  | .alignBlock p block => Sys2Proof.Machine.execAlignBlock p block s
  | .gtcBlock p block => Sys2Proof.Machine.execGtcBlock p block s
  | .eqBlock p block => Sys2Proof.Machine.execEqBlock p block s
  | .statusBlock p block => Sys2Proof.Machine.execStatusBlock p block s
  | .idleEnter p block => Sys2Proof.Machine.execIdleEnter p block s
  | .trainBlock p block => Sys2Proof.Machine.execTrainBlock p block s
  | .portTrainingStart p => Sys2Proof.Machine.execPortTrainingStart p s
  | .portTrainingDone p r => Sys2Proof.Machine.execPortTrainingDone p r s
  | .trainingTimeout p => Sys2Proof.Machine.execTrainingTimeout p s
  | .trainingRetry p => Sys2Proof.Machine.execTrainingRetry p s
  | .eyeMarginReport p lane margin => Sys2Proof.Machine.execEyeMarginReport p lane margin s
  | .remoteTimeout east tag => Sys2Proof.Machine.execRemoteTimeout east tag s
  | .elecIdleEntry p => Sys2Proof.Machine.execElecIdleEntry p s
  | .elecIdleExit p => Sys2Proof.Machine.execElecIdleExit p s
  | .idleExitTimeout p => Sys2Proof.Machine.execIdleExitTimeout p s
  | .portReset f => Sys2Proof.Machine.execPortReset f s
  | .portEnable f => Sys2Proof.Machine.execPortEnable f s
  | .cblPrsntChange p present => Sys2Proof.Machine.execCblPrsntChange p present s
  | .disc p m => Sys2Proof.Machine.execDisc p m s
  | .discDone p m => Sys2Proof.Machine.execDiscDone p m s
  | .shape p m => Sys2Proof.Machine.execShape p m s
  | .alignDone p m => Sys2Proof.Machine.execAlignDone p m s
  | .arm p m => Sys2Proof.Machine.execArm p m s
  | .ready p m => Sys2Proof.Machine.execReady p m s
  | .launchMessage p m => Sys2Proof.Machine.execLaunchMessage p m s
  | .agree p m => Sys2Proof.Machine.execAgree p m s
  | .request p m => Sys2Proof.Machine.execRequest p m s
  | .slip p m => Sys2Proof.Machine.execSlip p m s
  | .fault p m => Sys2Proof.Machine.execFault p m s
  | .restart p m => Sys2Proof.Machine.execRestart p m s
  | .gtcAlignmentStart p => Sys2Proof.Machine.execGtcAlignmentStart p s
  | .gtcAligned newGtc => Sys2Proof.Machine.execGtcAligned newGtc s
  | .parentLoss => Sys2Proof.Machine.execParentLoss s
  | .noReferenceTimeout => Sys2Proof.Machine.execNoReferenceTimeout s
  | .portDownTimeout p => Sys2Proof.Machine.execPortDownTimeout p s
  | .lsStartTimeout => Sys2Proof.Machine.execLsStartTimeout s
  | .lsRestart f => Sys2Proof.Machine.execLsRestart f s
  | .lsReady f => Sys2Proof.Machine.execLsReady f s
  | .readyCheckDone => Sys2Proof.Machine.execReadyCheckDone s
  | .launch f => Sys2Proof.Machine.execLaunch f s
  | .launchPrepare => Sys2Proof.Machine.execLaunchPrepare s
  | .launchPrecharge => Sys2Proof.Machine.execLaunchPrecharge s
  | .launchTick => Sys2Proof.Machine.execLaunchTick s
  | .lsStop f => Sys2Proof.Machine.execLsStop f s
  | .agreeApply => Sys2Proof.Machine.execAgreeApply s
  | .slipStallBegin => Sys2Proof.Machine.execSlipStallBegin s
  | .slipStallEnd => Sys2Proof.Machine.execSlipStallEnd s
  | .traceArm f => Sys2Proof.Machine.execTraceArm f s
  | .traceStop f => Sys2Proof.Machine.execTraceStop f s
  | .traceTrigger samples => Sys2Proof.Machine.execTraceTrigger samples s
  | .traceDone samples => Sys2Proof.Machine.execTraceDone samples s
  | .fpllLossOfLock k => Sys2Proof.Machine.execFpllLossOfLock k s
  | .fpllLock k => Sys2Proof.Machine.execFpllLock k s
  | .vccoCheck bank millivolts reading => Sys2Proof.Machine.execVccoCheck bank millivolts reading s
  | .bramAccess r ram a b sameClock near => Sys2Proof.Machine.execBramAccess r ram a b sameClock near s
  | .seNop e => Sys2Proof.Machine.execSeNop e s
  | .seMac e => Sys2Proof.Machine.execSeMac e s
  | .seMsu e => Sys2Proof.Machine.execSeMsu e s
  | .seMpy e => Sys2Proof.Machine.execSeMpy e s
  | .seAdda e => Sys2Proof.Machine.execSeAdda e s
  | .seClra e => Sys2Proof.Machine.execSeClra e s
  | .seSha e => Sys2Proof.Machine.execSeSha e s
  | .seRda e => Sys2Proof.Machine.execSeRda e s
  | .seAdd e => Sys2Proof.Machine.execSeAdd e s
  | .seSub e => Sys2Proof.Machine.execSeSub e s
  | .seAnd e => Sys2Proof.Machine.execSeAnd e s
  | .seOr e => Sys2Proof.Machine.execSeOr e s
  | .seXor e => Sys2Proof.Machine.execSeXor e s
  | .seShf e => Sys2Proof.Machine.execSeShf e s
  | .seMin e => Sys2Proof.Machine.execSeMin e s
  | .seMax e => Sys2Proof.Machine.execSeMax e s
  | .seAbs e => Sys2Proof.Machine.execSeAbs e s
  | .seMov e => Sys2Proof.Machine.execSeMov e s
  | .seSt e => Sys2Proof.Machine.execSeSt e s
  | .seLdi e => Sys2Proof.Machine.execSeLdi e s
  | .seLdih e => Sys2Proof.Machine.execSeLdih e s
  | .seMovp e => Sys2Proof.Machine.execSeMovp e s
  | .seGetp e => Sys2Proof.Machine.execSeGetp e s
  | .seLoop e => Sys2Proof.Machine.execSeLoop e s
  | .seBr e dinValid doutReady => Sys2Proof.Machine.execSeBr e dinValid doutReady s
  | .seRti e => Sys2Proof.Machine.execSeRti e s
  | .seHalt e => Sys2Proof.Machine.execSeHalt e s
  | .seIn e => Sys2Proof.Machine.execSeIn e s
  | .seOut e => Sys2Proof.Machine.execSeOut e s
  | .seInHandshake e din => Sys2Proof.Machine.execSeInHandshake e din s
  | .seOutHandshake e => Sys2Proof.Machine.execSeOutHandshake e s
  | .seSetsr e => Sys2Proof.Machine.execSeSetsr e s
  | .seGetsr e => Sys2Proof.Machine.execSeGetsr e s
  | .seSetrot e => Sys2Proof.Machine.execSeSetrot e s
  | .seIllegalInstruction e => Sys2Proof.Machine.execSeIllegalInstruction e s
  | .seInterrupt e => Sys2Proof.Machine.execSeInterrupt e s
  | .seStart e => Sys2Proof.Machine.execSeStart e s
  | .seMemoryPortAccess e sel addr we wdata shared => Sys2Proof.Machine.execSeMemoryPortAccess e sel addr we wdata s shared
  | .slotWrite f => Sys2Proof.Machine.execSlotWrite f s
  | .slotWriteDone => Sys2Proof.Machine.execSlotWriteDone s
  | .cfgFullLoad f => Sys2Proof.Machine.execCfgFullLoad f s
  | .frameAssay answer => Sys2Proof.Machine.execFrameAssay answer s
  | .fabricGlobalStart millivolts => Sys2Proof.Machine.execFabricGlobalStart millivolts s
  | .plStart f => Sys2Proof.Machine.execPlStart f s
  | .plDrainEnd r => Sys2Proof.Machine.execPlDrainEnd r s
  | .regionStart r millivolts => Sys2Proof.Machine.execRegionStart r millivolts s
  | .scrubToBlankDone r => Sys2Proof.Machine.execScrubToBlankDone r s
  | .regionReset f => Sys2Proof.Machine.execRegionReset f s
  | .regionResetEnd r => Sys2Proof.Machine.execRegionResetEnd r s
  | .cfgScrubFrame found => Sys2Proof.Machine.execCfgScrubFrame found s
  | .inputPowerGood => Sys2Proof.Machine.execInputPowerGood s
  | .undervoltageLockout => Sys2Proof.Machine.execUndervoltageLockout s
  | .overvoltageLockout => Sys2Proof.Machine.execOvervoltageLockout s
  | .overvoltageRelease => Sys2Proof.Machine.execOvervoltageRelease s
  | .powerOnReset => Sys2Proof.Machine.execPowerOnReset s
  | .moduleStateStopped bootMs => Sys2Proof.Machine.execModuleStateStopped bootMs s
  | .moduleCmdStart f => Sys2Proof.Machine.execModuleCmdStart f s
  | .moduleCmdStop f => Sys2Proof.Machine.execModuleCmdStop f s
  | .coreReset f => Sys2Proof.Machine.execCoreReset f s
  | .warmReset f => Sys2Proof.Machine.execWarmReset f s
  | .powerCycle f => Sys2Proof.Machine.execPowerCycle f s
  | .powerReqWake f => Sys2Proof.Machine.execPowerReqWake f s
  | .powerReqS1 f => Sys2Proof.Machine.execPowerReqS1 f s
  | .powerReqS3 f => Sys2Proof.Machine.execPowerReqS3 f s
  | .powerReqS4 f => Sys2Proof.Machine.execPowerReqS4 f s
  | .s1Entry => Sys2Proof.Machine.execS1Entry s
  | .s1Exit => Sys2Proof.Machine.execS1Exit s
  | .domainOff f => Sys2Proof.Machine.execDomainOff f s
  | .domainSwitchOff d => Sys2Proof.Machine.execDomainSwitchOff d s
  | .domainPowerUpDone d => Sys2Proof.Machine.execDomainPowerUpDone d s
  | .wakeAtExpire => Sys2Proof.Machine.execWakeAtExpire s
  | .s3Wake => Sys2Proof.Machine.execS3Wake s
  | .sysrefLoss => Sys2Proof.Machine.execSysrefLoss s
  | .sysrefReturn => Sys2Proof.Machine.execSysrefReturn s
  | .gtcRefInLoss => Sys2Proof.Machine.execGtcRefInLoss s
  | .gtcRefInReturn => Sys2Proof.Machine.execGtcRefInReturn s
  | .governorPeriod g => Sys2Proof.Machine.execGovernorPeriod g s
  | .stepUpRailSettled => Sys2Proof.Machine.execStepUpRailSettled s
  | .throttle l => Sys2Proof.Machine.execThrottle l s
  | .throttleRelease => Sys2Proof.Machine.execThrottleRelease s
  | .trip l => Sys2Proof.Machine.execTrip l s
  | .tripRelease => Sys2Proof.Machine.execTripRelease s
  | .keyLoad f => Sys2Proof.Machine.execKeyLoad f s
  | .keyClear f => Sys2Proof.Machine.execKeyClear f s
  | .unseal f => Sys2Proof.Machine.execUnseal f s
  | .unsealStepDone => Sys2Proof.Machine.execUnsealStepDone s
  | .seal f => Sys2Proof.Machine.execSeal f s
  | .dbgStrapChange asserted => Sys2Proof.Machine.execDbgStrapChange asserted s
  | .bypass tdi => Sys2Proof.Machine.execBypass tdi s
  | .idcode => Sys2Proof.Machine.execIdcode s
  | .samplePreload pins => Sys2Proof.Machine.execSamplePreload pins s
  | .extest drive pins => Sys2Proof.Machine.execExtest drive pins s
  | .bdFrame frame => Sys2Proof.Machine.execBdFrame frame s
  | .bdMem isWrite addr data => Sys2Proof.Machine.execBdMem isWrite addr data s
  | .bdCore c t op => Sys2Proof.Machine.execBdCore c t op s
  | .bdStatus => Sys2Proof.Machine.execBdStatus s
  | .bdOwnerKey key check => Sys2Proof.Machine.execBdOwnerKey key check s
  | .cntSelWrite f => Sys2Proof.Machine.execCntSelWrite f s
  | .cntSelectApply => Sys2Proof.Machine.execCntSelectApply s
  | .cntClear f => Sys2Proof.Machine.execCntClear f s
  | .cntClearApply => Sys2Proof.Machine.execCntClearApply s
  | .sampleClear f => Sys2Proof.Machine.execSampleClear f s
  | .ledgerRecord => Sys2Proof.Machine.execLedgerRecord s
  | .criticalCopy => Sys2Proof.Machine.execCriticalCopy s
  | .ledgerFreeze f => Sys2Proof.Machine.execLedgerFreeze f s
  | .ledgerUnfreeze f => Sys2Proof.Machine.execLedgerUnfreeze f s
  | .ledgerFreezeLimit => Sys2Proof.Machine.execLedgerFreezeLimit s
  | .ledgerClear f => Sys2Proof.Machine.execLedgerClear f s
  | .calendarSet f => Sys2Proof.Machine.execCalendarSet f s
  | .neighbourSolicitation src target => Sys2Proof.Machine.execNeighbourSolicitation src target s
  | .echoRequest src dst payload => Sys2Proof.Machine.execEchoRequest src dst payload s
  | .pcieConfigWrite w => Sys2Proof.Machine.execPcieConfigWrite w s
  | .atsTranslationCompletion pasid iova sizeLog2 readable writable untranslated translated => Sys2Proof.Machine.execAtsTranslationCompletion pasid iova sizeLog2 readable writable untranslated s translated
  | .perstNDeassert => Sys2Proof.Machine.execPerstNDeassert s
  | .pcieLinkDown => Sys2Proof.Machine.execPcieLinkDown s
  | .recoveryRelock p => Sys2Proof.Machine.execRecoveryRelock p s
  | .eqWindowClose p => Sys2Proof.Machine.execEqWindowClose p s

end Sys2Proof.Machine
end

