-- ==== Sys2Proof/Machine/Idle.lean ====
section
/-! DEFINITION. What a step on an empty queue does: the global tick counter counts (R391), the tolls refill (R255), the network moves on
by one cycle (R313 to R316), the fabric's clocks have their edges (R436), and a frame slot passes on every port that drives frames
(R359). -/

namespace Sys2Proof.Machine

/-- R255: the refill of a core's toll bucket in cycle `cycle`. DESIGN CHOICE (log entry 2). -/
def tollRefill (rate cycle : Nat) (c : Core) : Core :=
  if cycle * rate % 1024 < rate then { c with stream := { c.stream with spent := c.stream.spent - 1 } } else c

/-- R255: every listed core's bucket refills; an unlisted core's is full. A core that is as after reset again is not listed.
DESIGN CHOICE (log entry 2). -/
def tollCores (rate cycle : Nat) (cores : List (Nat × Core)) : List (Nat × Core) :=
  (cores.map fun e => (e.1, tollRefill rate cycle e.2)).filter fun e => e.2 ≠ ({} : Core)

/-- R359, R365: a frame slot of a port in which no packet waits: an EMPTY frame, after the control frame that is due. DESIGN CHOICE (log
entry 91). -/
def slotTick (s : State) (p : Nat) : State := if sending (getPort s.links p) then emitEmpty s p false else s

/-- The number of a tile cycle as R255 counts it: from the launch tick in a lock-step run (R401). DESIGN CHOICE (log entry 2): GTC numbers
the cycles. -/
def tollCycle (s : State) : Nat := if dictGet s keyLsState = 5 then s.gtc.toNat - dictGet s keyLaunchTick else s.gtc.toNat

/-- A tile cycle and a network cycle: tolls come in, and flits move. Neither passes during the stall of a slip (R422). DESIGN CHOICE (log
entries 2 and 85). -/
def tileTick (s : State) : State :=
  if s.lockstep.stalled.isSome then s
  else { s with cores := tollCores (dictGet s keyTollRate) (tollCycle s) s.cores, net := netCycle s.fuses s.net }

/-- R392: GTC_REF_OUT rises at every count that is a multiple of 10. -/
def refOut (s : State) : State := if s.gtc.toNat % 10 = 0 then { s with out := s.out ++ [.gtcRefOut] } else s

/-- A step on an empty queue: a tile cycle, the fabric's edges, one frame slot of every port that drives frames, and GTC counts once.
DESIGN CHOICE (log entries 2, 60 and 91). -/
def idleTick (s : State) : State :=
  let s1 := (List.range 8).foldl slotTick (fabricTick (tileTick s))
  refOut { s1 with gtc := s1.gtc + 1 }

end Sys2Proof.Machine
end

