-- ==== Sys2Proof/Laws/Map.lean ====
section
/-! SUPPORT. What the sparse tables do: a read after a write, and the canonical form that every operation keeps. -/

namespace Sys2Proof.Machine

variable {α : Type}

theorem mapGet_mapDrop (d : α) (m : List (Nat × α)) (k j : Nat) :
    mapGet d (mapDrop m k) j = if j = k then d else mapGet d m j := by
  induction m with
  | nil => simp [mapDrop, mapGet]
  | cons e t ih =>
    obtain ⟨k', v⟩ := e
    by_cases h : k = k'
    · subst h; simp only [mapDrop, if_true, mapGet]; rw [ih]; split <;> rfl
    · simp only [mapDrop, h, if_false, mapGet]; rw [ih]
      by_cases hj : j = k'
      · subst hj; simp [Ne.symm h]
      · simp [hj]

theorem mapGet_mapInsert (d : α) (m : List (Nat × α)) (k j : Nat) (v : α) (hk : k ∉ m.map (·.1)) :
    mapGet d (mapInsert m k v) j = if j = k then v else mapGet d m j := by
  induction m with
  | nil => simp [mapInsert, mapGet]
  | cons e t ih =>
    obtain ⟨k', v'⟩ := e
    have h1 : k ≠ k' := by intro h; exact hk (by simp [h])
    have h2 : k ∉ t.map (·.1) := by intro h; exact hk (by simp at h ⊢; exact .inr h)
    by_cases h : k < k'
    · simp [mapInsert, h, mapGet]
    · simp only [mapInsert, h, if_false, mapGet]; rw [ih h2]
      by_cases hj : j = k'
      · subst hj; simp [Ne.symm h1]
      · simp [hj]

theorem mapDrop_fresh (m : List (Nat × α)) (k : Nat) : k ∉ (mapDrop m k).map (·.1) := by
  induction m with
  | nil => simp [mapDrop]
  | cons e t ih =>
    obtain ⟨k', v⟩ := e
    by_cases h : k = k'
    · simp only [mapDrop, h, if_true]; exact h ▸ ih
    · rw [mapDrop, if_neg h, List.map_cons, List.mem_cons, not_or]; exact ⟨h, ih⟩

/-- A read after a write gives what was written at its key, and what was there at every other key. -/
theorem mapGet_mapSet [DecidableEq α] (d : α) (m : List (Nat × α)) (k j : Nat) (v : α) :
    mapGet d (mapSet d m k v) j = if j = k then v else mapGet d m j := by
  unfold mapSet
  by_cases h : v = d
  · simp [h, mapGet_mapDrop]
  · simp only [h, if_false]
    rw [mapGet_mapInsert d _ k j v (mapDrop_fresh m k), mapGet_mapDrop]
    split <;> rfl

@[simp] theorem mapGet_mapSet_same [DecidableEq α] (d : α) (m : List (Nat × α)) (k : Nat) (v : α) : mapGet d (mapSet d m k v) k = v := by
  simp [mapGet_mapSet]

theorem mapGet_mapSet_other [DecidableEq α] (d : α) (m : List (Nat × α)) {k j : Nat} (v : α) (h : j ≠ k) :
    mapGet d (mapSet d m k v) j = mapGet d m j := by
  simp [mapGet_mapSet, h]

theorem mapGet_mapMod [DecidableEq α] (d : α) (m : List (Nat × α)) (k j : Nat) (f : α → α) :
    mapGet d (mapMod d m k f) j = if j = k then f (mapGet d m k) else mapGet d m j := by
  simp [mapMod, mapGet_mapSet]

theorem mapGet_mapSetAll [DecidableEq α] (d : α) (ks : List Nat) (m : List (Nat × α)) (v : α) (j : Nat) :
    mapGet d (mapSetAll d m ks v) j = if j ∈ ks then v else mapGet d m j := by
  unfold mapSetAll
  induction ks generalizing m with
  | nil => simp
  | cons k t ih =>
    simp only [List.foldl_cons, ih, mapGet_mapSet, List.mem_cons]
    by_cases h : j ∈ t <;> by_cases h2 : j = k <;> simp [h, h2]

/-- A write of consecutive keys gives each its value and leaves every other key as it was. -/
theorem mapGet_mapWrite [DecidableEq α] (d : α) (vs : List α) (m : List (Nat × α)) (k j : Nat) :
    mapGet d (mapWrite d m k vs) j = if h : k ≤ j ∧ j < k + vs.length then vs[j - k]'(by omega) else mapGet d m j := by
  induction vs generalizing m k with
  | nil => simp only [mapWrite, List.length_nil, Nat.add_zero]; rw [dif_neg]; omega
  | cons v t ih =>
    simp only [mapWrite, ih, mapGet_mapSet, List.length_cons]
    by_cases h : k + 1 ≤ j ∧ j < k + 1 + t.length
    · have h2 : k ≤ j ∧ j < k + (t.length + 1) := by omega
      rw [dif_pos h, dif_pos h2]
      have : j - k = (j - (k + 1)) + 1 := by omega
      simp [this]
    · rw [dif_neg h]
      by_cases hj : j = k
      · subst hj; simp
      · have h2 : ¬ (k ≤ j ∧ j < k + (t.length + 1)) := by omega
        rw [dif_neg h2, if_neg hj]

theorem mapRead_length (d : α) (m : List (Nat × α)) (k n : Nat) : (mapRead d m k n).length = n := by
  induction n generalizing k with
  | zero => rfl
  | succ n ih => simp [mapRead, ih]

theorem mapRead_getElem (d : α) (m : List (Nat × α)) (k n i : Nat) (h : i < n) :
    (mapRead d m k n)[i]'(by rw [mapRead_length]; exact h) = mapGet d m (k + i) := by
  induction n generalizing k i with
  | zero => omega
  | succ n ih =>
    cases i with
    | zero => simp [mapRead]
    | succ i =>
      have := ih (k + 1) i (by omega)
      simp only [mapRead, List.getElem_cons_succ]
      rw [this]; congr 1; omega

/-- What was written at consecutive keys reads back. -/
theorem mapRead_mapWrite [DecidableEq α] (d : α) (m : List (Nat × α)) (k : Nat) (vs : List α) :
    mapRead d (mapWrite d m k vs) k vs.length = vs := by
  apply List.ext_getElem
  · simp [mapRead_length]
  · intro i h1 h2
    rw [mapRead_getElem d _ k vs.length i h2, mapGet_mapWrite, dif_pos (by omega)]
    simp

/-! The canonical form. -/

theorem mapAbove_iff (k : Nat) (m : List (Nat × α)) : mapAbove k m = true ↔ ∀ e ∈ m, k < e.1 := by
  induction m with
  | nil => simp [mapAbove]
  | cons e t ih => obtain ⟨k', v⟩ := e; simp [mapAbove, ih]

theorem mapWf_iff [DecidableEq α] (d : α) (m : List (Nat × α)) :
    mapWf d m = true ↔ m.Pairwise (fun a b => a.1 < b.1) ∧ ∀ e ∈ m, e.2 ≠ d := by
  induction m with
  | nil => simp [mapWf]
  | cons e t ih =>
    obtain ⟨k, v⟩ := e
    simp only [mapWf, Bool.and_eq_true, mapAbove_iff, ih, List.pairwise_cons, List.mem_cons, forall_eq_or_imp, decide_eq_true_eq]
    tauto

theorem mapDrop_eq_filter (m : List (Nat × α)) (k : Nat) : mapDrop m k = m.filter fun e => e.1 ≠ k := by
  induction m with
  | nil => rfl
  | cons e t ih =>
    obtain ⟨k', v⟩ := e
    by_cases h : k = k'
    · subst h; simp [mapDrop, ih]
    · simp [mapDrop, h, ih, Ne.symm h]

/-- Entries taken out of a table leave it canonical. -/
theorem mapWf_filter [DecidableEq α] (d : α) (m : List (Nat × α)) (p : Nat × α → Bool) (h : mapWf d m) : mapWf d (m.filter p) := by
  rw [mapWf_iff] at h ⊢
  exact ⟨h.1.filter p, fun e he => h.2 e (List.mem_of_mem_filter he)⟩

theorem mapWf_mapDrop [DecidableEq α] (d : α) (m : List (Nat × α)) (k : Nat) (h : mapWf d m) : mapWf d (mapDrop m k) := by
  rw [mapDrop_eq_filter]; exact mapWf_filter d m _ h

theorem mem_mapInsert (m : List (Nat × α)) (k : Nat) (v : α) (e : Nat × α) : e ∈ mapInsert m k v ↔ e = (k, v) ∨ e ∈ m := by
  induction m with
  | nil => simp [mapInsert]
  | cons x t ih =>
    obtain ⟨k', v'⟩ := x
    by_cases h : k < k'
    · simp [mapInsert, h]
    · simp only [mapInsert, h, if_false, List.mem_cons, ih]; tauto

theorem mapInsert_sorted (m : List (Nat × α)) (k : Nat) (v : α) (hk : k ∉ m.map (·.1)) (h : m.Pairwise fun a b => a.1 < b.1) :
    (mapInsert m k v).Pairwise fun a b => a.1 < b.1 := by
  induction m with
  | nil => simp [mapInsert]
  | cons x t ih =>
    obtain ⟨k', v'⟩ := x
    have h1 : k ≠ k' := by intro e; exact hk (by simp [e])
    have h2 : k ∉ t.map (·.1) := by intro e; exact hk (by simp at e ⊢; exact .inr e)
    rw [List.pairwise_cons] at h
    by_cases hl : k < k'
    · rw [mapInsert, if_pos hl]
      simp only [List.pairwise_cons, List.mem_cons, forall_eq_or_imp]
      exact ⟨⟨hl, fun e he => Nat.lt_trans hl (h.1 e he)⟩, h.1, h.2⟩
    · simp only [mapInsert, hl, if_false, List.pairwise_cons]
      refine ⟨fun e he => ?_, ih h2 h.2⟩
      rcases (mem_mapInsert t k v e).1 he with rfl | he
      · show k' < k; omega
      · exact h.1 e he

/-- A write keeps the canonical form. -/
theorem mapWf_mapSet [DecidableEq α] (d : α) (m : List (Nat × α)) (k : Nat) (v : α) (h : mapWf d m) : mapWf d (mapSet d m k v) := by
  have h1 := mapWf_mapDrop d m k h
  unfold mapSet
  by_cases hv : v = d
  · simpa [hv] using h1
  · simp only [hv, if_false]
    rw [mapWf_iff] at h1 ⊢
    refine ⟨mapInsert_sorted _ k v (mapDrop_fresh m k) h1.1, fun e he => ?_⟩
    rcases (mem_mapInsert _ k v e).1 he with rfl | he
    · exact hv
    · exact h1.2 e he

theorem mapWf_mapMod [DecidableEq α] (d : α) (m : List (Nat × α)) (k : Nat) (f : α → α) (h : mapWf d m) : mapWf d (mapMod d m k f) :=
  mapWf_mapSet d m k _ h

theorem mapWf_mapSetAll [DecidableEq α] (d : α) (ks : List Nat) (m : List (Nat × α)) (v : α) (h : mapWf d m) : mapWf d (mapSetAll d m ks v) := by
  unfold mapSetAll
  induction ks generalizing m with
  | nil => exact h
  | cons k t ih => exact ih _ (mapWf_mapSet d m k v h)

theorem mapWf_mapWrite [DecidableEq α] (d : α) (vs : List α) (m : List (Nat × α)) (k : Nat) (h : mapWf d m) : mapWf d (mapWrite d m k vs) := by
  induction vs generalizing m k with
  | nil => exact h
  | cons v t ih => exact ih _ _ (mapWf_mapSet d m k v h)

theorem mapWf_mapAll [DecidableEq α] (d : α) (f : α → α) (m : List (Nat × α)) (h : mapWf d m) : mapWf d (mapAll d f m) := by
  rw [mapWf_iff] at h ⊢
  refine ⟨List.Pairwise.filter _ ((List.pairwise_map).2 (h.1.imp fun hab => hab)), fun e he => ?_⟩
  simpa using (List.mem_filter.1 he).2

end Sys2Proof.Machine
end

