-- ==== Sys2Proof/Safety.lean ====
section
/-! DEFINITION. What counts as a safe state and a safe step: a step that goes on; which parts of the state each command can touch
at all; and the canonical form of the memories the state holds, so that equal contents are equal data. -/

namespace Sys2Proof.Machine

/-- A step that answers a next state. -/
def goesOn (o : Host.Outcome State Fault Refusal) : Bool :=
  match o with
  | .next _ => true
  | .fault _ => false
  | .refused _ => false

/-! Parts of the state. -/

/-- The fields of the state. -/
inductive StatePart where
  | pending | out | free | gtc | fuses | straps | dict | cores | sampleInit | caravans | banks | queues | bar0 | pcie
  | net | links | lockstep | stacked | counters | ledger | epoch | calendarValid | power | fabric | sessions | mgmt | complex | security
deriving DecidableEq, Repr

/-- Every part. -/
def StatePart.all : List StatePart :=
  [.pending, .out, .free, .gtc, .fuses, .straps, .dict, .cores, .sampleInit, .caravans, .banks, .queues, .bar0, .pcie,
   .net, .links, .lockstep, .stacked, .counters, .ledger, .epoch, .calendarValid, .power, .fabric, .sessions, .mgmt, .complex, .security]

/-- Whether two states agree on a part. -/
def StatePart.same (s t : State) : StatePart → Prop
  | .pending => t.pending = s.pending
  | .out => t.out = s.out
  | .free => t.free = s.free
  | .gtc => t.gtc = s.gtc
  | .fuses => t.fuses = s.fuses
  | .straps => t.straps = s.straps
  | .dict => t.dict = s.dict
  | .cores => t.cores = s.cores
  | .sampleInit => t.sampleInit = s.sampleInit
  | .caravans => t.caravans = s.caravans
  | .banks => t.banks = s.banks
  | .queues => t.queues = s.queues
  | .bar0 => t.bar0 = s.bar0
  | .pcie => t.pcie = s.pcie
  | .net => t.net = s.net
  | .links => t.links = s.links
  | .lockstep => t.lockstep = s.lockstep
  | .stacked => t.stacked = s.stacked
  | .counters => t.counters = s.counters
  | .ledger => t.ledger = s.ledger
  | .epoch => t.epoch = s.epoch
  | .calendarValid => t.calendarValid = s.calendarValid
  | .power => t.power = s.power
  | .fabric => t.fabric = s.fabric
  | .sessions => t.sessions = s.sessions
  | .mgmt => t.mgmt = s.mgmt
  | .complex => t.complex = s.complex
  | .security => t.security = s.security

/-- Two states agree on every part that a list does not name. -/
def changesOnly (ps : List StatePart) (s t : State) : Prop := ∀ p : StatePart, p ∉ ps → p.same s t

/-- Two states hold the same value at every dictionary entry that a list does not name. -/
def dictOnly (keys : List Nat) (s t : State) : Prop := ∀ k, k ∉ keys → dictGet t k = dictGet s k

/-- Two states agree on every core but one. -/
def coreOnly (c : CoreId) (s t : State) : Prop := ∀ k, k ≠ c → getCore t k = getCore s k

/-- The parts of the state that a command can touch. No command touches the queue of the commands that wait, the fused values
(R25, R79, R515), or, but for the debug strap's own pin, the straps. -/
def touches : Instr → List StatePart
  | .discover _ =>
    [.out, .dict, .sessions]
  | .discoverReplyDelay =>
    [.out, .sessions]
  | .hello _ =>
    [.out, .free, .dict, .sessions]
  | .proof _ | .read _ | .keepalive _ | .close _ | .sessionIdleTimeout _ | .fbEnable _ | .mailboxEnable _ | .lsReady _
  | .powerReqS1 _ | .ledgerFreeze _ | .ledgerUnfreeze _ | .ledgerClear _ =>
    [.out, .dict, .bar0, .ledger, .sessions]
  | .authLockoutExpire _ | .handshakeExpire _ =>
    [.sessions]
  | .write _ | .mailboxRequest _ _ | .inputPowerGood | .undervoltageLockout | .overvoltageLockout
  | .overvoltageRelease | .powerOnReset | .powerCycle _ =>
    StatePart.all.filter fun p => p ≠ .pending && p ≠ .fuses && p ≠ .straps
  | .segRead _ =>
    [.out, .free, .dict, .bar0, .ledger, .sessions]
  | .segWrite _ | .keyLoad _ | .keyClear _ | .unseal _ | .seal _ =>
    [.out, .dict, .bar0, .ledger, .sessions, .security]
  | .mgmtMismatch _ =>
    [.out, .free, .dict, .bar0, .ledger, .sessions, .mgmt, .complex]
  | .mgmtRestartDone =>
    [.out, .dict, .bar0, .ledger, .mgmt, .complex]
  | .managementBoot =>
    [.out, .free, .dict, .bar0, .net, .links, .lockstep, .counters, .ledger, .fabric, .mgmt, .complex, .security]
  | .mma _ _ | .conv _ _ | .engineInjectEnd _ _ | .engineDrainEnd _ _ | .engineOutputMark _ _ | .seedLoadStart _ _
  | .seedLoadEnd _ _ | .add _ | .sub _ | .mul _ | .fma _ | .max _ | .min _ | .maxi _ | .mini _ | .scale _ | .abs _
  | .neg _ | .cvt _ | .quant _ | .cmp _ | .select _ | .copy _ | .fill _ | .rsum _ | .rmax _ | .rmin _ | .ramax _
  | .scalefind _ | .anchor _ | .wadd _ | .walign _ | .wexp _ | .wcvt _ | .vectorEnd _ | .gatherEnd _ _ =>
    [.out, .free, .dict, .cores, .bar0, .counters, .ledger]
  | .dummyWindowExpire _ _ | .dummyDensityStep _ _ | .warmupStart _ _ | .warmupEnd _ _ | .threadQuantum _
  | .mtipCompare _ _ | .interruptTake _ _ =>
    [.cores]
  | .bankRequestAged _ _ _ =>
    []
  | .gather _ _ | .gatherLineFill _ _ _ | .ccInstruction _ | .wfi _ | .mret _ | .fenceI _ | .cacheMissReturn _
  | .qdoneWriteDone _ =>
    [.out, .free, .dict, .cores, .queues, .bar0, .net, .counters, .ledger]
  | .xgrnPush _ | .xgrnStat _ | .xgrnHclrRetry _ | .xgrnHclrDiscard _ | .xgrnWopen _ | .xgrnRopen _ | .xgrnClose _
  | .xgrnRwait _ | .xgrnCvarm _ | .xgrnCvarmResume _ | .xgrnCvarmDiscard _ | .xgrnCvwait _ | .xgrnCvmark _
  | .xgrnQclaim _ | .xgrnQdone _ | .xgrnYield _ | .xgrnTstart _ | .xgrnTstop _ | .xgrnTsig _
  | .waitConditionObserved _ _ =>
    [.out, .free, .dict, .cores, .caravans, .banks, .queues, .bar0, .net, .stacked, .counters, .ledger]
  | .threadSelect _ =>
    [.cores, .counters]
  | .caravanStart _ =>
    [.free, .cores, .caravans, .banks, .net, .stacked, .counters]
  | .contextFetchDone _ =>
    [.free, .banks, .stacked, .counters]
  | .lineReadIssue _ _ =>
    [.cores, .caravans, .queues, .net, .counters]
  | .lineDataArrival _ _ _ =>
    [.out, .dict, .cores, .caravans, .bar0, .pcie, .net, .counters, .ledger]
  | .lineDeliver _ _ _ =>
    [.out, .dict, .cores, .caravans, .queues, .bar0, .pcie, .net, .stacked, .counters, .ledger]
  | .faultDrainEnd _ =>
    [.free, .caravans, .banks, .pcie, .stacked, .counters]
  | .caravanEnd _ =>
    [.out, .free, .dict, .cores, .caravans, .banks, .bar0, .stacked, .counters, .ledger]
  | .mcStragglerTimeout _ _ =>
    [.out, .dict, .cores, .caravans, .bar0, .net, .counters, .ledger]
  | .ringEnable _ _ _ | .ringDisable _ _ _ | .ringErrClear _ _ _ =>
    [.out, .dict, .queues, .bar0, .net, .counters, .ledger, .power]
  | .barRegisterWrite _ _ _ =>
    [.out, .dict, .queues, .bar0, .net, .stacked, .counters, .ledger, .power]
  | .bar0InvalidAccess _ _ _ =>
    [.out, .free, .dict, .bar0, .stacked, .counters, .ledger, .power]
  | .tailDb _ _ | .headDb _ _ =>
    [.out, .dict, .queues, .bar0, .ledger, .power]
  | .ringFetch _ =>
    [.queues, .net, .counters]
  | .ringFetchDone _ _ =>
    [.out, .free, .dict, .queues, .bar0, .net, .counters, .ledger]
  | .claimCopyDone _ =>
    [.out, .free, .dict, .cores, .queues, .bar0, .counters, .ledger]
  | .qmCompletionWrite | .forwardedEntryReceive _ _ _ _ _ =>
    [.queues, .bar0, .net, .counters]
  | .tailWriteback _ _ =>
    [.out, .dict, .queues, .bar0, .net, .counters, .ledger]
  | .msixSend _ =>
    [.out, .queues, .bar0]
  | .coalTimer _ =>
    [.queues]
  | .msixUnmask _ | .modEventEnable _ =>
    [.out, .bar0, .power]
  | .remoteForward _ =>
    [.out, .free, .queues, .net, .links, .counters]
  | .modEventClear _ | .ttDataLowLatch _ =>
    [.bar0, .power]
  | .ttDataWrite _ _ =>
    [.out, .queues, .bar0, .stacked, .counters, .power]
  | .translationDone _ =>
    [.out, .free, .dict, .cores, .caravans, .queues, .bar0, .pcie, .net, .links, .stacked, .counters, .ledger]
  | .bar2Read _ _ _ | .bar2Write _ _ _ =>
    [.out, .free, .dict, .queues, .bar0, .pcie, .net, .stacked, .counters, .ledger, .power]
  | .atsInvalidation _ _ _ | .perstNDeassert | .pcieLinkDown =>
    [.pcie]
  | .atsInvalidationComplete =>
    [.out, .pcie]
  | .pageRequestRaise =>
    [.out, .free, .caravans, .pcie]
  | .pageResponse _ _ =>
    [.free, .cores, .caravans, .banks, .pcie, .net, .stacked, .counters]
  | .moduleReset _ =>
    [.out, .dict, .cores, .sampleInit, .caravans, .banks, .queues, .bar0, .pcie, .net, .counters, .ledger, .power, .fabric, .sessions, .security]
  | .rd _ | .wr _ =>
    [.out, .free, .dict, .cores, .caravans, .bar0, .net, .links, .stacked, .counters, .ledger, .power]
  | .line _ | .holdReq _ =>
    [.out, .free, .dict, .cores, .bar0, .net, .links, .counters, .ledger]
  | .mcLine _ _ =>
    [.cores, .caravans, .net, .counters]
  | .rdData _ =>
    [.out, .free, .bar0, .pcie, .net, .links, .counters]
  | .wrAck _ =>
    [.out, .free, .dict, .cores, .caravans, .queues, .bar0, .pcie, .net, .links, .counters, .ledger]
  | .holdGrant _ _ =>
    [.out, .free, .dict, .cores, .caravans, .bar0, .pcie, .net, .links, .counters, .ledger]
  | .credit _ | .retry _ =>
    [.out, .free, .net, .links, .counters]
  | .retryResend _ | .urgencyAge _ | .bpResponse _ _ _ _ _ =>
    [.net, .counters]
  | .mgtRd _ =>
    [.free, .dict, .caravans, .net, .stacked, .counters, .power]
  | .mgtWr _ =>
    [.dict, .caravans, .net, .stacked, .counters, .power]
  | .mgtRsp _ =>
    [.net]
  | .bpRequestPresent _ _ =>
    [.out, .net]
  | .bpTimeout _ _ =>
    [.out, .dict, .bar0, .net, .counters, .ledger]
  | .smCommandIssue _ _ _ | .smAgePromote _ _ _ _ =>
    [.stacked, .counters]
  | .smReadData _ _ _ _ _ =>
    [.out, .free, .dict, .bar0, .net, .stacked, .counters, .ledger]
  | .refreshStop _ _ _ _ _ | .lsRefreshSlot _ _ =>
    [.out, .free, .dict, .bar0, .stacked, .counters, .ledger]
  | .towerTempReading _ _ _ =>
    [.out, .dict, .bar0, .stacked, .ledger]
  | .towerBootDone _ _ _ _ _ =>
    [.out, .dict, .bar0, .links, .lockstep, .stacked, .ledger]
  | .selfRefreshEntry _ | .selfRefreshExitDone _ =>
    [.stacked, .power]
  | .dataFrame _ _ _ _ | .recoveryRelock _ =>
    [.out, .free, .dict, .bar0, .links, .lockstep, .counters, .ledger]
  | .packetRelease _ =>
    [.out, .free, .dict, .queues, .bar0, .net, .links, .counters, .ledger, .power]
  | .replayTimeout _ =>
    [.out, .free, .dict, .links, .counters]
  | .frameAgeLimit _ | .blockLockLoss _ _ | .recovery _ | .idleExitTimeout _ =>
    [.out, .dict, .bar0, .links, .counters, .ledger]
  | .recoveryTimeout _ | .portTrainingStart _ | .trainingRetry _ =>
    [.out, .free, .links]
  | .nopBlock _ _ | .cntSelectApply | .cntClearApply =>
    [.counters]
  | .alignBlock _ _ | .gtcBlock _ _ | .statusBlock _ _ | .idleEnter _ _ =>
    [.links, .counters]
  | .eqBlock _ _ | .trainBlock _ _ | .elecIdleExit _ =>
    [.out, .free, .links, .counters]
  | .portTrainingDone _ _ =>
    [.out, .free, .dict, .caravans, .queues, .bar0, .pcie, .net, .links, .lockstep, .counters, .ledger]
  | .trainingTimeout _ | .cblPrsntChange _ _ =>
    [.out, .dict, .caravans, .queues, .bar0, .pcie, .net, .links, .counters, .ledger]
  | .eyeMarginReport _ _ _ =>
    [.free, .dict, .links]
  | .remoteTimeout _ _ =>
    [.net, .links, .counters]
  | .elecIdleEntry _ =>
    [.out, .links]
  | .portReset _ | .portEnable _ =>
    [.out, .dict, .caravans, .queues, .bar0, .pcie, .net, .links, .counters, .ledger, .sessions]
  | .disc _ _ | .discDone _ _ | .shape _ _ | .alignDone _ _ | .launchMessage _ _ | .request _ _ | .slip _ _ =>
    [.out, .dict, .bar0, .links, .lockstep, .counters, .ledger]
  | .arm _ _ | .fault _ _ =>
    [.dict, .links, .lockstep, .counters]
  | .ready _ _ =>
    [.links, .lockstep, .counters]
  | .agree _ _ =>
    [.out, .dict, .cores, .sampleInit, .caravans, .banks, .queues, .bar0, .pcie, .net, .links, .lockstep, .stacked, .counters, .ledger, .power]
  | .restart _ _ =>
    [.out, .dict, .cores, .sampleInit, .caravans, .banks, .queues, .bar0, .pcie, .net, .links, .lockstep, .stacked, .counters, .ledger]
  | .gtcAlignmentStart _ | .slipStallEnd =>
    [.lockstep]
  | .gtcAligned _ =>
    [.out, .gtc, .dict, .bar0, .links, .lockstep, .ledger, .epoch]
  | .parentLoss =>
    [.dict, .lockstep]
  | .noReferenceTimeout | .portDownTimeout _ | .lsStartTimeout | .slipStallBegin =>
    [.out, .dict, .bar0, .links, .lockstep, .ledger]
  | .lsRestart _ =>
    [.out, .dict, .cores, .sampleInit, .caravans, .banks, .queues, .bar0, .pcie, .net, .links, .lockstep, .stacked, .ledger, .sessions]
  | .readyCheckDone =>
    [.dict, .links, .lockstep]
  | .launch _ | .lsStop _ =>
    [.out, .dict, .bar0, .links, .lockstep, .ledger, .sessions]
  | .launchPrepare =>
    [.free, .cores, .sampleInit, .caravans, .banks, .queues, .pcie, .net, .lockstep, .stacked, .counters]
  | .launchPrecharge =>
    [.net, .lockstep, .stacked]
  | .launchTick =>
    [.dict, .cores, .lockstep]
  | .agreeApply =>
    [.out, .dict, .cores, .sampleInit, .caravans, .banks, .queues, .bar0, .pcie, .net, .links, .lockstep, .stacked, .ledger, .power]
  | .traceArm _ | .traceStop _ | .slotWrite _ =>
    [.out, .dict, .bar0, .ledger, .fabric, .sessions]
  | .traceTrigger _ | .traceDone _ =>
    [.free, .dict, .fabric]
  | .fpllLossOfLock _ | .ledgerFreezeLimit =>
    [.out, .dict, .bar0, .ledger]
  | .fpllLock _ | .moduleStateStopped _ =>
    [.dict]
  | .vccoCheck _ _ _ | .fabricGlobalStart _ | .regionStart _ _ | .scrubToBlankDone _ =>
    [.out, .dict, .bar0, .ledger, .fabric]
  | .bramAccess _ _ _ _ _ _ =>
    [.free, .fabric]
  | .seNop _ | .seMac _ | .seMsu _ | .seMpy _ | .seAdda _ | .seClra _ | .seSha _ | .seRda _ | .seAdd _ | .seSub _
  | .seAnd _ | .seOr _ | .seXor _ | .seShf _ | .seMin _ | .seMax _ | .seAbs _ | .seMov _ | .seSt _ | .seLdi _
  | .seLdih _ | .seMovp _ | .seGetp _ | .seLoop _ | .seBr _ _ _ | .seRti _ | .seHalt _ | .seIn _ | .seOut _
  | .seInHandshake _ _ | .seOutHandshake _ | .seSetsr _ | .seGetsr _ | .seSetrot _ | .seIllegalInstruction _
  | .seInterrupt _ | .seStart _ | .seMemoryPortAccess _ _ _ _ _ _ | .regionResetEnd _ =>
    [.fabric]
  | .slotWriteDone =>
    [.dict, .fabric]
  | .cfgFullLoad _ | .plStart _ =>
    [.out, .dict, .bar0, .net, .counters, .ledger, .fabric, .sessions]
  | .frameAssay _ =>
    [.out, .dict, .bar0, .net, .counters, .ledger, .fabric]
  | .plDrainEnd _ =>
    [.net, .counters, .fabric]
  | .regionReset _ =>
    [.out, .dict, .caravans, .bar0, .pcie, .net, .counters, .ledger, .fabric, .sessions]
  | .cfgScrubFrame _ =>
    [.out, .dict, .caravans, .bar0, .pcie, .net, .counters, .ledger, .fabric]
  | .moduleCmdStart _ =>
    [.out, .dict, .cores, .bar0, .ledger, .sessions]
  | .moduleCmdStop _ =>
    [.out, .dict, .cores, .sampleInit, .caravans, .banks, .queues, .bar0, .pcie, .net, .lockstep, .ledger, .sessions]
  | .coreReset _ =>
    [.out, .dict, .cores, .sampleInit, .caravans, .banks, .queues, .bar0, .pcie, .net, .ledger, .sessions]
  | .warmReset _ | .s3Wake =>
    [.out, .free, .dict, .cores, .sampleInit, .caravans, .banks, .queues, .bar0, .pcie, .net, .links, .lockstep, .stacked, .counters, .ledger, .power, .fabric, .sessions, .mgmt, .complex, .security]
  | .powerReqWake _ | .wakeAtExpire =>
    [.out, .dict, .bar0, .stacked, .ledger, .power, .sessions, .mgmt, .security]
  | .powerReqS3 _ =>
    [.out, .dict, .cores, .sampleInit, .caravans, .banks, .queues, .bar0, .pcie, .net, .links, .lockstep, .stacked, .counters, .ledger, .power, .sessions, .mgmt, .complex, .security]
  | .powerReqS4 _ | .trip _ =>
    [.out, .dict, .cores, .sampleInit, .caravans, .banks, .queues, .bar0, .pcie, .net, .links, .lockstep, .stacked, .counters, .ledger, .power, .fabric, .sessions, .mgmt, .complex, .security]
  | .s1Entry | .s1Exit | .domainPowerUpDone _ | .gtcRefInReturn | .tripRelease =>
    [.power]
  | .domainOff _ =>
    [.out, .dict, .bar0, .ledger, .power, .sessions]
  | .domainSwitchOff _ =>
    [.out, .dict, .cores, .caravans, .queues, .bar0, .pcie, .net, .links, .counters, .ledger, .power, .fabric]
  | .sysrefLoss | .gtcRefInLoss | .throttle _ =>
    [.out, .dict, .bar0, .ledger, .power]
  | .sysrefReturn | .stepUpRailSettled | .throttleRelease =>
    [.dict, .power]
  | .governorPeriod _ =>
    [.out, .dict, .bar0, .links, .lockstep, .ledger, .power, .fabric]
  | .unsealStepDone =>
    [.out, .dict, .cores, .sampleInit, .caravans, .banks, .queues, .bar0, .pcie, .net, .stacked, .counters, .ledger, .power, .fabric, .sessions, .security]
  | .dbgStrapChange _ =>
    [.straps, .security]
  | .bypass _ | .idcode =>
    [.out, .security]
  | .samplePreload _ | .extest _ _ | .bdStatus =>
    [.out, .dict, .security]
  | .bdFrame _ =>
    [.out, .dict, .bar0, .ledger, .fabric, .security]
  | .bdMem _ _ _ =>
    [.out, .free, .dict, .cores, .queues, .bar0, .stacked, .ledger, .security]
  | .bdCore _ _ _ =>
    [.out, .free, .dict, .cores, .bar0, .ledger, .security]
  | .bdOwnerKey _ _ =>
    [.out, .dict, .bar0, .ledger, .security]
  | .cntSelWrite _ | .cntClear _ =>
    [.out, .dict, .bar0, .counters, .ledger, .sessions]
  | .sampleClear _ =>
    [.out, .dict, .cores, .sampleInit, .bar0, .ledger, .sessions]
  | .ledgerRecord =>
    [.dict, .ledger]
  | .criticalCopy =>
    [.ledger]
  | .calendarSet _ =>
    [.out, .dict, .bar0, .ledger, .epoch, .calendarValid, .sessions]
  | .neighbourSolicitation _ _ | .echoRequest _ _ _ =>
    [.out]
  | .pcieConfigWrite _ =>
    [.out, .caravans, .bar0, .pcie]
  | .atsTranslationCompletion _ _ _ _ _ _ _ =>
    [.out, .pcie, .net, .counters]
  | .eqWindowClose _ =>
    [.links]

/-! Signal engines, in the terms of R458 to R475. -/

/-- The signal engine that a command names. -/
def seCommand : Instr → Option SeId
  | .seNop e | .seMac e | .seMsu e | .seMpy e | .seAdda e | .seClra e | .seSha e | .seRda e | .seAdd e | .seSub e | .seAnd e | .seOr e
  | .seXor e | .seShf e | .seMin e | .seMax e | .seAbs e | .seMov e | .seSt e | .seLdi e | .seLdih e | .seMovp e | .seGetp e | .seLoop e
  | .seBr e _ _ | .seRti e | .seHalt e | .seIn e | .seOut e | .seInHandshake e _ | .seOutHandshake e | .seSetsr e | .seGetsr e | .seSetrot e
  | .seIllegalInstruction e | .seInterrupt e | .seStart e | .seMemoryPortAccess e _ _ _ _ _ => some e
  | _ => none

/-- Two states agree on everything but one signal engine. -/
def engineOnly (e : SeId) (s t : State) : Prop :=
  changesOnly [.fabric] s t ∧ t.fabric = { s.fabric with engines := t.fabric.engines } ∧ ∀ k, k ≠ e.val → getSe t k = getSe s k

/-- An engine runs, waits for no handshake, has an instruction of a row at its address, and no access of its memory port shares the edge. -/
def seHas (s : State) (e : SeId) (op : SeOp) : Prop :=
  seRuns s e = true ∧ (getSe s e.val).wait = .none ∧ seDecode (getSe s e.val) = some op ∧ (getSe s e.val).port = none

/-- The instruction word at an engine's address. -/
def seWord (x : SigEngine) : Nat := (seFetch x).toNat

/-- R463: an integer brought into `w` bits: clamped under SAT, wrapped otherwise. -/
def intoRange (w : Nat) (sat : Bool) (v : Int) : Int :=
  if sat then max (-(2 : Int) ^ (w - 1)) (min ((2 : Int) ^ (w - 1) - 1) v) else v.bmod (2 ^ w)

/-- R463: an integer lies outside the range of `w` bits. -/
def outOfRange (w : Nat) (v : Int) : Bool := v < -(2 : Int) ^ (w - 1) || (2 : Int) ^ (w - 1) - 1 < v

/-- R465: SR's flags after a written result: Z and N follow it, a sticky bit that the range sets is set or kept, and the other bits
but for RRB stay. -/
def flagsAfter (x y : SigEngine) (zero neg : Bool) (sticky : Nat) (out : Bool) : Prop :=
  (seBank y).sr.getLsbD 4 = zero ∧ (seBank y).sr.getLsbD 5 = neg
    ∧ (seBank y).sr.getLsbD sticky = ((seBank x).sr.getLsbD sticky || out)
    ∧ ∀ i, i ≠ 4 → i ≠ 5 → i ≠ sticky → ¬ (10 ≤ i ∧ i ≤ 14) → (seBank y).sr.getLsbD i = (seBank x).sr.getLsbD i

/-- SR but for RRB stays. -/
def flagsKept (x y : SigEngine) : Prop := ∀ i, ¬ (10 ≤ i ∧ i ≤ 14) → (seBank y).sr.getLsbD i = (seBank x).sr.getLsbD i

/-- R461: each pointer that an operand names with POST has stepped, and every other pointer stays. -/
def pointersAfter (x y : SigEngine) (os : List SeOperand) : Prop :=
  ∀ k, mapGet 0 (seBank y).pointers k =
    if os.any (fun o => match o with | .mem b p true => sePointer b p = k | _ => false) then seStep (mapGet 0 (seBank x).pointers k)
    else mapGet 0 (seBank x).pointers k

/-- R468: the address of the next instruction in order: the next, or the loop-back. -/
def nextPc (x : SigEngine) : Nat :=
  if 1 < (seBank x).lc ∧ x.pc = (seBank x).le then (seBank x).ls else (x.pc + 1) % 1024

/-- What every instruction that only works on registers leaves: the memories, the bank, the halt cause, the ports. -/
def seFrame (x y : SigEngine) : Prop :=
  y.c = x.c ∧ y.inh = x.inh ∧ y.cause = x.cause ∧ y.wait = x.wait ∧ y.dout = x.dout ∧ y.rdata = x.rdata ∧ y.resume = x.resume
    ∧ (if x.inh then y.main = x.main else y.shadow = x.shadow)

/-- The data registers as a write of Dn leaves them (R470, R471). -/
def onlyRegister (x y : SigEngine) (n : Nat) (v : BitVec 24) : Prop :=
  y.d = (setSeReg x n v).d ∧ y.shadowD = (setSeReg x n v).shadowD

/-- R463, R465: what an accumulator instruction leaves: the selected accumulator holds `v` brought into 56 bits, with AOV; the
other accumulator, the registers and the data memories stay. -/
def accumulates (x y : SigEngine) (acc : Bool) (v : Int) (os : List SeOperand) : Prop :=
  (seAcc y acc).toInt = intoRange 56 (seSat x) v ∧ seAcc y (!acc) = seAcc x (!acc)
    ∧ flagsAfter x y (seAcc y acc = 0) (seAcc y acc).msb 6 (outOfRange 56 v)
    ∧ y.d = x.d ∧ y.shadowD = x.shadowD ∧ y.x = x.x ∧ y.y = x.y ∧ pointersAfter x y os ∧ y.pc = nextPc x ∧ seFrame x y

/-- R465: what an instruction with destination DST leaves: the register holds `v`, with SOV where it left its range; the
accumulators and the data memories stay. -/
def computes (x y : SigEngine) (v : BitVec 24) (out : Bool) (os : List SeOperand) : Prop :=
  onlyRegister x y (bits (seWord x) 8 5) v ∧ flagsAfter x y (v = 0) v.msb 7 out
    ∧ seAcc y false = seAcc x false ∧ seAcc y true = seAcc x true ∧ y.x = x.x ∧ y.y = x.y ∧ pointersAfter x y os ∧ y.pc = nextPc x ∧ seFrame x y

/-! The canonical form of the memories. -/

/-- Stacked memory is in its canonical form. -/
def canonicalStacked (s : State) : Prop := mapWf 0 s.stacked.bytes = true ∧ mapWf false s.stacked.poison = true

/-- The table of the cores and the memory of each core are in their canonical form. -/
def canonicalCores (s : State) : Prop :=
  mapWf {} s.cores = true
    ∧ ∀ e ∈ s.cores, mapWf 0 e.2.mem.bytes = true ∧ mapWf false e.2.mem.incomplete = true ∧ mapWf false e.2.mem.poison = true

/-! Requests, in the terms of R53 to R76 and R590. -/

/-- The request frames (R56), by opcode: the row's command for a frame. -/
def frameRows : List (Nat × (Frame → Instr)) :=
  [(0x01, .discover), (0x02, .hello), (0x03, .proof), (0x10, .read), (0x11, .write), (0x12, .segRead), (0x13, .segWrite), (0x14, .keepalive), (0x15, .close)]

/-- A frame that R55 does not drop. -/
def goodFrame (op : Nat) (f : Frame) : Prop := f.stray = false ∧ badFrame op f = false

/-- A frame of a session that its client sends from where the session opened (R68, R69). -/
def inSession (s : State) (op : Nat) (f : Frame) (x : Session) : Prop :=
  reachesServer s f.via false = true ∧ goodFrame op f
    ∧ (s.sessions.sessions.find? fun y => y.sid = f.sessionId && sameClient y.via f.via) = some x

/-- R66: the tag of a frame under a session's key. -/
def rightTag (x : Session) (op : Nat) (f : Frame) : Prop := f.tag = (hmac256 x.kTag (requestBytes op f)).take 16

/-- A request that is executed: the session's next, with the right tag (R66, R67). -/
def isNext (s : State) (op : Nat) (f : Frame) (x : Session) : Prop := inSession s op f x ∧ rightTag x op f ∧ f.seq = x.lastSeq + 1

/-- R54, R66, R67: the state once a request has been answered with a status and a body: the response is sent and stored with its
number, under the session's tag; `w` is the DOMAIN write the session is left with. -/
def answered (s : State) (x : Session) (op : Nat) (f : Frame) (status : Nat) (body : List Byte) (w : Option DomainWrite) : State :=
  let head := headerBytes (op + 0x80) x.sid.toNat f.seq.toNat body.length status ++ body
  let r := head ++ (hmac256 x.kTag head).take 16
  let note (y : Session) : Session := if y.sid = x.sid then { y with lastSeq := f.seq, response := some r, tagFails := 0, writing := w } else y
  { s with out := s.out ++ [.frame f.via r], sessions := { s.sessions with sessions := s.sessions.sessions.map note } }

/-- The session of a frame, told that its tag was right. -/
def tagAccepted (s : State) (x : Session) : State :=
  { s with sessions := { s.sessions with sessions := s.sessions.sessions.map fun y => if y.sid = x.sid then { y with tagFails := 0 } else y } }

/-- The entry that a request names, where the role of its session reaches it (R590, checks 1 to 3). -/
def reaches (s : State) (f : Frame) (x : Session) (write : Bool) (e : Entry) : Prop :=
  reachEntry s x.role (frameKey f / 256) (frameKey f % 256) write = .inr e

/-- A WRITE of `v` to entry `key` that passes every check of R590. -/
def acceptedWrite (s : State) (f : Frame) (x : Session) (e : Entry) (key v : Nat) : Prop :=
  isNext s 0x11 f x ∧ frameKey f = key ∧ reaches s f x true e ∧ e.type ≠ .domain ∧ leNat ((f.body.drop 3).take 1) = typeCode e.type
    ∧ (f.body.drop 4).length = typeSize e.type ∧ frameValue f = v ∧ valueOk s e key v = true ∧ stateOk s x.sid x.role e key v = true
    ∧ (e.persist = .stored ∨ key = keyKeyClear → f.storeFails = false)

/-- The state of an accepted WRITE once it has been answered, before its effect (R46, R56). -/
def writeAnswered (s : State) (f : Frame) (x : Session) : State := answered s x 0x11 f 0 (f.body.take 4) x.writing

/-- Sessions that pass a test close: they leave, and a freeze of the ledger that one of them held ends (R68, R564). -/
def sessionsClosed (s t : State) (p : Session → Bool) : Prop :=
  t.sessions = { s.sessions with sessions := s.sessions.sessions.filter fun x => !p x }
    ∧ changesOnly [.out, .dict, .bar0, .ledger, .sessions] s t
    ∧ ((∀ x ∈ s.sessions.sessions, p x = true → s.ledger.freeze ≠ some x.sid) → changesOnly [.sessions] s t)
    ∧ ((∃ x ∈ s.sessions.sessions, p x = true ∧ s.ledger.freeze = some x.sid) → t.ledger.freeze = none)

/-- What a ledger entry is to hold (R559), if the ledger records it. -/
def logs (s t : State) (sev : Fin 4) (code srcKind srcUnit data : Nat) : Prop :=
  dictGet s keyLedgerMinSev ≤ sev.val → s.ledger.freeze = none → s.ledger.queue.length < 256 →
    t.ledger.queue = s.ledger.queue ++ [{ seq := s.ledger.nextSeq, time := calendar s, sev := sev, copied := false, calSet := s.calendarValid
                                          srcKind := srcKind, srcUnit := srcUnit % 65536, code := code, data := data % 2 ^ 128 }]
      ∧ t.ledger.nextSeq = s.ledger.nextSeq + 1

/-! Engines, the vector unit and the gather engines. -/

/-- A hold that a unit's range keeps (R175). -/
def readHold (o : Owner) (p : Part) (r : Range) : Hold := { owner := o, write := false, part := p, range := r }

def writeHold (o : Owner) (p : Part) (r : Range) : Hold := { owner := o, write := true, part := p, range := r }

/-- What an operation of one core can touch beside that core: what it counts, logs, signals and samples. -/
def coreCommand (c : CoreId) (s t : State) : Prop :=
  coreOnly c s t ∧ changesOnly [.out, .free, .dict, .cores, .bar0, .counters, .ledger] s t

/-- Nothing has changed: not even a core. -/
def coresSame (s t : State) : Prop := changesOnly [.cores] s t ∧ ∀ k, getCore t k = getCore s k

/-- An operation of one core that logs nothing. -/
def quietCommand (c : CoreId) (s t : State) : Prop := coreOnly c s t ∧ changesOnly [.cores, .counters] s t

/-- R175: the range that a write hold covers has lost COMPLETE on each granule; the others keep their mark; bytes and poison stay. -/
def writeBegun (m n : CoreMem) (r : Range) : Prop :=
  (∀ g, granuleComplete n g = (granuleComplete m g && !rangeCovers r g)) ∧ n.bytes = m.bytes ∧ n.poison = m.poison

/-- R175, R157: rows written, and the range marked complete; every other granule keeps its mark. -/
def writeEnded (m n : CoreMem) (r : Range) (rows : List (Nat × List Byte)) : Prop :=
  n.bytes = rows.foldl (fun b x => mapWrite 0 b x.1 x.2) m.bytes
    ∧ ∀ g, granuleComplete n g = (granuleComplete m g || rangeCovers r g)

/-- R161, R190, R194: the rows that a unit writes for a descriptor that read poison: undefined bytes. -/
def undefinedRows (s : State) (r : Range) : List (Nat × List Byte) :=
  (List.range r.rows).map fun i => (r.base + i * r.pitch, (List.range r.rowBytes).map fun b => Config.freeByte (s.free + (i * r.rowBytes + b)))

/-- R189: what a start of the vector unit leaves: the descriptor runs with what it is to write, its sources are held for reading and
its destination for writing. -/
def vectorStarted (s t : State) (c : CoreId) (p : Posted) (rest : List Posted) (writes : List (Nat × List Byte)) : Prop :=
  let k := getCore s c
  let y := getCore t c
  let d := vectorDesc p.desc
  let rs := src1Range d ++ src2Range d ++ auxRange d
  y.vector = { k.vector with queue := rest, running := some { post := p, writes := writes, poisoned := rs.any (rangePoison k.mem), status := 0 } }
    ∧ y.mem.holds = k.mem.holds ++ rs.map (readHold .vector .whole) ++ [writeHold .vector .whole (dstRange d)]
    ∧ writeBegun k.mem y.mem (dstRange d) ∧ quietCommand c s t

/-- R183: the operations on elements: code, command, and the result of an element before its conversion. -/
def elementRows : List (Nat × (CoreId → Instr) × (VectorDesc → Num → Num → Num → Num)) :=
  [ (0x01, .add, fun _ x y _ => numAdd x y), (0x02, .sub, fun _ x y _ => numAdd x (numNegate y)), (0x03, .mul, fun _ x y _ => numMul x y)
  , (0x04, .fma, fun _ x y z => numAdd (numMul x y) z), (0x05, .max, fun _ x y _ => numMax x y), (0x06, .min, fun _ x y _ => numMin x y)
  , (0x07, .maxi, fun d x _ _ => numMax x (fp32Num d.imm)), (0x08, .mini, fun d x _ _ => numMin x (fp32Num d.imm))
  , (0x09, .scale, fun d x _ _ => numMul x (fp32Num d.imm)), (0x0A, .abs, fun _ x _ _ => numAbs x), (0x0B, .neg, fun _ x _ _ => numNegate x)
  , (0x0C, .cvt, fun _ x _ _ => x), (0x11, .fill, fun d _ _ _ => fp32Num d.imm) ]

/-- R183, R185: the operations that give one element per row. -/
def reductionRows : List (Nat × (CoreId → Instr) × (List Num → Num)) :=
  [ (0x20, .rsum, rowSum), (0x21, .rmax, fun x => x.foldl numMax .nan), (0x22, .rmin, fun x => x.foldl numMin .nan)
  , (0x23, .ramax, fun x => (x.map numAbs).foldl numMax .nan) ]

/-- What a gather engine can touch beside its core: requests for lines too. -/
def gatherCommand (c : CoreId) (s t : State) : Prop :=
  coreOnly c s t ∧ changesOnly [.out, .free, .dict, .cores, .queues, .bar0, .net, .counters, .ledger] s t

/-- R192: the elements that a gather writes lie apart from one another, and from its indexes and the bytes of its own core's memory
that it reads. -/
def gatherApart (m : CoreMem) (d : GatherDesc) : Prop :=
  0 < d.elem ∧ (1 < d.count → d.elem ≤ d.pitch)
    ∧ (∀ n < d.count * d.idxSize, rangeHasByte (gatherDstRange d) (d.idx + n) = false)
    ∧ ∀ n < d.count, ∀ b < d.elem, rangeHasByte (gatherDstRange d) (bits (gatherSource m d n) 0 22 + b) = false

/-- R231, R192: whether an element of a gather lies in the window and in the memory of its own core. -/
def gatherOwn (s : State) (c : CoreId) (d : GatherDesc) (n : Nat) : Prop :=
  let a := gatherSource (getCore s c).mem d n
  gatherInside d a = true ∧ ownSpace (sysAddr s) a / 2 ^ 22 = 2 ^ 38 + c.val

/-! Control cores. -/

/-- The core's active thread may issue, and its next instruction is `op`, of `len` bytes (R198, R202, R206). -/
def ccHas (s : State) (c : CoreId) (t : ThreadId) (op : CcOp) (len : Nat) : Prop :=
  issuing s c = some t ∧ (getThread s c t).stopping = false
    ∧ ∃ cache word, fetchAt (getThread s c t) (heldCache s false (getCc s c).icache) = .insn cache op len word

/-- A custom command, with the values of its two source registers (R208). -/
def xgrnHas (s : State) (c : CoreId) (t : ThreadId) (fn : Nat) (task : Bool) (rd : Nat) (a b : U64) : Prop :=
  ∃ rs1 rs2, ccHas s c t (.xgrn fn task rd rs1 rs2) 4 ∧ regGet (getThread s c t) rs1 = a ∧ regGet (getThread s c t) rs2 = b

/-- What a core's thread can touch beside its core. -/
def threadCommand (c : CoreId) (s t : State) : Prop :=
  coreOnly c s t ∧ changesOnly [.out, .free, .dict, .cores, .caravans, .banks, .queues, .bar0, .net, .stacked, .counters, .ledger] s t

/-- An instruction has retired: rd took a value, x0 takes none, the pc is at the next instruction, minstret has counted unless
mcountinhibit holds it; no other register changed. -/
def retired (x y : Thread) (rd : Nat) (v next : U64) : Prop :=
  y.pc = next ∧ (∀ r, regGet y r = if r = rd ∧ rd ≠ 0 then v else regGet x r) ∧ y.machine = x.machine ∧ y.issued = false
    ∧ y.csr = { x.csr with minstret := if x.csr.mcountinhibit.getLsbD 2 then x.csr.minstret else x.csr.minstret + 1 }

/-- R223, R225 with the machine level of RISC-V: a trap saves pc, cause and mtval, stacks the mode and the interrupt enable, turns
interrupts off, enters machine mode and goes to the handler; a vectored interrupt goes to its own entry. -/
def trapped (x y : Thread) (interrupt : Bool) (cause : Nat) (mtval : U64) : Prop :=
  y.pc = (x.csr.mtvec &&& ~~~(3 : U64)) + (if interrupt ∧ x.csr.mtvec.getLsbD 0 then BitVec.ofNat 64 (4 * cause) else 0)
    ∧ y.machine = true ∧ y.regs = x.regs ∧ y.issued = false
    ∧ y.csr.mepc = x.pc ∧ y.csr.mtval = mtval ∧ y.csr.mcause = BitVec.ofNat 64 (cause + if interrupt then 2 ^ 63 else 0)
    ∧ y.csr.mstatus.getLsbD 3 = false ∧ y.csr.mstatus.getLsbD 7 = x.csr.mstatus.getLsbD 3
    ∧ y.csr.mstatus.getLsbD 11 = x.machine ∧ y.csr.mstatus.getLsbD 12 = x.machine
    ∧ (∀ i, i ≠ 3 → i ≠ 7 → i ≠ 11 → i ≠ 12 → y.csr.mstatus.getLsbD i = x.csr.mstatus.getLsbD i)
    ∧ { y.csr with mstatus := 0, mepc := 0, mtval := 0, mcause := 0 } = { x.csr with mstatus := 0, mepc := 0, mtval := 0, mcause := 0 }

/-- The next state of a command of thread `t` in which it has retired. -/
def threadRetires (i : Instr) (s u : State) (c : CoreId) (t : ThreadId) (rd : Nat) (v next : U64) : Prop :=
  exec i s = .next u ∧ threadCommand c s u ∧ retired (getThread s c t) (getThread u c t) rd v next

/-- A load of `n` bytes that finds its lines in the data cache, permitted and not poisoned (R199, R222, R225). -/
def loadHits (s : State) (c : CoreId) (t : ThreadId) (a n : Nat) (atomic : Bool) (ls : List CacheLine) : Prop :=
  badByte (getThread s c t).csr (dataMode (getThread s c t)) a n .load atomic = none
    ∧ (∃ d, cacheLines (heldCache s true (getCore s c).cc.dcache) (linesOf a n) [] = .hit d ls) ∧ poisonByte (getCore s c).mem ls a n = none

/-- R178, R180: bytes stored in a core's memory; every other byte stays. -/
def stored (m n : CoreMem) (a : Nat) (bytes : List Byte) : Prop :=
  (∀ i, coreByte n i = if a ≤ i ∧ i < a + bytes.length then bytes.getD (i - a) 0 else coreByte m i)
    ∧ n.incomplete = m.incomplete ∧ n.holds = m.holds

/-- The custom command that a waiting thread keeps (R203): its code, rd and the numbers of its sources. -/
def decide32 (x : Thread) : Option (Nat × Nat × Nat × Nat) :=
  match decode32 x.word with
  | .xgrn fn _ rd rs1 rs2 => some (fn, rd, rs1, rs2)
  | _ => none

/-! Caravans. -/

/-- Every caravan but one is as it was. -/
def caravanOnly (v : CaravanId) (s t : State) : Prop := ∀ w : CaravanId, w ≠ v → getCv t w.val = getCv s w.val

/-- A request of a unit stands among those that have been sent and not yet finished. -/
def requested (t : State) (who : Requester) (write : Bool) (addr : Nat) (be : BitVec 128) (pasid : Option (BitVec 20)) : Prop :=
  ∃ q ∈ t.net.requests, q.who = who ∧ q.write = write ∧ q.addr = BitVec.ofNat 64 addr ∧ q.be = be ∧ q.pasid = pasid

/-- A caravan asks for a hold (R250): it waits at its own core, or has gone out as a request to another one. -/
def holdPlaced (t : State) (c : CoreId) (v : CaravanId) (core : Nat) (w : Bool) (p : Part) (r : Range) : Prop :=
  if core = c.val then { hold := { owner := .caravan v, write := w, part := p, range := r }, request := none } ∈ (getCore t c).mem.pendingHolds
  else ∃ q ∈ t.net.requests, q.who = .holdReq v core ∧ q.write = w

/-- The answer that a read or write of a unit has come to: the one it holds, or the host's for one that awaits the host. -/
def answeredBy (s : State) (who : Requester) (q : Request) (given a : ReadAnswer) : Prop :=
  requestOf s.net who = some q ∧ (q.state = .answered a ∨ (q.state = .host ∧ a = given))

/-- Who has everything that a line's turn to be read asks for, whatever the kind of read (R253, R254). -/
def lineMayRead (s : State) (x : Caravan) (line : Nat) : Prop :=
  let d := cvDesc x.desc
  let sys := sysAddr s
  let start := lineStart sys d line
  x.state = .running ∧ x.fault = none ∧ x.ending = none ∧ hasLine sys d line = true ∧ x.sourceHeld = true ∧ bufferedLines s x.core < 1024
    ∧ line ≤ windowBase x + 63 + d.pfDepth
    ∧ (d.regulated = true ∨ (start + lineLength sys d start - 1) / unitsPerElem d < x.markLimit)

/-- R253: a line that has been read, or is being read. -/
def lineRead (x : Caravan) (line : Nat) : Bool :=
  lineDelivered x line || (x.sent.any fun b => b.line = line) || (x.buffer.any fun b => b.line = line) || x.reads.any fun r => r.line = line

/-! Rings. -/

/-- Every ring but one is as it was. -/
def ringOnly (r : RingId) (s t : State) : Prop := ∀ k : RingId, k ≠ r → getRing t k.val = getRing s k.val

/-- R273: a ring context over which 4 or 8 bytes have been written at an offset, where EN is 0: its RW fields but EN and ERR take their bits. -/
def contextWritten (x : Ring) (r : RingId) (off : Nat) (size8 : Bool) (value : U64) : BitVec 512 :=
  let n := if size8 then 64 else 32
  let w := ringWritable r.val &&& BitVec.ofNat 512 ((2 ^ n - 1) <<< (8 * off))
  (x.ctx &&& ~~~w) ||| (BitVec.ofNat 512 ((value.toNat % 2 ^ n) <<< (8 * off)) &&& w)

/-- One field of a ring's context holds a value, and everything else of the ring is as it was. -/
def fieldWritten (x z : Ring) (lo n v : Nat) : Prop :=
  ringFld z lo n = v ∧ (∀ i, i < lo ∨ lo + n ≤ i → z.ctx.getLsbD i = x.ctx.getLsbD i) ∧ { z with ctx := 0 } = { x with ctx := 0 }

/-- R293: a ring stops with an error code: ERR and the code, bit 0 of MOD_EVENT, RING_ERR_FIRST where that bit was clear, and the entry. -/
def ringStopped (s t : State) (r : RingId) (code : Nat) : Prop :=
  ringErr (getRing t r.val) = true ∧ ringFld (getRing t r.val) 72 8 = code ∧ t.bar0.modEvent.getLsbD 0 = true
    ∧ t.bar0.ringErrFirst = (if s.bar0.modEvent.getLsbD 0 then s.bar0.ringErrFirst else BitVec.ofNat 14 r.val)
    ∧ logs s t 2 0x6009 5 r.val (packData [(8, code)])

/-- R289: MSI-X is enabled, and the function is not masked. -/
def msixOpen (s : State) : Bool := s.pcie.msixEnable && !s.pcie.functionMask

/-- R289: a vector is sent, or stays pending while it is masked. -/
def vectorSent (s t : State) (v : Nat) : Prop :=
  let e := mapGet {} s.bar0.msix v
  if e.control.getLsbD 0 = true ∨ msixOpen s = false then (mapGet {} t.bar0.msix v).pending = true ∧ t.out = s.out
  else t.bar0.msix = s.bar0.msix ∧ t.out = s.out ++ [.msix v e.addr e.data]

/-- A forwarded entry at the queue manager (R290, R364): its ring, sender, the sender's ring, index and bytes. -/
def forwardFlit (s : State) (r : RingId) (sender : BitVec 15) (senderRing : RingId) (index : Nat) (entry : List Byte) (g : Flight) : Bool :=
  let f := g.flit
  f.opcode = 0x02 && flitDst f = (7, 0, 1) && nodeKind f.srcX.val f.srcY.val = .askua
    && f.addr.toNat % 2 ^ 14 = r.val && bits f.addr.toNat 14 17 = index && f.payload.take 64 = entry
    && (getCorner s.links (f.srcX = 14)).inbound.any fun q =>
      q.tag = f.tag.toNat && q.sys = sender.toNat && q.remoteTag = senderRing.val

/-! The network. -/

/-- R312: a flit is the next of its stream at its destination; `n` is the network without it. -/
def arrives (s : State) (f : Flit) (n : Net) : Prop := takeFlit s.fuses s.net f = some n

/-- R166, R309: the first byte of the line of core memory that a flit names. -/
def flitLine (f : Flit) : Nat := f.addr.toNat % coreBytes / 128 * 128

/-- R178, R309: a flit's named bytes, and no others, are in core memory; marks and holds are as they were. -/
def flitWritten (m k : CoreMem) (base : Nat) (f : Flit) : Prop :=
  ∀ a, coreByte k a = if base ≤ a ∧ a < base + 128 ∧ f.byteEn.getLsbD (a - base) = true then f.payload.getD (a - base) 0 else coreByte m a

/-- R314: the receive entry of a STR flit goes back to its sender. -/
def credited (t : State) (s : State) (f : Flit) (c : CoreId) : Prop :=
  ∃ g ∈ t.net.flits, g.flit.opcode = 0x86 ∧ flitDst g.flit = flitSrc f ∧ flitSrc g.flit = coreEp s c.val ∧ leNat g.flit.payload = 1

/-- A response to a flit is on its way. -/
def respondedWith (t : State) (f : Flit) : Prop := ∃ g ∈ t.net.flits, g.flit = f

/-! Askua ports. -/

/-- R358: a control block whose CRC is right and whose TYPE is one of the table's. -/
def blockWhole (b : U64) : Prop := (crc8 (natBytes 7 b.toNat)).toNat = bits b.toNat 56 8 ∧ controlTypes.contains (bits b.toNat 0 8) = true

/-- R358: a control block of this module's of a type. -/
def ownBlock (type : Nat) (b : U64) : Prop := blockWhole b ∧ bits b.toNat 0 8 = type

/-- R361: a data frame that arrived whole: 31 blocks, with their CRC in the trailer. -/
def frameWhole (blocks : List U64) (trailer : U64) (blockError : Bool) : Prop :=
  blockError = false ∧ blocks.length = 31 ∧ frameTrailer blocks (trailer.toNat % 2 ^ 32) = trailer

/-- R363, R364: a packet whose fields fit the header and whose data is what its header announces. -/
def packetLegal (p : Packet) : Prop :=
  crosses p.opcode = true ∧ p.dstSys < 2 ^ 15 ∧ p.srcSys < 2 ^ 15 ∧ p.srcEp < 2 ^ 13 ∧ p.dstEp < 2 ^ 13 ∧ p.rspace < 4 ∧ p.vc < 2 ∧ p.tag < 2 ^ 14
    ∧ p.lenM1 < 4 ∧ p.addr < 2 ^ 39 ∧ (p.be.isSome = true → p.opcode = 0x01 ∨ p.opcode = 0x02 ∨ p.opcode = 0x03)
    ∧ p.data.length = 8 * (packetLengths p.opcode p.be.isSome p.err p.lenM1).2

/-- R375: a port has entered RECOVERY: its training burst is sent, and the entry names the cause. -/
def recovering (s t : State) (p : PortId) (cause : Nat) : Prop :=
  (getPort t.links p.val).state = .recovery ∧ (getPort t.links p.val).replays = 0 ∧ (getPort t.links p.val).unacked = (getPort s.links p.val).unacked
    ∧ .trainBurst p.val ∈ t.out ∧ logs s t 1 0x4001 3 p.val (packData [(8, cause)])

/-! Lock-step. -/

/-- R405, R406: a message that a port takes: whole, at a port that is UP, and not seen before. -/
def heard (s : State) (p : PortId) (m : LsMsg) (isFlood : Bool) : Prop :=
  m.whole = true ∧ portUp s p.val = true ∧ seqNew (mapGet none s.lockstep.seen (seenKey isFlood p.val m.orig.toNat)) m.seq.toNat = true

/-- R404, R406: a message has been put on a port, behind what waits there: 4 control frames of the port will carry each of its blocks, and
SLIP and FAULT go before other messages. -/
def messageSent (s t : State) (p msg parts seq data : Nat) : Prop :=
  let m : PortMessage := { blocks := messageBlocks msg parts seq data, copies := 4, urgent := msg = 0xA || msg = 0xB }
  p < 8 → ∃ a z, (getPort t.links p).messages = a ++ m :: z ∧ (getPort s.links p).messages <+: a

/-- R406: a flood that arrived has gone on by every other UP torus port. -/
def floodPassed (s t : State) (p : PortId) (m : LsMsg) (msg parts : Nat) : Prop :=
  ∀ o, o < 6 → o ≠ p.val → portUp s o = true → messageSent s t o msg parts m.seq.toNat m.data.toNat

/-- R413: the first fault a module detects: it enters FAULT, with the cause and its own name, and floods it
by every UP torus port. -/
def faultRaised (s t : State) (cause : Nat) : Prop :=
  dictGet t keyLsState = 6
    ∧ (dictGet s keyLsState ≠ 6 → dictGet t keyLsFaultCause = cause ∧ dictGet t keyLsFaultOrigin = ownOrig s
        ∧ ∀ o, o < 6 → portUp s o = true → messageSent s t o 0xB 1 s.lockstep.seq.toNat (ownOrig s + cause <<< 15))

/-- R418, R419, R519, R520: what an agreed change leaves: the clock step, the refresh rate, the toll rate, the scrub period, the windows of
the ports whose margin is low, or a program stopped at its tick, with the module armed again. -/
def agreedTaken (s t : State) (code value : Nat) : Prop :=
  let step := min value 7
  (code = 1 → t.power.step = step ∧ dictGet t keyClkStep = (if dictGet s keyThrottleActive = 1 then max step 4 else step))
    ∧ (code = 2 → t.stacked = { s.stacked with lowRate := decide (value = 1) })
    ∧ (code = 3 → dictGet t keyTollRate = value) ∧ (code = 4 → dictGet t keyScrubEvery = value)
    ∧ (code = 5 → ∀ p : PortId, portUp s p.val = true → dictGet s (portKey p.val 8) < dictGet s keyEqMarginMin → (getPort t.links p.val).eqWindow = true)
    ∧ (code = 6 → canonicalCores s → dictGet t keyModuleState = 1 ∧ dictGet t keyReadyStatus = 0 ∧ (dictGet s keyLsState = 5 → dictGet t keyLsState = 4)
        ∧ t.lockstep.ready = false ∧ t.net.floor = false ∧ ∀ c u, getThread t c u = {})

/-! The fabric, in the terms of R444 to R446, R455 and R477 to R501. -/

/-- R444 to R446: the word of a block RAM after an access of a port, and the bits that no write of it reaches. -/
def ramStored (x y : Ram) (p : RamPort) (a : RamAccess) : Prop :=
  let n := ramWidth a.mode.val
  ramRead y (ramBit a) n = (if ramWrites p a then ramData a else ramRead x (ramBit a) n)
    ∧ ∀ i, i < ramBit a ∨ ramBit a + n ≤ i → ramRead y i 1 = ramRead x i 1

/-- R444 to R446: the output latch of a port after an access over the contents of `x`, and the latch of the other port of `y`. -/
def ramDelivered (x y : Ram) (p : RamPort) (a : RamAccess) : Prop :=
  let w := ramRead x (ramBit a) (ramWidth a.mode.val)
  let latch (z : Ram) : Nat := match p with
    | .a => z.latchA
    | .b => z.latchB
  (a.mode.val ≠ 6 → a.write = false → latch y = w)
    ∧ (a.mode.val ≠ 6 → a.write = true → latch y = match a.own with
        | .writeFirst => ramData a
        | .readFirst => w
        | .noChange => latch x)
    ∧ (a.mode.val = 6 → a.write = true ∨ p = .a → latch y = latch x)
    ∧ (a.mode.val = 6 → a.write = false → p = .b → a.ecc = false → latch y = w)
    ∧ (a.mode.val = 6 → a.write = false → p = .b → a.ecc = true →
        latch y = (eccDecode w).data ∧ y.sbErr = (eccDecode w).single ∧ y.dbErr = (eccDecode w).double)

/-- An access of one port alone. -/
def ramAlone (x y : Ram) (p : RamPort) (a : RamAccess) : Prop :=
  ramStored x y p a ∧ ramDelivered x y p a
    ∧ (match p with
      | .a => y.latchB = x.latchB
      | .b => y.latchA = x.latchA)
    ∧ (¬ (a.mode.val = 6 ∧ a.ecc = true ∧ a.write = false ∧ p = .b) → y.sbErr = x.sbErr ∧ y.dbErr = x.dbErr)

/-- Only the trace buffer differs in the fabric of two states. -/
def traceOnly (s t : State) : Prop := t.fabric = { s.fabric with trace := t.fabric.trace }

/-- R455: `n` samples of a list taken after the first `count` of a capture: each stands at its place until 65,536 have followed it, and
every place that none took keeps what it held. -/
def samplesTaken (x y : Trace) (samples : List U32) (n : Nat) : Prop :=
  y.count = x.count + n
    ∧ (∀ i v, i < n → n ≤ i + 65536 → samples[i]? = some v → mapGet 0 y.samples ((x.count + i) % 65536) = v)
    ∧ ∀ p, (∀ i, i < n → (x.count + i) % 65536 ≠ p) → mapGet 0 y.samples p = mapGet 0 x.samples p

/-- R437, R441, R475, R496: a region runs, with its isolation released, its flip-flops and segment registers at INIT, and its block RAMs
and engines as its start gives. -/
def regionBegun (s t : State) (r : Nat) (load : Bool) : Prop :=
  (getRegion t r).code = .running ∧ (getRegion t r).isolated = false ∧ (getRegion t r).started = true ∧ (getRegion t r).pinsHeld = none
    ∧ (∀ b, b < 60 → mapGet {} t.fabric.rams (60 * r + b) =
        { lanes := if load then ramLanes s r b else (mapGet {} s.fabric.rams (60 * r + b)).lanes
          latchA := Config.latchInit (logicFrames s r) (2 * b), latchB := Config.latchInit (logicFrames s r) (2 * b + 1) })
    ∧ (∀ c k, c < 30720 → mapGet false t.fabric.flops (flopPlace r c k) = (flopDesign (Config.cellDesign (logicFrames s r) c) k).init)
    ∧ (∀ n, n < segmentTotal → mapGet false t.fabric.segs (segPlace r n) = (Config.segmentDesign (logicFrames s r) n).init)
    ∧ ∀ e, e < 24 →
        let x := getSe s (24 * r + e)
        let y := getSe t (24 * r + e)
        (y.x = if load then engineWords s r (4212 + 16 * e) 4 else x.x) ∧ (y.y = if load then engineWords s r (4216 + 16 * e) 4 else x.y)
          ∧ (y.c = if load then engineWords s r (4220 + 16 * e) 8 else x.c)
          ∧ y.cause = (if (controlField s r 80 24).testBit e then .running else .notStarted)
          ∧ y = { ({} : SigEngine) with x := y.x, y := y.y, c := y.c, cause := y.cause, rdata := x.rdata }

/-- R492, R493: a region is isolated, and a scrub to blank of it runs that leaves it `next`. -/
def scrubBegun (t : State) (r : Nat) (next : RegionCode) (failed : Option (Nat × Nat)) : Prop :=
  let x := getRegion t r
  x.code = .scrubbing ∧ x.isolated = true ∧ x.scrubTo = next ∧ x.failed = failed

/-- R489: the record of a full load's failure. -/
def fullLoadFailed (s t : State) (outcome place : Nat) : Prop :=
  dictGet t keyCfgLoadStatus = outcome ∧ dictGet t keyCfgLoadFrame = place ∧ dictGet t keyCfgLoadsFailed = sat32 (dictGet s keyCfgLoadsFailed + 1)
    ∧ ∀ r, r < 64 → (getRegion t r).isolated = true
        ∧ (∀ b, b < 60 → (mapGet {} t.fabric.rams (60 * r + b)) = {}) ∧ (∀ f, f < 4608 → cellBytes t (framePlace r f) = List.replicate 512 0)
        ∧ (∀ c k, c < 30720 → mapGet false t.fabric.flops (flopPlace r c k) = false)

/-! Power, limits, security and counters, in the terms of R502 to R586. -/

/-- R505, R513, R515: the module right after a power-on reset that found `s`: what is stored and fused, the straps, the cables and the
critical ring stand; the towers train, and everything else is as State.reset gives it. -/
def poweredOn (s t : State) (mode : PowerMode) : Prop :=
  (∀ k, dictGet t k = if entryPersist k = some .stored then dictGet s k else entryDefault k)
    ∧ t.pending = s.pending ∧ t.out = s.out ∧ t.fuses = s.fuses ∧ t.straps = s.straps ∧ t.security.keys = s.security.keys
    ∧ t.fabric = { State.reset.fabric with store := { s.fabric.store with job := none } }
    ∧ (∀ p, getPort t.links p = { ({} : Port) with cable := (getPort t.links p).cable } ∧ ((getPort s.links p).cable = true → (getPort t.links p).cable = true))
    ∧ t.cores = State.reset.cores ∧ t.stacked.bytes = [] ∧ t.stacked.poison = [] ∧ t.complex = State.reset.complex
    ∧ (∀ k, k < 8 → getTower t.stacked k = if mode = .on then { state := .training } else {}) ∧ t.caravans = State.reset.caravans ∧ t.queues = State.reset.queues
    ∧ t.bar0 = State.reset.bar0 ∧ t.net = State.reset.net ∧ t.counters = State.reset.counters ∧ t.sessions = State.reset.sessions
    ∧ t.gtc = 0 ∧ t.calendarValid = false ∧ t.mgmt = .standby ∧ t.power.mode = mode ∧ t.power.off = 0
    ∧ t.ledger.queue = [] ∧ t.ledger.held = [] ∧ t.ledger.nextSeq = 0 ∧ t.ledger.freeze = none

/-- R68: no session and no pending handshake is left. -/
def sessionsGone (t : State) : Prop := t.sessions.sessions = [] ∧ t.sessions.handshakes = []

/-- R509: the domain of `t` is as in `s` but that `d` is on or off; the others keep theirs. -/
def domainTurned (s t : State) (d : DomainId) (off : Bool) : Prop :=
  t.power.off.getLsbD d.val = off ∧ ∀ k, k ≠ d.val → t.power.off.getLsbD k = s.power.off.getLsbD k

/-- R533: the TAP answers a disabled instruction as BYPASS. -/
def tapSilent (s t : State) : Prop :=
  t = { s with out := s.out ++ [.tdo 1 0], security := { s.security with bypass := false, extest := false } }

/-- R533, R535: what a BD instruction of the enabled TAP starts from: the pins are the design's, and a run's cycle-match is broken. -/
def tapEntered (s : State) : State :=
  let s1 := { s with security := { s.security with extest := false } }
  if dictGet s keyLsState = 5 ∧ dictGet s keyRunCm = 1 then dictSet (dictSet s1 keyRunCm 0) keyRunCmCause 6 else s1

/-! Commands that are a WRITE or SEG_WRITE of one entry. -/

/-- R75: a SEG_WRITE of a whole DOMAIN in one segment that its session may begin; `blob` is what it carries. -/
def wholeDomain (s : State) (f : Frame) (x : Session) (e : Entry) (key : Nat) (blob : List Byte) : Prop :=
  isNext s 0x13 f x ∧ frameKey f = key ∧ reaches s f x true e ∧ e.type = .domain ∧ x.writing = none ∧ f.body.drop 12 = blob
    ∧ (∀ y ∈ s.sessions.sessions, y.sid ≠ x.sid → ∀ w, y.writing = some w → w.key ≠ key)
    ∧ leNat ((f.body.drop 3).take 1) % 4 = 3 ∧ leNat ((f.body.drop 4).take 4) = 0 ∧ leNat ((f.body.drop 8).take 4) = blob.length

/-- R162, R171, R221, R226, R265, R513: what a core-array reset leaves: threads and units as at power-on, core memory's contents and marks,
no hold, no caravan. -/
def coresReset (s t : State) : Prop :=
  (∀ c : CoreId, (getCore t c).mem = { (getCore s c).mem with holds := [], pendingHolds := [], foreign := [] }
      ∧ (getCore t c).engines = [] ∧ (getCore t c).gathers = [] ∧ (getCore t c).vector = {})
    ∧ t.caravans = [] ∧ ∀ r : RingId, (getRing t r.val).claims = []

/-- R226: thread 0 of each powered core is READY at the entry point, in M mode; every other thread is as at power-on. -/
def programBegun (s t : State) : Prop :=
  ∀ (c : CoreId) (h : ThreadId), getThread t c h = if h.val = 0 ∧ coreOff s c.val = false then
      { ({} : Thread) with pc := BitVec.ofNat 64 (2 ^ 32 + dictGet s keyCcEntry), machine := true, state := .ready }
    else {}

end Sys2Proof.Machine
end

