-- ==== Sys2Proof/Certificates/Slice0/Obligations.lean ====
section
/-! DEFINITION. The statements for the provers. A statement of several parts is the conjunction of its `Claims`. -/

open Sys2Proof Sys2Proof.Machine

/-- The command at the front of the queue is run, on the queue's rest. Where the spec leaves a point open, this rests on the model's choices: log entry 1. -/
def Obligations.StepRunsFront : Prop :=
  ∀ (c : Instr) (rest : List Instr) (s : State), step { s with pending := c :: rest } = exec c { s with pending := rest }

/-- On an empty queue time passes; what passes in it is the model's own choice (log entries 2, 60, 85 and 91). The global tick counter
counts once, the tolls of R255 come in and the network has a cycle, but for the stall of a slip (R422); regions whose clocks do not
run keep their flip-flops, ports that drive no frames stay as they are, and GTC_REF_OUT rises at each multiple of 10 (R392). Where the spec leaves a point open, this rests on the model's choices: log entries 2, 60, 85, 91. -/
def Obligations.IdleStep : Prop :=
  ∀ s : State, s.pending = [] → canonicalCores s → ∃ t, step s = .next t ∧ t.gtc = s.gtc + 1
    ∧ changesOnly [.out, .free, .gtc, .cores, .net, .links, .fabric] s t
    ∧ (s.lockstep.stalled.isSome = true → t.cores = s.cores ∧ t.net = s.net)
    ∧ (s.lockstep.stalled = none → t.net.cycle = s.net.cycle + 1 ∧ ∀ c : CoreId, getCore t c = { getCore s c with
        stream := { (getCore s c).stream with
          spent := if tollCycle s * dictGet s keyTollRate % 1024 < dictGet s keyTollRate then (getCore s c).stream.spent - 1
                   else (getCore s c).stream.spent } })
    ∧ ((∀ r : RegionId, regionClocked s r.val = false) → t.fabric = s.fabric ∧ t.free = s.free)
    ∧ ((∀ p : PortId, sending (getPort s.links p.val) = false) → t.links = s.links
        ∧ t.out = s.out ++ if t.gtc.toNat % 10 = 0 then [.gtcRefOut] else [])

/-- Every command answers a next state, and leaves every part of the state alone but those that `touches` gives it: the frame of
every command of the block. Where the spec leaves a point open, this rests on the model's choices: log entry 5. -/
def Obligations.CommandsTouch : Prop :=
  ∀ (c : Instr) (s : State), ∃ t, exec c s = .next t ∧ changesOnly (touches c) s t

/-- No command but those that reset or power the always-on island, a CALENDAR_SET, and a WRITE or a mailbox request that may carry
one, makes calendar time jump (R395, R560). -/
def Sys2Proof.Claims.CalendarDoesNotJump : Prop :=
  ∀ (c : Instr) (s t : State), exec c s = .next t →
    (∀ f, c ≠ .calendarSet f ∧ c ≠ .write f ∧ c ≠ .powerCycle f) → (∀ e b, c ≠ .mailboxRequest e b) →
    c ≠ .inputPowerGood → c ≠ .undervoltageLockout → c ≠ .overvoltageLockout → c ≠ .overvoltageRelease → c ≠ .powerOnReset →
    calendar t = calendar s

/-- No command touches a fused value (R25, R79, R515), and only a change of the debug strap's pin touches a strap (R571, R572). -/
def Sys2Proof.Claims.FusesAndStrapsStay : Prop :=
  ∀ (c : Instr) (s t : State), exec c s = .next t →
    t.fuses = s.fuses ∧ t.straps.anchor = s.straps.anchor ∧ t.straps.pulldown = s.straps.pulldown
      ∧ ((∀ a, c ≠ .dbgStrapChange a) → t.straps.debug = s.straps.debug)

/-- Calendar time, the fused values and the straps change only by the commands that may change them. -/
def Obligations.TimeAndFusesStay : Prop := Claims.CalendarDoesNotJump ∧ Claims.FusesAndStrapsStay

/-- Stacked memory keeps its canonical form under every command: equal contents are equal data. -/
def Sys2Proof.Claims.StackedMemoryCanonical : Prop :=
  ∀ (c : Instr) (s t : State), canonicalStacked s → exec c s = .next t → canonicalStacked t

/-- The cores and the memory of each core keep their canonical form under every step. -/
def Sys2Proof.Claims.CoreMemoryCanonical : Prop :=
  ∀ s t : State, canonicalCores s → step s = .next t → canonicalCores t

/-- Stacked memory and core memory keep their canonical form under every command and step. -/
def Obligations.MemoriesStayCanonical : Prop := Claims.StackedMemoryCanonical ∧ Claims.CoreMemoryCanonical

/-- Reset leaves the module with no command, no frame sent, every entry of the dictionary at its default, memories empty and
canonical, every thread IDLE, no session, ring and caravan disabled, GTC and the ledger's SEQ at 0 (R505, R513, R515); the choice
of zero for what the spec leaves open is the model's (log entry 3). -/
def Obligations.ResetState : Prop :=
  let s := State.reset
  s.pending = [] ∧ s.out = [] ∧ s.gtc = 0 ∧ canonicalStacked s ∧ canonicalCores s
    ∧ (∀ key, dictGet s key = entryDefault key)
    ∧ (∀ c t, (getThread s c t).state = .idle ∧ (getCore s c).mem = {})
    ∧ (∀ r : RingId, ringEn (getRing s r.val) = false ∧ ringErr (getRing s r.val) = false)
    ∧ (∀ v : CaravanId, (getCv s v.val).state = .free)
    ∧ (∀ p : PortId, (getPort s.links p.val).state = .down)
    ∧ (∀ e : SeId, (getSe s e.val).cause = .notStarted)
    ∧ s.sessions.sessions = [] ∧ s.sessions.handshakes = [] ∧ s.ledger.nextSeq = 0 ∧ s.ledger.held = [] ∧ s.calendarValid = false
    ∧ s.power.mode = .on ∧ s.power.off = 0 ∧ s.mgmt = .standby

/-- R53 to R58: a frame that does not reach the server leaves everything as it is; one that R55 drops, and a datagram that is no
frame of the row, are counted in BAD_FRAMES, and nothing answers them. -/
def Sys2Proof.Claims.FramesDropped : Prop :=
  ∀ (s : State) (f : Frame), ∀ row ∈ frameRows,
    (reachesServer s f.via (row.1 = 0x01) = false → exec (row.2 f) s = .next s)
    ∧ (reachesServer s f.via (row.1 = 0x01) = true → f.stray = true ∨ badFrame row.1 f = true →
        ∃ t, exec (row.2 f) s = .next t ∧ dictGet t keyBadFrames = sat32 (dictGet s keyBadFrames + 1) ∧ dictOnly [keyBadFrames] s t
          ∧ changesOnly [.dict] s t)

/-- R55: each of its conditions drops a frame of every opcode. -/
def Sys2Proof.Claims.BadFrameConditions : Prop :=
  ∀ (f : Frame), ∀ row ∈ frameRows,
    f.magic ≠ 0xB15A ∨ f.version ≠ 1 ∨ f.rsv ≠ 0 ∨ f.body.length ≠ f.bodyLen.toNat ∨ f.status ≠ 0
        ∨ (f.tag.length ≠ if 0x10 ≤ row.1 then 16 else 0) →
      badFrame row.1 f = true

/-- Frames that do not reach the server, and frames that are dropped and counted. Where the spec leaves a point open, this rests on the model's choices: log entries 74, 82, 88. -/
def Obligations.FramesDropped : Prop := Claims.FramesDropped ∧ Claims.BadFrameConditions

/-- R56, R59: a DISCOVER on the field bus waits for its delay; the one that has waited longest is then answered, with the serial
number, the module's state and its power state, without a session. By the mailbox it is answered at once. -/
def Sys2Proof.Claims.Discovery : Prop :=
  ∀ (s : State) (f : Frame) (v : Via) (rest : List Via),
    let reply (v : Via) : Out := .frame v ([0x5A, 0xB1, 0x01, 0x81] ++ List.replicate 12 0 ++ [12, 0, 0, 0, 0, 0, 0, 0]
      ++ natBytes 8 (dictGet s keySerial) ++ natBytes 1 (dictGet s keyModuleState) ++ natBytes 1 (powerState s) ++ [0, 0])
    (reachesServer s f.via true = true → goodFrame 0x01 f → f.via ≠ .mailbox → exec (.discover f) s
        = .next { s with sessions := { s.sessions with discovers := s.sessions.discovers ++ [f.via] } })
    ∧ (reachesServer s f.via true = true → goodFrame 0x01 f → f.via = .mailbox →
        exec (.discover f) s = .next { s with out := s.out ++ [reply f.via] })
    ∧ (s.sessions.discovers = v :: rest → reachesServer s v true = true → exec .discoverReplyDelay s
        = .next { s with out := s.out ++ [reply v], sessions := { s.sessions with discovers := rest } })

/-- R63, R70, R71: a HELLO for a role that has a key, is not locked out and finds room opens a handshake under an identifier that
names no other, and is answered with it, with a nonce and the serial number; any other is answered with its status, and changes
nothing. The identifier and the nonce are free values. -/
def Sys2Proof.Claims.Hello : Prop :=
  ∀ (s : State) (f : Frame), reachesServer s f.via false = true → goodFrame 0x02 f →
    let role := leNat (f.body.take 1)
    let refused (status : Byte) : Prop := exec (.hello f) s = .next { s with out := s.out ++ [.frame f.via
      ([0x5A, 0xB1, 0x01, 0x82] ++ List.replicate 14 0 ++ [status, 0, 0, 0, 0, 0])] }
    let held := s.sessions.sessions.length + s.sessions.handshakes.length
    (role = 0 ∨ 3 < role → refused 0x08)
    ∧ (1 ≤ role → role ≤ 3 → dictGet s keyDebugState = 1 ∨ roleKey s role = none → refused 0x0F)
    ∧ (1 ≤ role → role ≤ 3 → dictGet s keyDebugState ≠ 1 → roleKey s role ≠ none → mapGet false s.sessions.locked role = true →
        refused 0x0E)
    ∧ (1 ≤ role → role ≤ 3 → dictGet s keyDebugState ≠ 1 → roleKey s role ≠ none → mapGet false s.sessions.locked role = false →
        sessionLimit s ≤ held → refused 0x10)
    ∧ (1 ≤ role → role ≤ 3 → dictGet s keyDebugState ≠ 1 → roleKey s role ≠ none → mapGet false s.sessions.locked role = false →
        held < sessionLimit s →
        ∃ t sid nonce, exec (.hello f) s = .next t ∧ nonce.length = 16 ∧ sid ≠ 0 ∧ sidHeld s sid.toNat = false
          ∧ t.sessions = { s.sessions with handshakes := s.sessions.handshakes
              ++ [{ sid := sid, role := role, via := f.via, clientNonce := (f.body.drop 4).take 16, deviceNonce := nonce }] }
          ∧ t.out = s.out ++ [.frame f.via ([0x5A, 0xB1, 0x01, 0x82] ++ natBytes 4 sid.toNat ++ List.replicate 8 0 ++ [24, 0, 0, 0, 0, 0, 0, 0]
              ++ nonce ++ natBytes 8 (dictGet s keySerial))]
          ∧ changesOnly [.out, .free, .sessions] s t)

/-- R63 to R65, R69, R71: a PROOF under the role's key ends its handshake and opens its session with the two derived keys, and is
answered with the module's own proof; a wrong one ends the handshake, is answered AUTH_FAILED and counted, and the fourth in a row
locks the role out; one that names no handshake of its client is answered NO_SESSION. -/
def Sys2Proof.Claims.Proof : Prop :=
  ∀ (s : State) (f : Frame), reachesServer s f.via false = true → goodFrame 0x03 f →
    let named := s.sessions.handshakes.find? fun h => h.sid = f.sessionId && sameClient h.via f.via
    let left (h : Handshake) := s.sessions.handshakes.filter fun y => y.sid ≠ h.sid
    let serial := natBytes 8 (dictGet s keySerial)
    let head (n : Nat) (status : Byte) : List Byte :=
      [0x5A, 0xB1, 0x01, 0x83] ++ natBytes 4 f.sessionId.toNat ++ List.replicate 8 0 ++ natBytes 2 n ++ [status, 0, 0, 0, 0, 0]
    let m (label : String) (h : Handshake) : List Byte :=
      asciiBytes label ++ natBytes 1 h.role ++ natBytes 4 h.sid.toNat ++ h.clientNonce ++ h.deviceNonce ++ serial
    let derived (label : String) (h : Handshake) (k : List Byte) : List Byte :=
      hkdf256 k (h.clientNonce ++ h.deviceNonce) (asciiBytes label ++ natBytes 4 h.sid.toNat ++ serial)
    (named = none → exec (.proof f) s = .next { s with out := s.out ++ [.frame f.via (head 0 0x11)] })
    ∧ (∀ h k, named = some h → roleKey s h.role = some k → f.body = hmac256 k (m "RLOC" h) → ∃ t, exec (.proof f) s = .next t
        ∧ t.sessions = { s.sessions with
            handshakes := left h, authFails := mapSet 0 s.sessions.authFails h.role 0
            sessions := s.sessions.sessions ++ [{ sid := h.sid, role := h.role, via := h.via, kTag := derived "reolo-tag" h k
                                                  kWrap := derived "reolo-wrap" h k }] }
        ∧ t.out.getLast? = some (.frame f.via (head 32 0 ++ hmac256 k (m "RLOD" h)))
        ∧ (h.role ≠ 3 → changesOnly [.out, .sessions] s t)
        ∧ (h.role = 3 → logs s t 1 0x0202 6 h.sid.toNat (if h.via = .mailbox then 1 else 0)))
    ∧ (∀ h, named = some h → (∀ k, roleKey s h.role = some k → f.body ≠ hmac256 k (m "RLOC" h)) → ∃ t, exec (.proof f) s = .next t
        ∧ t.out.getLast? = some (.frame f.via (head 0 0x0D)) ∧ t.sessions.handshakes = left h ∧ t.sessions.sessions = s.sessions.sessions
        ∧ dictGet t keyAuthFailures = sat32 (dictGet s keyAuthFailures + 1)
        ∧ (if 4 ≤ mapGet 0 s.sessions.authFails h.role + 1 then
             mapGet 0 t.sessions.authFails h.role = 0 ∧ mapGet false t.sessions.locked h.role = true ∧ logs s t 2 0x0201 0 0 (h.role % 256)
           else mapGet 0 t.sessions.authFails h.role = mapGet 0 s.sessions.authFails h.role + 1 ∧ t.sessions.locked = s.sessions.locked))

/-- DISCOVER, HELLO and PROOF. Where the spec leaves a point open, this rests on the model's choices: log entries 12, 74, 88. -/
def Obligations.SessionsOpen : Prop := Claims.Discovery ∧ Claims.Hello ∧ Claims.Proof

/-- R68, R70, R71: what time ends: a lockout, a handshake, a session that has been idle too long. -/
def Sys2Proof.Claims.SessionTimers : Prop :=
  ∀ (s : State) (role : Fin 4) (sid : U32),
    (∃ t, exec (.authLockoutExpire role) s = .next t ∧ mapGet false t.sessions.locked role.val = false
      ∧ (∀ k, k ≠ role.val → mapGet false t.sessions.locked k = mapGet false s.sessions.locked k)
      ∧ t.sessions = { s.sessions with locked := t.sessions.locked } ∧ changesOnly [.sessions] s t)
    ∧ exec (.handshakeExpire sid) s
      = .next { s with sessions := { s.sessions with handshakes := s.sessions.handshakes.filter fun h => h.sid ≠ sid } }
    ∧ (∃ t, exec (.sessionIdleTimeout sid) s = .next t ∧ sessionsClosed s t fun x => x.sid = sid)

/-- R66 to R69: a session frame that names no session of its client is answered NO_SESSION without a tag. With a wrong tag it is
counted and not answered, and the sixteenth in a row closes the session. With the number of the last request it gets the stored
response again; with any other number but the next it is dropped and counted. -/
def Sys2Proof.Claims.SessionFrames : Prop :=
  ∀ (s : State) (f : Frame), ∀ row ∈ frameRows.drop 3, reachesServer s f.via false = true → goodFrame row.1 f →
    let named := s.sessions.sessions.find? fun x => x.sid = f.sessionId && sameClient x.via f.via
    (named = none → exec (row.2 f) s = .next { s with out := s.out ++ [.frame f.via
        (headerBytes (row.1 + 0x80) f.sessionId.toNat f.seq.toNat 0 0x11)] })
    ∧ (∀ x, named = some x → ¬ rightTag x row.1 f → ∃ t, exec (row.2 f) s = .next t ∧ t.out.filter (fun o => match o with | .frame _ _ => true | _ => false)
          = s.out.filter (fun o => match o with | .frame _ _ => true | _ => false)
        ∧ (x.tagFails + 1 < 16 → dictGet t keyTagFailures = sat32 (dictGet s keyTagFailures + 1) ∧ dictOnly [keyTagFailures] s t
            ∧ t.sessions.sessions = s.sessions.sessions.map (fun y => if y.sid = x.sid then { y with tagFails := y.tagFails + 1 } else y)
            ∧ changesOnly [.dict, .sessions] s t)
        ∧ (16 ≤ x.tagFails + 1 → t.sessions.sessions = s.sessions.sessions.filter fun y => y.sid ≠ x.sid))
    ∧ (∀ x r, named = some x → rightTag x row.1 f → f.seq ≠ x.lastSeq + 1 → f.seq = x.lastSeq → x.response = some r →
        exec (row.2 f) s = .next { (tagAccepted s x) with out := s.out ++ [.frame f.via r] })
    ∧ (∀ x, named = some x → rightTag x row.1 f → f.seq ≠ x.lastSeq + 1 → f.seq ≠ x.lastSeq ∨ x.response = none →
        exec (row.2 f) s = .next { (tagAccepted s x) with dict := dictPut s.dict keySeqDiscards (sat32 (dictGet s keySeqDiscards + 1)) })

/-- Tags, sequence numbers and timers of sessions. Where the spec leaves a point open, this rests on the model's choices: log entry 74. -/
def Obligations.SessionFrames : Prop := Claims.SessionTimers ∧ Claims.SessionFrames

/-- R56, R68, R73 to R76: a session's next request with the right tag is answered and numbered: a READ of an entry that its role
reaches with the entry's type and value, a SEG_READ with the bytes asked for, a KEEPALIVE with nothing, a CLOSE by the end of its
session; a SEG_WRITE in order is kept until its last segment. Where the spec leaves a point open, this rests on the model's choices: log entry 74. -/
def Obligations.RequestsExecuted : Prop :=
  ∀ (s : State) (f : Frame) (x : Session) (e : Entry),
    let names := f.body.take 3
    let key := frameKey f
    (isNext s 0x14 f x → exec (.keepalive f) s = .next (answered s x 0x14 f 0 [] x.writing))
    ∧ (isNext s 0x15 f x → ∃ t, exec (.close f) s = .next t ∧ sessionsClosed (answered s x 0x15 f 0 [] none) t fun y => y.sid = x.sid)
    ∧ (isNext s 0x10 f x → reaches s f x false e → key ≠ keyTraceData → exec (.read f) s = .next (answered s x 0x10 f 0
        (names ++ natBytes 1 (typeCode e.type) ++ readBytes s x.role (key / 256) (key % 256) e) x.writing))
    ∧ (isNext s 0x12 f x → reaches s f x false e → e.type = .domain → domainSet key = none → key ≠ keyTraceData →
        let offset := leNat ((f.body.drop 4).take 4)
        exec (.segRead f) s = .next (answered s x 0x12 f 0 (names ++ [0] ++ natBytes 4 offset ++ natBytes 4 (entryDomain s key).length
          ++ ((entryDomain s key).drop offset).take (min (leNat ((f.body.drop 8).take 4)) (if f.via = .mailbox then 4044 else 1180))) x.writing))
    ∧ (isNext s 0x13 f x → reaches s f x true e → e.type = .domain → x.writing = none → (key = keyUnseal → mayUnseal s = true) →
        (∀ y ∈ s.sessions.sessions, y.sid ≠ x.sid → ∀ w, y.writing = some w → w.key ≠ key) →
        (f.body.drop 12).length ≤ (if f.via = .mailbox then 4044 else 1180) → leNat ((f.body.drop 3).take 1) % 4 = 1 → leNat ((f.body.drop 4).take 4) = 0 →
        (f.body.drop 12).length ≤ leNat ((f.body.drop 8).take 4) →
        exec (.segWrite f) s = .next (answered s x 0x13 f 0 (f.body.take 8)
          (some { key := key, total := leNat ((f.body.drop 8).take 4), received := f.body.drop 12 })))
    ∧ (∀ w, isNext s 0x13 f x → reaches s f x true e → e.type = .domain → (key = keyUnseal → mayUnseal s = true) → x.writing = some w → w.key = key → w.total = leNat ((f.body.drop 8).take 4) →
        w.received.length = leNat ((f.body.drop 4).take 4) → (f.body.drop 12).length ≤ (if f.via = .mailbox then 4044 else 1180) →
        leNat ((f.body.drop 3).take 1) % 4 = 0 → w.received.length + (f.body.drop 12).length ≤ w.total →
        exec (.segWrite f) s = .next (answered s x 0x13 f 0 (f.body.take 8) (some { w with received := w.received ++ f.body.drop 12 })))

/-- R44, R74, R590: a WRITE that fails a check is answered with that check's status, in the order of the checks, and changes
nothing else. -/
def Sys2Proof.Claims.WriteRefused : Prop :=
  ∀ (s : State) (f : Frame) (x : Session), isNext s 0x11 f x →
    let key := frameKey f
    let refused (status : Nat) : Prop := exec (.write f) s = .next (answered s x 0x11 f status [] x.writing)
    (∀ st, reachEntry s x.role (key / 256) (key % 256) true = .inl st → refused st)
    ∧ (∀ e, reaches s f x true e →
        let typed := e.type ≠ .domain ∧ leNat ((f.body.drop 3).take 1) = typeCode e.type ∧ (f.body.drop 4).length = typeSize e.type
        (¬ typed → refused 0x07)
        ∧ (typed → valueOk s e key (frameValue f) = false → refused 0x08)
        ∧ (typed → valueOk s e key (frameValue f) = true → stateOk s x.sid x.role e key (frameValue f) = false → refused 0x06)
        ∧ (typed → valueOk s e key (frameValue f) = true → stateOk s x.sid x.role e key (frameValue f) = true → e.persist = .stored →
            f.storeFails = true → refused 0x14))

/-- R40, R44, R51, R52, R590: the statuses of the first three checks, in their order. -/
def Sys2Proof.Claims.AccessChecks : Prop :=
  ∀ (s : State) (role index sub : Nat) (write : Bool), 1 ≤ role → role ≤ 3 →
    (0xA000 ≤ index → index < 0xF000 → reachEntry s role index sub write = .inl 0x09)
    ∧ (∀ e, lookupEntry index sub = .inr e →
        let code := if role = 1 then (if 0xF000 ≤ e.index then .none else e.operator) else if role = 2 then e.service else e.owner
        (standbyServes s = true → inStandby index = false → reachEntry s role index sub write = .inl 0x0A)
        ∧ (standbyServes s = false ∨ inStandby index = true →
            (code = .none → reachEntry s role index sub write = .inl 0x03)
            ∧ (code = .wo → reachEntry s role index sub write = if write then .inr e else .inl 0x05)
            ∧ (code = .ro ∨ code = .const → reachEntry s role index sub write = if write then .inl 0x04 else .inr e)
            ∧ (code = .rw ∨ code = .rws → reachEntry s role index sub write = .inr e)))

/-- The checks of a request and their statuses, in their order. Where the spec leaves a point open, this rests on the model's choices: log entries 64, 74. -/
def Obligations.RequestsRefused : Prop := Claims.WriteRefused ∧ Claims.AccessChecks

/-- R15: a read or write of an index in the reserved range, by any of the four requests that name an entry, returns the error
RESERVED_INDEX and no value, and has no effect. -/
def Obligations.ReservedIndices : Prop :=
  ∀ (s : State) (f : Frame) (x : Session),
    ∀ row ∈ ([(0x10, .read), (0x11, .write), (0x12, .segRead), (0x13, .segWrite)] : List (Nat × (Frame → Instr))),
      isNext s row.1 f x → 0xA000 ≤ frameKey f / 256 → frameKey f / 256 < 0xF000 →
        exec (row.2 f) s = .next (answered s x row.1 f 0x09 [] x.writing)

/-- R42, R46, R516, R588: an accepted WRITE of an entry that only holds its value sets that value alone, but for TOLL_BURST, which
also keeps each core's tolls within the new depth (R255); a 0 written to an action of type BOOL starts no action. -/
def Sys2Proof.Claims.PlainWrite : Prop :=
  ∀ (s : State) (f : Frame) (x : Session) (e : Entry) (key v : Nat), acceptedWrite s f x e key v →
    (e.owner ≠ .wo → e.service ≠ .wo → ¬ (0x4100 ≤ key / 256 ∧ key / 256 < 0x4108) → selectSet (key / 256) = none →
        key ∉ [keyFbEnable, keyMailboxEnable, keyPowerReq, keyDomainOff, keyLedgerFreeze, keyCalendarSet, keyTraceArm, keyTollBurst] →
        ∃ t, exec (.write f) s = .next t ∧ dictGet t key = v ∧ dictOnly [key] s t ∧ changesOnly [.dict] (writeAnswered s f x) t)
    ∧ (key = keyTollBurst → ∃ t, exec (.write f) s = .next t ∧ dictGet t key = v ∧ dictOnly [key] s t
        ∧ changesOnly [.dict, .cores] (writeAnswered s f x) t)
    ∧ (e.owner = .wo → e.type = .bool → key ≠ keyTraceArm → v = 0 → exec (.write f) s = .next (writeAnswered s f x))

/-- R46, R56, R588, R590: a command that is a WRITE or SEG_WRITE of one entry is that request, where the frame names the entry, and no
command of the block where it names another. A 0 written to an action of type BOOL is answered and starts no action. -/
def Sys2Proof.Claims.NamedWrites : Prop :=
  ∀ (s : State) (f : Frame),
    let is (row : Instr) (cond : Prop) : Prop := (cond → exec row s = exec (.write f) s) ∧ (¬ cond → exec row s = .next s)
    (∀ r ∈ ([(keyFbEnable, .fbEnable), (keyMailboxEnable, .mailboxEnable), (keyLsRestart, .lsRestart), (keyLsReady, .lsReady), (keyLaunch, .launch),
        (keyLsStop, .lsStop), (keySlotWrite, .slotWrite), (keyCfgFullLoad, .cfgFullLoad), (keyPlStart, .plStart), (keyRegionReset, .regionReset),
        (keyCoreReset, .coreReset), (keyWarmReset, .warmReset), (keyPowerCycle, .powerCycle), (keyDomainOff, .domainOff), (keyKeyClear, .keyClear),
        (keySeal, .seal), (keyCntClear, .cntClear), (keySampleClear, .sampleClear), (keyLedgerClear, .ledgerClear), (keyCalendarSet, .calendarSet)] : List (Nat × (Frame → Instr))),
        is (r.2 f) (frameKey f = r.1))
    ∧ (∀ r ∈ ([(keyTraceArm, 1, .traceArm), (keyTraceArm, 0, .traceStop), (keyModuleCmd, 1, .moduleCmdStart), (keyModuleCmd, 2, .moduleCmdStop),
        (keyPowerReq, 0, .powerReqWake), (keyPowerReq, 1, .powerReqS1), (keyPowerReq, 3, .powerReqS3), (keyPowerReq, 4, .powerReqS4),
        (keyLedgerFreeze, 1, .ledgerFreeze), (keyLedgerFreeze, 0, .ledgerUnfreeze)] : List (Nat × Nat × (Frame → Instr))),
        is (r.2.2 f) (frameKey f = r.1 ∧ frameValue f = r.2.1))
    ∧ is (.portEnable f) (∃ p, p < 8 ∧ frameKey f = portKey p 0xC) ∧ is (.portReset f) (∃ p, p < 8 ∧ frameKey f = portKey p 0xD)
    ∧ is (.cntSelWrite f) (selectSet (frameKey f / 256) ≠ none)
    ∧ (∀ r ∈ ([(keyKeyLoad, .keyLoad), (keyUnseal, .unseal)] : List (Nat × (Frame → Instr))),
        (frameKey f = r.1 → exec (r.2 f) s = exec (.segWrite f) s) ∧ (frameKey f ≠ r.1 → exec (r.2 f) s = .next s))

/-- What an accepted WRITE sets, and the commands that are a write of one entry. Where the spec leaves a point open, this rests on the model's choices: log entry 82. -/
def Obligations.PlainAndNamedWrites : Prop := Claims.PlainWrite ∧ Claims.NamedWrites

/-- R80: a write of 0 to FB_ENABLE or MAILBOX_ENABLE acts once its response is sent, and closes every session of the transport it
disables, the writer's own too; one that would disable both fails with WRONG_STATE; a write of 1 enables the transport. -/
def Obligations.TransportsDisabled : Prop :=
  ∀ (s : State) (f : Frame) (x : Session) (e : Entry),
    ∀ r ∈ ([(keyFbEnable, keyMailboxEnable, false, .fbEnable), (keyMailboxEnable, keyFbEnable, true, .mailboxEnable)]
        : List (Nat × Nat × Bool × (Frame → Instr))),
      let key := r.1
      let row := r.2.2.2
      let u := writeAnswered s f x
      (acceptedWrite s f x e key 0 → ∃ t, exec (row f) s = .next t ∧ u.out <+: t.out ∧ dictGet t key = 0
          ∧ changesOnly [.out, .dict, .bar0, .ledger, .sessions] u t
          ∧ t.sessions.sessions = u.sessions.sessions.filter (fun y => byMailbox y.via ≠ r.2.2.1)
          ∧ t.sessions.handshakes = s.sessions.handshakes.filter fun h => byMailbox h.via ≠ r.2.2.1)
      ∧ (isNext s 0x11 f x → frameKey f = key → reaches s f x true e → leNat ((f.body.drop 3).take 1) = typeCode e.type →
          (f.body.drop 4).length = typeSize e.type → frameValue f = 0 → dictGet s r.2.1 = 0 →
          exec (row f) s = .next (answered s x 0x11 f 0x06 [] x.writing))
      ∧ (acceptedWrite s f x e key 1 → exec (row f) s = .next (dictSet u key 1))

/-- R57: neighbour solicitation and echo request are answered where they are meant for the module. -/
def Sys2Proof.Claims.Icmp : Prop :=
  ∀ (s : State) (src dst : BitVec 128) (payload : List Byte),
    (s.power.mode ≠ .off → dst = ownAddress s →
      exec (.neighbourSolicitation src dst) s
        = .next { s with out := s.out ++ [.neighbourAdvertisement src dst (BitVec.ofNat 48 (dictGet s keyMacAddr))] }
      ∧ exec (.echoRequest src dst payload) s = .next { s with out := s.out ++ [.echoReply src payload] })
    ∧ (s.power.mode = .off ∨ dst ≠ ownAddress s →
      exec (.neighbourSolicitation src dst) s = .next s ∧ exec (.echoRequest src dst payload) s = .next s)

/-- R60 to R62: the server takes the oldest entry of ring 0 that a fetch has brought. What is no Reolo frame is answered BAD_ENTRY, a
buffer without a translation BUFFER_FAULT with a ledger entry, and what is no request is counted in BAD_FRAMES. A request in the buffer
is served like a frame of its opcode, and its response is written over the buffer. Every entry taken gives one entry of ring 1, with
its BUFFER and COOKIE. -/
def Sys2Proof.Claims.Mailbox : Prop :=
  ∀ (s : State) (buffer : Option (List Byte)) (fails : Bool),
    let x := getRing s 0
    let ready := ringEn x = true ∧ ringErr x = false ∧ s.power.mode = .on ∧ s.mgmt = .serving
    (x.pool = [] ∨ ¬ ready → exec (.mailboxRequest buffer fails) s = .next s)
    ∧ ∀ e rest, x.pool = e :: rest → ready →
      let taken := setRing s 0 { ringSet x 160 17 (headPlus x 1) with pool := rest }
      let length := leNat ((e.bytes.drop 2).take 2)
      let address := leNat ((e.bytes.drop 8).take 8)
      let back (length status : Nat) : QmWrite :=
        { ring := 1, entry := [2, 0] ++ natBytes 2 length ++ natBytes 2 status ++ [0, 0] ++ (e.bytes.drop 8).take 16 ++ List.replicate 40 0 }
      let answers (u : State) (length status : Nat) : Host.Outcome State Fault Refusal :=
        .next { u with queues := { u.queues with qmWrites := u.queues.qmWrites ++ [back length status] } }
      (dictGet s keyMailboxEnable = 0 → exec (.mailboxRequest buffer fails) s = answers taken 0 0)
      ∧ (dictGet s keyMailboxEnable ≠ 0 → leNat (e.bytes.take 2) ≠ 2 → exec (.mailboxRequest buffer fails) s = answers taken 0 0x12)
      ∧ (dictGet s keyMailboxEnable ≠ 0 → leNat (e.bytes.take 2) = 2 → buffer = none →
          ∃ t, exec (.mailboxRequest buffer fails) s = .next t ∧ t.queues.qmWrites = s.queues.qmWrites ++ [back 0 0x13]
            ∧ logs s t 2 0x0204 0 0 address ∧ changesOnly [.out, .dict, .queues, .bar0, .ledger] s t)
      ∧ (∀ b, dictGet s keyMailboxEnable ≠ 0 → leNat (e.bytes.take 2) = 2 → buffer = some b →
          (mailRequest b length = none → ∃ t, exec (.mailboxRequest buffer fails) s = .next t
            ∧ t.queues.qmWrites = s.queues.qmWrites ++ [back 0 0] ∧ dictGet t keyBadFrames = sat32 (dictGet s keyBadFrames + 1)
            ∧ changesOnly [.out, .dict, .queues] s t)
          ∧ ∀ f, ∀ row ∈ frameRows, mailRequest b length = some (row.1, f) →
            ∃ u n o, exec (row.2 { f with storeFails := fails }) { taken with out := [] } = .next u
              ∧ exec (.mailboxRequest buffer fails) s = answers { u with out := o } n 0
              ∧ (u.out = [] → n = 0 ∧ o = s.out ++ mailReads s address length)
              ∧ (∀ r, u.out = [.frame .mailbox r] → n = r.length ∧ o = s.out ++ mailReads s address length ++ mailWrites u address r))

/-- Neighbour discovery, echo, and the mailbox of ring 0. Where the spec leaves a point open, this rests on the model's choices: log entries 31, 80, 88. -/
def Obligations.HostMessages : Prop := Claims.Icmp ∧ Claims.Mailbox

/-- R81, R84 to R97: every code of every element format that is no NaN is what its own value converts to, in IEEE saturation mode; a
NaN converts to the canonical one. -/
def Sys2Proof.Claims.FormatsRoundTrip : Prop :=
  ∀ (f : Fmt) (code : Nat), f ≠ .wide → code < 2 ^ fmtBits f →
    (decodeFmt f code ≠ .nan → (convertFmt f true (decodeFmt f code)).code = code)
    ∧ (decodeFmt f code = .nan → (convertFmt f true (decodeFmt f code)).code = fmtNan f)

/-- R112, R124, R125: a window that the accumulator can hold is what its WIDE element decodes to, and a header of a WIDE tile is what
its 64 bytes hold. -/
def Sys2Proof.Claims.WideRoundTrip : Prop :=
  (∀ x : Window, (x.spec = .none → windowFits x.w.toInt = true) → (x.spec ≠ .none → x.w = 0) → wideDecode (wideEncode x) = (x, false))
  ∧ (∀ h : WideHeader, h.pair < 256 → -32768 ≤ h.anchor → h.anchor ≤ 32767 → h.partials < 2 ^ 32 → h.trunc < 2 ^ 32 →
      wideHeaderOf (wideHeaderBytes h) = h)

/-- Every element code is what its own value converts to, and WIDE elements and headers decode to what they encode. -/
def Obligations.FormatsRoundTrip : Prop := Claims.FormatsRoundTrip ∧ Claims.WideRoundTrip

/-- R94: a conversion to INT8 or INT4 takes the nearest integer, the even one of two, and clamps it to the format's range. -/
def Obligations.IntegerConversion : Prop :=
  ∀ (f : Fmt) (ieee neg : Bool) (m : Nat) (e : Int), f = .int8 ∨ f = .int4 →
    let hi : Int := if f = .int8 then 127 else 7
    let v : Int := if neg then -(m : Int) else m
    let d : Int := 2 ^ (-e).toNat
    ∃ r : Int, (0 ≤ e → r = v * 2 ^ e.toNat)
      ∧ (e < 0 → 2 * (v - r * d) ≤ d ∧ -d ≤ 2 * (v - r * d) ∧ (2 * (v - r * d) = d ∨ 2 * (v - r * d) = -d → r % 2 = 0))
      ∧ signedOf (fmtBits f) (convertFmt f ieee (.fin neg m e)).code = max (-hi - 1) (min r hi)

/-- R112, R113, R115, R140: where every product is a finite number on or above the anchor and no partial sum leaves the numeric range,
a window holds the exact sum of its products, and nothing is truncated. -/
def Sys2Proof.Claims.ExactAccumulation : Prop :=
  ∀ (L : Int) (a b : List Machine.Num),
    let units (p : Machine.Num × Machine.Num) : Int := match numMul p.1 p.2 with
      | .fin neg m e => (if neg then -1 else 1) * (m : Int) * 2 ^ (e - L).toNat
      | _ => 0
    (∀ p ∈ a.zip b, ∃ neg m e, numMul p.1 p.2 = .fin neg m e ∧ L ≤ e) →
    (∀ n, windowFits ((((a.zip b).take n).map units).sum) = true) →
    accProducts L { win := {} } a b = { win := { w := BitVec.ofInt 128 (((a.zip b).map units).sum) }, overflow := false, trunc := 0 }

/-- R117, R122: a special value dominates the window, and a product below the anchor is cut toward zero and counted. -/
def Sys2Proof.Claims.SpecialAccumulation : Prop :=
  ∀ (L : Int) (x : AccStep) (a b : Machine.Num),
    (numMul a b = .nan → (accProduct L x a b).win = { x.win with spec := .nan })
    ∧ (∀ neg, numMul a b = .inf neg →
        let sp : Spec := if neg then .negInf else .posInf
        (accProduct L x a b).win = { x.win with spec := if x.win.spec = .none ∨ x.win.spec = sp then sp else .nan })
    ∧ (∀ neg m e, numMul a b = .fin neg m e → x.win.spec ≠ .none → (accProduct L x a b).win = x.win)
    ∧ (∀ neg m e, numMul a b = .fin neg m e → e < L → x.win.spec = .none →
        let u : Int := ((m : Int) / 2 ^ (L - e).toNat) * (if neg then -1 else 1)
        windowFits (x.win.w.toInt + u) = true →
        (accProduct L x a b).win.w.toInt = x.win.w.toInt + u
          ∧ (accProduct L x a b).trunc = x.trunc + (if (m : Int) % 2 ^ (L - e).toNat = 0 then 0 else 1))

/-- A window holds the exact sum of its products, and special values dominate it. Where the spec leaves a point open, this rests on the model's choices: log entry 89. -/
def Obligations.WindowAccumulation : Prop := Claims.ExactAccumulation ∧ Claims.SpecialAccumulation

/-- R127, R138 to R154, R163, R175: the head of an engine's queue issues once every condition of R150 holds: each element of its tile
accumulates its row and its column over the seed, A (unless its band is empty), B and the scale vectors are held for reading, the
output for writing. Its seed
and the rest of its queue are as R154 says. An instruction of the other kind changes nothing. -/
def Sys2Proof.Claims.EngineIssues : Prop :=
  ∀ (s : State) (c : CoreId) (e : EngineId) (p : Posted) (rest : List Posted) (fa fb : Fmt) (pair : Nat),
    let k := getCore s c
    let x := getEngine k e
    let d := engineDesc p.desc
    let o := Owner.engine e x.serial
    let anchor := instrAnchor k.mem d pair
    let seed : List (Nat × Window) := match d.seedEn, x.seed with
      | true, .loaded _ w _ _ => w
      | _, _ => []
    x.queue = p :: rest → fmtOfCode d.aFmt = some fa → fmtOfCode d.bFmt = some fb → descPair d = some pair →
    mayIssue (dictGet s keyDummyWindow) (dictGet s keyWarmupCycles) k e d = true →
    (∀ h w po n, d.seedEn = true → x.seed = .loaded h w po n → h.pair = pair ∧ h.anchor = anchor) →
    (pair = 11 → -266 ≤ anchor ∧ anchor ≤ 174) →
    ∀ row ∈ ([(1, Instr.mma), (2, Instr.conv)] : List (Nat × (CoreId → EngineId → Instr))),
      (fld p.desc 0 8 ≠ row.1 → ∃ t, exec (row.2 c e) s = .next t ∧ coresSame s t)
      ∧ (fld p.desc 0 8 = row.1 → ∃ t j, exec (row.2 c e) s = .next t
          ∧ getEngine (getCore t c) e = { x with queue := rest, jobs := x.jobs ++ [j], serial := x.serial + 1, freeRoom := x.freeRoom - tileSize d.outFmt
                                                 seed := if d.seedEn then .empty else x.seed, dummy := { density := dictGet s keyDummyDensity } }
          ∧ j.post = p ∧ j.serial = x.serial ∧ j.stage = .injecting ∧ j.anchor = anchor ∧ j.room = tileSize d.outFmt
          ∧ (∀ i < 64, ∀ n < 64, mapGet {} j.windows (64 * i + n)
              = (accProducts anchor { win := mapGet {} seed (64 * i + n) } (aRow k.mem d fa i) (bColumn k.mem d fb n)).win)
          ∧ (getCore t c).mem.holds = k.mem.holds ++ (if (aRange d).rows = 0 then [] else [readHold o .a (aRange d)])
              ++ [readHold o .b (bRange d)] ++ (auxRanges d).map (fun r => readHold o r.1 r.2) ++ [writeHold o .out (outRange d)]
          ∧ writeBegun k.mem (getCore t c).mem (outRange d) ∧ quietCommand c s t)

/-- R151, R152, R567: a seed of another pair or anchor, or an anchor out of range, halts the engine with its status: the instruction stays
at the head, the seed stage is emptied, and the ledger and the host hear of it. -/
def Sys2Proof.Claims.EngineHaltsAtIssue : Prop :=
  ∀ (s : State) (c : CoreId) (e : EngineId) (p : Posted) (rest : List Posted) (fa fb : Fmt) (pair : Nat),
    let k := getCore s c
    let x := getEngine k e
    let d := engineDesc p.desc
    let anchor := instrAnchor k.mem d pair
    let mismatch : Prop := ∃ h w po n, d.seedEn = true ∧ x.seed = .loaded h w po n ∧ (h.pair ≠ pair ∨ h.anchor ≠ anchor)
    x.queue = p :: rest → fmtOfCode d.aFmt = some fa → fmtOfCode d.bFmt = some fb → descPair d = some pair →
    mayIssue (dictGet s keyDummyWindow) (dictGet s keyWarmupCycles) k e d = true →
    (mismatch ∨ (pair = 11 ∧ (anchor < -266 ∨ 174 < anchor))) →
    ∀ row ∈ ([(1, Instr.mma), (2, Instr.conv)] : List (Nat × (CoreId → EngineId → Instr))), fld p.desc 0 8 = row.1 →
      ∃ t status, exec (row.2 c e) s = .next t ∧ (mismatch → status = 0x0A) ∧ (¬ mismatch → status = 0x0B)
        ∧ getEngine (getCore t c) e = { x with status := status, statusTag := d.tag, halted := true, haltDepth := x.queue.length + x.jobs.length
                                               seed := .empty, dummy := { x.dummy with warmed := false } }
        ∧ (getCore t c).mem = k.mem ∧ t.bar0.modEvent.getLsbD 3 = true
        ∧ logs s t 2 0x6002 1 c.val (e.val + 2 ^ 8 * status + 2 ^ 16 * d.tag) ∧ coreCommand c s t

/-- An engine issues the instruction at the head of its queue, or halts at it. Where the spec leaves a point open, this rests on the model's choices: log entries 17, 18, 89. -/
def Obligations.EngineIssue : Prop := Claims.EngineIssues ∧ Claims.EngineHaltsAtIssue

/-- R133, R151, R153, R154, R157, R161, R175: the later phases of an instruction: the last slice releases A and B; the last drain shift
puts the converted tile, or undefined bytes where the tile read poison, into the output buffer and releases the scales; all but its last
row are then in core memory and their room is free, unless an earlier tile still leaves the buffer; the output mark writes the rest,
marks the range complete and frees its room, with status 0x0C under poison; the seed load holds its tile, and releases it. -/
def Sys2Proof.Claims.EnginePhases : Prop :=
  ∀ (s : State) (c : CoreId) (e : EngineId),
    let k := getCore s c
    let x := getEngine k e
    (∀ j, (x.jobs.find? fun j => j.stage = .injecting) = some j → ∃ t, exec (.engineInjectEnd c e) s = .next t ∧ quietCommand c s t
        ∧ getEngine (getCore t c) e = { x with jobs := stepJob .injecting (fun j => { j with stage := .draining }) x.jobs }
        ∧ (getCore t c).mem = { k.mem with holds := k.mem.holds.filter fun h =>
            !(h.owner = .engine e j.serial && h.part = .a) && !(h.owner = .engine e j.serial && h.part = .b) })
    ∧ (∀ j, (x.jobs.find? fun j => j.stage = .draining) = some j → ∃ t, exec (.engineDrainEnd c e) s = .next t ∧ coreOnly c s t
        ∧ changesOnly [.free, .cores, .counters] s t
        ∧ (let rows := if j.poisoned then junkRows (engineDesc j.post.desc) (fun i => Config.freeByte (s.free + i)) else (drainJob k.mem e j).1
           let first := if x.jobs.any (fun i => i.stage = .flushing) then [] else rows.dropLast
           let drained (i : EngineJob) : EngineJob :=
             { i with stage := .flushing, windows := [], out := rows.drop first.length, room := i.room - rowsLength first }
           getEngine (getCore t c) e = { x with jobs := stepJob .draining drained x.jobs, freeRoom := x.freeRoom + rowsLength first }
             ∧ (getCore t c).mem.bytes = first.foldl (fun b r => mapWrite 0 b r.1 r.2) k.mem.bytes)
        ∧ (getCore t c).mem.incomplete = k.mem.incomplete
        ∧ (getCore t c).mem.holds = k.mem.holds.filter fun h =>
            !(h.owner = .engine e j.serial && h.part = .rowScale) && !(h.owner = .engine e j.serial && h.part = .colScale))
    ∧ (∀ j rest, x.jobs = j :: rest → j.stage = .flushing → ∃ t, exec (.engineOutputMark c e) s = .next t ∧ coreCommand c s t
        ∧ getEngine (getCore t c) e = { x with jobs := rest, freeRoom := x.freeRoom + j.room
                                               status := if j.poisoned ∧ x.halted = false then 0x0C else x.status
                                               statusTag := if j.poisoned ∧ x.halted = false then (engineDesc j.post.desc).tag else x.statusTag }
        ∧ writeEnded k.mem (getCore t c).mem (outRange (engineDesc j.post.desc)) j.out
        ∧ (j.poisoned = true → ∀ n ∈ rowsGranules j.out, granulePoison (getCore t c).mem n = true)
        ∧ (getCore t c).mem.holds = k.mem.holds.filter (fun h => !(h.owner = .engine e j.serial && h.part = .out))
        ∧ (j.poisoned = true → logs s t 2 0x6003 1 c.val (e.val + 2 ^ 8 * (engineDesc j.post.desc).tag)))
    ∧ (∀ p rest, x.queue = p :: rest → (engineDesc p.desc).seedEn = true → x.halted = false → x.seed = .empty →
        mayRead k.mem (.engine e x.serial) (wideRange (engineDesc p.desc).seedAddr) = true → k.mem.holds.length < 128 →
        ∃ t, exec (.seedLoadStart c e) s = .next t ∧ quietCommand c s t ∧ getEngine (getCore t c) e = { x with seed := .loading }
          ∧ (getCore t c).mem = { k.mem with holds := k.mem.holds ++ [readHold (.engine e x.serial) .seed (wideRange (engineDesc p.desc).seedAddr)] })
    ∧ (∀ p rest, x.queue = p :: rest → x.seed = .loading → ∃ t n, exec (.seedLoadEnd c e) s = .next t ∧ quietCommand c s t
        ∧ (let tile := wideTile k.mem (engineDesc p.desc).seedAddr
           let sick := rangePoison k.mem (wideRange (engineDesc p.desc).seedAddr)
           getEngine (getCore t c) e = { x with seed := .loaded tile.1 tile.2.1 sick n })
        ∧ (getCore t c).mem = { k.mem with holds := k.mem.holds.filter fun h => !(h.owner = .engine e x.serial && h.part = .seed) })

/-- R163, R168: the dummy operation of an engine in a gap and its warm-up; an aged bank request changes nothing the program can see. -/
def Sys2Proof.Claims.DummyOperation : Prop :=
  ∀ (s : State) (c : CoreId) (e : EngineId) (bank : Fin 32) (n : Nat),
    let x := getEngine (getCore s c) e
    let leaves (i : Instr) (d : Dummy) : Prop :=
      ∃ t, exec i s = .next t ∧ getCore t c = setEngine (getCore s c) e { x with dummy := d } ∧ coreOnly c s t ∧ changesOnly [.cores] s t
    (dictGet s keyDummyWindow ≠ 0 → inGap x = true → x.dummy.density ≠ 0 → x.dummy.warming = false →
      leaves (.dummyWindowExpire c e) { x.dummy with past := true })
    ∧ (inGap x = true → x.dummy.past = true → leaves (.dummyDensityStep c e)
      { x.dummy with density := x.dummy.density - 1, warmed := x.dummy.warmed && decide (1 < x.dummy.density) })
    ∧ (∀ p rest, x.queue = p :: rest → dictGet s keyDummyWindow ≠ 0 → x.dummy.density = 0 → x.dummy.warming = false → x.dummy.warmed = false →
        mayIssue 0 (dictGet s keyWarmupCycles) (getCore s c) e (engineDesc p.desc) = true →
        leaves (.warmupStart c e) { x.dummy with warming := true })
    ∧ (x.dummy.warming = true → leaves (.warmupEnd c e) { density := dictGet s keyDummyDensity, past := false, warming := false, warmed := true })
    ∧ exec (.bankRequestAged c bank n) s = .next s

/-- The phases of an engine instruction from seed to last drain shift. Where the spec leaves a point open, this rests on the model's choices: log entries 11, 17, 18. -/
def Obligations.EnginePhases : Prop := Claims.EnginePhases ∧ Claims.DummyOperation

/-- R91, R93, R183, R189: an operation on elements: each result is rounded once to binary32, converted to DST_FMT and packed in its row. -/
def Sys2Proof.Claims.VectorElements : Prop :=
  ∀ (s : State) (c : CoreId) (p : Posted) (rest : List Posted) (f : Fmt),
    let k := getCore s c
    let d := vectorDesc p.desc
    let src (on : Bool) (base pitch i : Nat) : List Machine.Num := if on then operandRow k.mem d.srcFmt base pitch d.n i else List.replicate d.n (.fin false 0 0)
    k.vector.queue = p :: rest → mayStart k d = true → fmtOfCode d.dstFmt = some f → ∀ row ∈ elementRows, d.op = row.1 →
      ∃ t, exec (row.2.1 c) s = .next t ∧ vectorStarted s t c p rest ((List.range d.rows).map fun i =>
        (d.dst + i * d.pitchD, packRow f ((((src (d.op ≠ 0x11) d.src1 d.pitch1 i).zip (src (d.op ≤ 6) d.src2 d.pitch2 i)).zip
          (src (d.op = 4) d.aux d.pitchA i)).map fun x => (convertFmt f d.ieee (fp32 (row.2.2 d x.1.1 x.1.2 x.2))).code)))

/-- R183, R185, R189: a reduction gives one element for each row. -/
def Sys2Proof.Claims.VectorReductions : Prop :=
  ∀ (s : State) (c : CoreId) (p : Posted) (rest : List Posted) (f : Fmt),
    let k := getCore s c
    let d := vectorDesc p.desc
    k.vector.queue = p :: rest → mayStart k d = true → fmtOfCode d.dstFmt = some f → ∀ row ∈ reductionRows, d.op = row.1 →
      ∃ t, exec (row.2.1 c) s = .next t ∧ vectorStarted s t c p rest ((List.range d.rows).map fun i =>
        (d.dst + i * d.pitchD, packRow f [(convertFmt f d.ieee (row.2.2 (operandRow k.mem d.srcFmt d.src1 d.pitch1 d.n i))).code]))

/-- Vector instructions that work element by element, and reductions. Where the spec leaves a point open, this rests on the model's choices: log entries 19, 20, 21. -/
def Obligations.VectorElements : Prop := Claims.VectorElements ∧ Claims.VectorReductions

/-- R101, R105 to R107, R118, R119, R128, R183, R184, R189: quantisation, comparison, selection, copy, the scale and the anchor record, and
the operations on WIDE tiles, each with the rows that its own rule computes. -/
def Sys2Proof.Claims.VectorRecords : Prop :=
  ∀ (s : State) (c : CoreId) (p : Posted) (rest : List Posted),
    let k := getCore s c
    let m := k.mem
    let d := vectorDesc p.desc
    let a := postAttr p 5
    let row (base pitch i : Nat) : List Machine.Num := operandRow m d.srcFmt base pitch d.n i
    let starts (i : Instr) (writes : List (Nat × List Byte)) : Prop := ∃ t, exec i s = .next t ∧ vectorStarted s t c p rest writes
    k.vector.queue = p :: rest → mayStart k d = true → startStatus m d = 0 →
      (d.op = 0x0D → starts (.quant c) (quantise m d a).rows)
      ∧ (d.op = 0x0E → starts (.cmp c) ((List.range d.rows).map fun i => (d.dst + i * d.pitchD,
          packMask (((row d.src1 d.pitch1 i).zip (row d.src2 d.pitch2 i)).map fun t => numCmp d.imm2.toNat t.1 t.2))))
      ∧ (∀ f, d.op = 0x0F → fmtOfCode d.dstFmt = some f → starts (.select c) ((List.range d.rows).map fun i => (d.dst + i * d.pitchD,
          packRow f (((row d.src1 d.pitch1 i).zip (row d.src2 d.pitch2 i)).zipIdx.map fun t =>
            (convertFmt f d.ieee (if (coreByte m (d.aux + i * d.pitchA + t.2 / 8)).getLsbD (t.2 % 8) then t.1.1 else t.1.2)).code))))
      ∧ (d.op = 0x10 → starts (.copy c) ((List.range d.rows).map fun i =>
          (d.dst + i * d.pitchD, coreRead m (d.src1 + i * d.pitch1) (elemBytes d.srcFmt d.n))))
      ∧ (∀ f, d.op = 0x30 → fmtOfCode d.dstFmt = some f → starts (.scalefind c)
          [(d.dst, scaleRecordBytes (findScale f d.dstFmt (dictGet s keyClipPpm) ((List.range d.rows).flatMap (row d.src1 d.pitch1))))])
      ∧ (d.op = 0x31 → starts (.anchor c) [(d.dst, anchorRecordBytes (anchorPass (row d.src1 d.pitch1 0) (row d.src2 d.pitch2 0)))])
      ∧ (d.op = 0x40 → starts (.wadd c) ((List.range d.rows).map fun t => (waddTile m d a t).1))
      ∧ (d.op = 0x41 → starts (.walign c) ((List.range d.rows).map fun t => (walignTile m d a t).1))
      ∧ (d.op = 0x42 → starts (.wexp c) ((List.range d.rows).map fun t => wexpTile m d t))
      ∧ (d.op = 0x43 → starts (.wcvt c) ((List.range d.rows).flatMap fun t => (wcvtTile m d a t).1))

/-- R128: WADD and WALIGN on one element: the exact sum, or the element moved to another anchor toward zero. -/
def Sys2Proof.Claims.WideElements : Prop :=
  ∀ (x y : Window) (a b : Int),
    (x.spec = .none → y.spec = .none → windowFits (x.w.toInt + y.w.toInt) = true →
      waddElement x y = ({ w := x.w + y.w }, false))
    ∧ (x.spec ≠ .none → y.spec = .none → (waddElement x y).1.spec = x.spec ∧ (waddElement y x).1.spec = x.spec)
    ∧ (x.spec = .posInf → y.spec = .negInf → (waddElement x y).1.spec = .nan)
    ∧ (x.spec = .none → a ≤ b → windowFits x.w.toInt = true →
      (walignElement a b x).1.spec = .none ∧ (walignElement a b x).1.w.toInt = Int.tdiv x.w.toInt (2 ^ (b - a).toNat)
        ∧ ((walignElement a b x).2.1 = true ↔ ¬ (2 : Int) ^ (b - a).toNat ∣ x.w.toInt))
    ∧ (x.spec = .none → b < a → windowFits (x.w.toInt * 2 ^ (a - b).toNat) = true →
      (walignElement a b x).1.spec = .none ∧ (walignElement a b x).1.w.toInt = x.w.toInt * 2 ^ (a - b).toNat
        ∧ (walignElement a b x).2 = (false, false))

/-- Scale records and WIDE operations of the vector unit. Where the spec leaves a point open, this rests on the model's choices: log entries 20, 21. -/
def Obligations.VectorRecords : Prop := Claims.VectorRecords ∧ Claims.WideElements

/-- R187, R189, R567: a start that finds a record or a header wrong halts the unit with its status, the descriptor at its head. -/
def Sys2Proof.Claims.VectorHaltsAtStart : Prop :=
  ∀ (s : State) (c : CoreId) (p : Posted) (rest : List Posted),
    let k := getCore s c
    let d := vectorDesc p.desc
    k.vector.queue = p :: rest → mayStart k d = true → startStatus k.mem d ≠ 0 →
    ∀ row ∈ ([(0x0D, Instr.quant), (0x40, .wadd), (0x42, .wexp)] : List (Nat × (CoreId → Instr))), d.op = row.1 →
      ∃ t, exec (row.2 c) s = .next t
        ∧ (getCore t c).vector = { k.vector with halted := true, haltDepth := k.vector.queue.length, status := startStatus k.mem d, statusTag := d.tag }
        ∧ (getCore t c).mem = k.mem ∧ t.bar0.modEvent.getLsbD 3 = true
        ∧ logs s t 2 0x6002 1 c.val (4 + 2 ^ 8 * startStatus k.mem d + 2 ^ 16 * d.tag) ∧ coreCommand c s t

/-- R157, R181, R186, R190: a running descriptor ends: its rows are in memory, or undefined bytes under poison where it read poison; its
destination is complete, its holds are gone, and the unit is free. -/
def Sys2Proof.Claims.VectorEnds : Prop :=
  ∀ (s : State) (c : CoreId) (j : VectorJob),
    let k := getCore s c
    let d := vectorDesc j.post.desc
    k.vector.running = some j → ∃ t, exec (.vectorEnd c) s = .next t ∧ coreCommand c s t
      ∧ (getCore t c).vector = { k.vector with running := none, status := if j.poisoned ∧ k.vector.halted = false then 0x0C else k.vector.status
                                               statusTag := if j.poisoned ∧ k.vector.halted = false then d.tag else k.vector.statusTag }
      ∧ writeEnded k.mem (getCore t c).mem (dstRange d) (if j.poisoned then undefinedRows s (dstRange d) else j.writes)
      ∧ (getCore t c).mem.holds = k.mem.holds.filter (fun h => !(h.owner = .vector && h.part = .whole))
      ∧ (j.poisoned = true → ∀ x ∈ rowsGranules (undefinedRows s (dstRange d)), granulePoison (getCore t c).mem x = true)
      ∧ (j.poisoned = true → logs s t 2 0x6003 1 c.val (4 + 2 ^ 8 * d.tag))

/-- Where a vector instruction halts and how it ends. Where the spec leaves a point open, this rests on the model's choices: log entries 11, 21. -/
def Obligations.VectorEnds : Prop := Claims.VectorHaltsAtStart ∧ Claims.VectorEnds

/-- R193, R175, R194: the head gather of an engine starts once its holds are granted: its indexes are held for reading, its destination
for writing and incomplete; nothing outside the destination is written. -/
def Sys2Proof.Claims.GatherStarts : Prop :=
  ∀ (s : State) (c : CoreId) (g : GatherId) (p : Posted) (rest : List Posted),
    let k := getCore s c
    let x := getGather k g
    let d := gatherDesc p.desc
    x.queue = p :: rest → x.halted = false → x.running = none → mayRead k.mem (.gather g) (gatherIndexRange d) = true →
    mayWrite k.mem (.gather g) (gatherDstRange d) = true → k.mem.holds.length ≤ 126 →
    ∃ t j, exec (.gather c g) s = .next t ∧ gatherCommand c s t
      ∧ (getGather (getCore t c) g).queue = rest ∧ (getGather (getCore t c) g).running = some j ∧ j.post.desc = p.desc
      ∧ (getCore t c).mem.holds = k.mem.holds ++ [readHold (.gather g) .index (gatherIndexRange d), writeHold (.gather g) .dst (gatherDstRange d)]
      ∧ (∀ n, granuleComplete (getCore t c).mem n = (granuleComplete k.mem n && !rangeCovers (gatherDstRange d) n))
      ∧ (∀ a, rangeHasByte (gatherDstRange d) a = false → coreByte (getCore t c).mem a = coreByte k.mem a)
      ∧ (∀ line ∈ j.fetching, ∃ q ∈ t.net.requests, q.who = .gatherLine c g line)

/-- R192, R195, R567: a gather whose elements all lie in its own core's memory or, with OOB_ZERO, outside its window, writes each element
at its place when it starts; one that finds an element outside its window without OOB_ZERO stops there with status 0x0F. -/
def Sys2Proof.Claims.GatherElements : Prop :=
  ∀ (s : State) (c : CoreId) (g : GatherId) (p : Posted) (rest : List Posted),
    let k := getCore s c
    let x := getGather k g
    let d := gatherDesc p.desc
    let source (n : Nat) : Nat := gatherSource k.mem d n
    x.queue = p :: rest → x.halted = false → x.running = none → mayRead k.mem (.gather g) (gatherIndexRange d) = true →
    mayWrite k.mem (.gather g) (gatherDstRange d) = true → k.mem.holds.length ≤ 126 → gatherApart k.mem d →
      ((∀ n < d.count, gatherOwn s c d n ∨ (gatherInside d (source n) = false ∧ d.oobZero = true)) →
        ∃ t j, exec (.gather c g) s = .next t ∧ (getGather (getCore t c) g).running = some j ∧ j.next = d.count ∧ j.waiting = [] ∧ j.fetching = []
          ∧ j.stop = none ∧ t.net = s.net
          ∧ ∀ n < d.count, coreRead (getCore t c).mem (d.dst + n * d.pitch) d.elem
              = if gatherInside d (source n) then coreRead k.mem (bits (source n) 0 22) d.elem else List.replicate d.elem 0)
      ∧ (∀ n < d.count, (∀ i < n, gatherOwn s c d i) → gatherInside d (source n) = false → d.oobZero = false →
        ∃ t, exec (.gather c g) s = .next t ∧ (getGather (getCore t c) g).halted = true ∧ (getGather (getCore t c) g).status = 0x0F
          ∧ (getGather (getCore t c) g).statusTag = d.tag ∧ (getGather (getCore t c) g).done = n ∧ t.bar0.modEvent.getLsbD 3 = true)

/-- R194, R195: a line that returns leaves the lines being fetched. Data go into the cache, and complete the element that waited for it
alone; a failure stops the gather with status 0x10, or 0x45 at a core that is off (R29),
once no other fetch is in flight. -/
def Sys2Proof.Claims.GatherLines : Prop :=
  ∀ (s : State) (c : CoreId) (g : GatherId) (line : Nat) (q : Request) (j : GatherJob),
    let k := getCore s c
    let x := getGather k g
    let d := gatherDesc j.post.desc
    let source (n : Nat) : Nat := gatherSource k.mem d n
    requestOf s.net (.gatherLine c g line) = some q → x.running = some j → j.fetching = [line] → j.lines = [] → j.stop = none →
      (∀ bytes poison n, q.state = .answered (.data bytes poison) → j.waiting = [(n, [line])] → d.count ≤ j.next →
          bytes.length = 128 → q.be = byteMask ((gatherFetch d line).1 % 128) (gatherFetch d line).2 → (gatherFetch d line).1 / 128 = line →
          gatherLines d (source n) = [line] → gatherInside d (source n) = true → 0 < d.elem →
          ∃ t y, exec (.gatherLineFill c g line) s = .next t ∧ gatherCommand c s t
            ∧ (getGather (getCore t c) g).running = some y ∧ y.fetching = [] ∧ y.waiting = [] ∧ y.stop = none
            ∧ coreRead (getCore t c).mem (d.dst + n * d.pitch) d.elem = (bytes.drop (source n % 128)).take d.elem
            ∧ (gatherLookup (getCore t c).gatherCache line (source n) d.elem).isSome = true)
      ∧ (∀ a, q.state = .answered a → a = .failed ∨ a = .missed ∨ a = .denied → ∃ t, exec (.gatherLineFill c g line) s = .next t
          ∧ gatherCommand c s t ∧ (getGather (getCore t c) g).halted = true ∧ (getGather (getCore t c) g).status = 0x10
          ∧ (getGather (getCore t c) g).statusTag = d.tag ∧ (getGather (getCore t c) g).done = (j.waiting.map (·.1)).foldl min j.next
          ∧ (getCore t c).mem = k.mem ∧ t.bar0.modEvent.getLsbD 3 = true)
      ∧ (q.state = .answered .off → ∃ t, exec (.gatherLineFill c g line) s = .next t ∧ gatherCommand c s t
          ∧ (getGather (getCore t c) g).halted = true ∧ (getGather (getCore t c) g).status = 0x45 ∧ (getCore t c).mem = k.mem)

/-- R157, R161, R193: a gather whose last element is written ends: its destination is complete, its holds are gone, and poison it took is
recorded. -/
def Sys2Proof.Claims.GatherEnds : Prop :=
  ∀ (s : State) (c : CoreId) (g : GatherId) (j : GatherJob),
    let k := getCore s c
    let x := getGather k g
    let d := gatherDesc j.post.desc
    x.running = some j → j.stop = none → j.waiting = [] → d.count ≤ j.next →
    ∃ t, exec (.gatherEnd c g) s = .next t ∧ coreCommand c s t
      ∧ getGather (getCore t c) g = { x with running := none, status := if j.poisoned ∧ x.halted = false then 0x0C else x.status
                                             statusTag := if j.poisoned ∧ x.halted = false then d.tag else x.statusTag }
      ∧ writeEnded k.mem (getCore t c).mem (gatherDstRange d) []
      ∧ (getCore t c).mem.holds = k.mem.holds.filter (fun h =>
          !(h.owner = .gather g && h.part = .index) && !(h.owner = .gather g && h.part = .dst))
      ∧ (j.poisoned = true → logs s t 2 0x6003 1 c.val (5 + g.val + 2 ^ 8 * d.tag))

/-- Gather and scatter units. Where the spec leaves a point open, this rests on the model's choices: log entries 38, 90. -/
def Obligations.Gathers : Prop := Claims.GatherStarts ∧ Claims.GatherElements ∧ Claims.GatherLines ∧ Claims.GatherEnds

/-- R198, R218: the register and jump instructions of RV64IMAC, each with its result and its next pc; memory and holds stay. Where the spec leaves a point open, this rests on the model's choices: log entry 41. -/
def Obligations.CcComputes : Prop :=
  ∀ (s : State) (c : CoreId) (t : ThreadId) (len rd rs1 rs2 f3 : Nat) (imm : U64) (op : AluOp) (word : Bool),
    let x := getThread s c t
    let next := x.pc + BitVec.ofNat 64 len
    let leaves (i : CcOp) (rd : Nat) (v pc : U64) : Prop :=
      ccHas s c t i len → ∃ u, threadRetires (.ccInstruction c) s u c t rd v pc ∧ (getCore u c).mem = (getCore s c).mem
    leaves (.lui rd imm) rd imm next
    ∧ leaves (.auipc rd imm) rd (x.pc + imm) next
    ∧ leaves (.aluImm op word rd rs1 imm) rd (aluRun op word (regGet x rs1) imm) next
    ∧ leaves (.alu op word rd rs1 rs2) rd (aluRun op word (regGet x rs1) (regGet x rs2)) next
    ∧ leaves (.jal rd imm) rd next (x.pc + imm)
    ∧ leaves (.jalr rd rs1 imm) rd next ((regGet x rs1 + imm) &&& ~~~(1 : U64))
    ∧ leaves (.branch f3 rs1 rs2 imm) 0 0 (if branchTaken f3 (regGet x rs1) (regGet x rs2) then x.pc + imm else next)
    ∧ leaves .fence 0 0 next

/-- R178, R179, R198, R222: loads that hit bring the bytes of their lines where the granules are complete; stores write core memory;
load-reserved, store-conditional and atomic operations in core memory. -/
def Sys2Proof.Claims.CcMemory : Prop :=
  ∀ (s : State) (c : CoreId) (t : ThreadId) (len size rd rs1 rs2 : Nat) (off : U64) (unsig : Bool) (amo : AmoOp) (ls : List CacheLine),
    let x := getThread s c t
    let next := x.pc + BitVec.ofNat 64 len
    let m := (getCore s c).mem
    let n := 2 ^ size
    let full (a : Nat) : Prop := ∀ i < n, inCoreMem (a + i) = true → granuleComplete m ((a + i) / 64) = true
    let read (a : Nat) : List Byte := (List.range n).map fun i => lineByte ls (a + i)
    let at_ := (regGet x rs1).toNat
    let mayStore (a : Nat) (atomic : Bool) : Prop := badByte x.csr (dataMode x) a n .store atomic = none
    let does (i : CcOp) (v : U64) (P : State → Prop) : Prop :=
      ccHas s c t i len → ∃ u, threadRetires (.ccInstruction c) s u c t rd v next ∧ P u
    let a := (regGet x rs1 + off).toNat
    (loadHits s c t a n false ls → full a → does (.load size unsig rd rs1 off) (loadValue size unsig (read a)) fun u => (getCore u c).mem = m)
    ∧ (ccHas s c t (.load size unsig rd rs1 off) len → loadHits s c t a n false ls →
        ∃ u v, threadRetires (.ccInstruction c) s u c t rd v next ∧ (getCore u c).mem = m)
    ∧ (ccHas s c t (.store size rs1 rs2 off) len → mayStore a false →
        ∃ u, threadRetires (.ccInstruction c) s u c t 0 0 next ∧ stored m (getCore u c).mem a (natBytes n (regGet x rs2).toNat))
    ∧ (at_ % n = 0 → loadHits s c t at_ n true ls → full at_ → does (.lr size rd rs1) (loadValue size false (read at_)) fun u =>
        (getCore u c).mem = m ∧ (getThread u c t).reservation = some at_)
    ∧ (at_ % n = 0 → mayStore at_ true → poisonByte m [] at_ n = none → x.reservation = some at_ →
        does (.sc size rd rs1 rs2) 0 fun u => stored m (getCore u c).mem at_ (natBytes n (regGet x rs2).toNat) ∧ (getThread u c t).reservation = none)
    ∧ (at_ % n = 0 → mayStore at_ true → poisonByte m [] at_ n = none → x.reservation ≠ some at_ →
        does (.sc size rd rs1 rs2) 1 fun u => (getCore u c).mem = m ∧ (getThread u c t).reservation = none)
    ∧ (at_ % n = 0 → mayStore at_ true → loadHits s c t at_ n true ls → full at_ →
        does (.amo amo size rd rs1 rs2) (loadValue size false (read at_)) fun u =>
          stored m (getCore u c).mem at_ (amoBytes amo size (read at_) (regGet x rs2)))

/-- R201, R222: an instruction or a load whose line is not in its cache stalls the core, and has not retired; a line of the program
image is asked for over the network. -/
def Sys2Proof.Claims.CcMisses : Prop :=
  ∀ (s : State) (c : CoreId) (t : ThreadId) (line va : Nat),
    issuing s c = some t → fetchAt (getThread s c t) (heldCache s false (getCc s c).icache) = .miss line va →
      ∃ u, exec (.ccInstruction c) s = .next u ∧ threadCommand c s u
        ∧ (getCc u c) = { getCc s c with miss := some { inst := true, line := line, image := inImage (64 * line), va := va } }
        ∧ (inImage (64 * line) = false → changesOnly [.cores] s u)
        ∧ (inImage (64 * line) = true → ∃ q ∈ u.net.requests, q.who = .image c line)

/-- R222, R225: a line of core memory that returns fills its cache, ends the stall, and lets a load that waited for it retire. -/
def Sys2Proof.Claims.CcMissReturns : Prop :=
  ∀ (s : State) (c : CoreId) (m : Miss) (q : Request), (getCc s c).miss = some m →
    let line : CacheLine := { line := m.line, bytes := coreRead (getCore s c).mem (64 * m.line) 64, poison := granulePoison (getCore s c).mem m.line }
    (m.image = false → activeThread (getCc s c) = none → ∃ u, exec (.cacheMissReturn c) s = .next u
        ∧ getCc u c = (if m.inst then { getCc s c with miss := none, icache := cacheFill (getCc s c).icache line }
            else { getCc s c with miss := none, dcache := cacheFill (getCc s c).dcache line })
        ∧ coreOnly c s u ∧ changesOnly [.cores] s u)
    ∧ (∀ t cache size unsig rd rs1 off len word ls, m.image = false → m.inst = false → activeThread (getCc s c) = some t →
        (getThread s c t).issued = true → fetchAt (getThread s c t) (heldCache s false (getCc s c).icache) = .insn cache (.load size unsig rd rs1 off) len word →
        let a := (regGet (getThread s c t) rs1 + off).toNat
        loadHits (setCc s c { getCc s c with miss := none, dcache := cacheFill (getCc s c).dcache line }) c t a (2 ^ size) false ls →
        (∀ i < 2 ^ size, inCoreMem (a + i) = true → granuleComplete (getCore s c).mem ((a + i) / 64) = true) →
        ∃ u, threadRetires (.cacheMissReturn c) s u c t rd (loadValue size unsig ((List.range (2 ^ size)).map fun i => lineByte ls (a + i)))
            ((getThread s c t).pc + BitVec.ofNat 64 len) ∧ (getCc u c).miss = none)
    ∧ (∀ t, m.image = true → m.inst = true → requestOf s.net (.image c m.line) = some q → activeThread (getCc s c) = some t →
        (∃ a, q.state = .answered a ∧ (a = .failed ∨ a = .missed ∨ a = .denied)) →
        ∃ u, exec (.cacheMissReturn c) s = .next u ∧ threadCommand c s u ∧ (getCc u c).miss = none
          ∧ trapped (getThread s c t) (getThread u c t) false 1 (BitVec.ofNat 64 m.va))

/-- Loads, stores, atomics and fetches of a control core, and what they wait for. Where the spec leaves a point open, this rests on the model's choices: log entries 41, 42, 43, 84. -/
def Obligations.CcMemory : Prop := Claims.CcMemory ∧ Claims.CcMisses ∧ Claims.CcMissReturns

/-- R225: the traps of an instruction: what is fetched where the map, PMP or poison forbids it, environment call, breakpoint, illegal
instruction, a forbidden or misaligned access, and poisoned data, each with its cause. -/
def Sys2Proof.Claims.CcTraps : Prop :=
  ∀ (s : State) (c : CoreId) (t : ThreadId) (len size rd rs1 rs2 b : Nat) (off : U64) (unsig : Bool) (amo : AmoOp) (ls : List CacheLine),
    let x := getThread s c t
    let m := (getCore s c).mem
    let n := 2 ^ size
    let a := (regGet x rs1 + off).toNat
    let at_ := (regGet x rs1).toNat
    let traps (cause : Nat) (mtval : U64) : Prop :=
      ∃ u, exec (.ccInstruction c) s = .next u ∧ threadCommand c s u ∧ trapped x (getThread u c t) false cause mtval ∧ (getCore u c).mem = m
    (∀ cause, issuing s c = some t → fetchAt x (heldCache s false (getCc s c).icache) = .trap cause b → traps cause (BitVec.ofNat 64 b))
    ∧ (ccHas s c t .ecall len → traps (if x.machine then 11 else 8) 0)
    ∧ (ccHas s c t .ebreak len → ∃ v, traps 3 v)
    ∧ (ccHas s c t .illegal len → ∃ v, traps 2 v)
    ∧ (ccHas s c t (.load size unsig rd rs1 off) len → badByte x.csr (dataMode x) a n .load false = some b → traps 5 (BitVec.ofNat 64 b))
    ∧ (∀ d, ccHas s c t (.load size unsig rd rs1 off) len → badByte x.csr (dataMode x) a n .load false = none →
        cacheLines (heldCache s true (getCore s c).cc.dcache) (linesOf a n) [] = .hit d ls → poisonByte m ls a n = some b → traps 24 (BitVec.ofNat 64 b))
    ∧ (ccHas s c t (.store size rs1 rs2 off) len → badByte x.csr (dataMode x) a n .store false = some b → traps 7 (BitVec.ofNat 64 b))
    ∧ (ccHas s c t (.lr size rd rs1) len → at_ % n ≠ 0 → traps 4 (BitVec.ofNat 64 at_))
    ∧ (ccHas s c t (.sc size rd rs1 rs2) len ∨ ccHas s c t (.amo amo size rd rs1 rs2) len → at_ % n ≠ 0 → traps 6 (BitVec.ofNat 64 at_))
    ∧ (ccHas s c t (.sc size rd rs1 rs2) len ∨ ccHas s c t (.amo amo size rd rs1 rs2) len → at_ % n = 0 →
        badByte x.csr (dataMode x) at_ n .store true = some b → traps 7 (BitVec.ofNat 64 b))

/-- R223: a CSR instruction reads the CSR's value into rd and writes it; one that its mode may not reach, that does not exist, or that
would write a read-only one is an illegal instruction. A write of minstret takes the place of the instruction's own count. -/
def Sys2Proof.Claims.CcCsr : Prop :=
  ∀ (s : State) (c : CoreId) (t : ThreadId) (len f3 rd rs1 n : Nat) (old : U64),
    let x := getThread s c t
    let src : U64 := if 4 ≤ f3 then BitVec.ofNat 64 rs1 else regGet x rs1
    let writes : Prop := f3 % 4 = 1 ∨ rs1 ≠ 0
    let new : U64 := if f3 % 4 = 1 then src else if f3 % 4 = 2 then old ||| src else old &&& ~~~src
    let reaches_ : Prop := x.machine = true ∨ (bits n 8 2 = 0 ∧ x.csr.mcounteren.getLsbD (n % 32) = true)
    ccHas s c t (.csr f3 rd rs1 n) len →
      (reaches_ → (writes → bits n 10 2 ≠ 3) → n ∈ [0x300, 0x304, 0x305, 0x306, 0x320, 0x340, 0x341, 0x342, 0x343, 0x3A0, 0x7C0, 0x7C2] →
        csrRead s c t n = some old →
        ∃ u z, exec (.ccInstruction c) s = .next u ∧ threadCommand c s u ∧ (writes → z = csrWrite x n new) ∧ (¬ writes → z = x)
          ∧ retired z (getThread u c t) rd old (x.pc + BitVec.ofNat 64 len))
      ∧ (x.machine = true → writes → n = 0xB02 → csrRead s c t n = some old →
        ∃ u, exec (.ccInstruction c) s = .next u ∧ threadCommand c s u ∧ (getThread u c t).csr.minstret = new
          ∧ (getThread u c t).pc = x.pc + BitVec.ofNat 64 len)
      ∧ (¬ reaches_ ∨ (writes ∧ bits n 10 2 = 3) ∨ csrRead s c t n = none →
        ∃ u v, exec (.ccInstruction c) s = .next u ∧ threadCommand c s u ∧ trapped x (getThread u c t) false 2 v)

/-- R202, R206, R222: WFI retires and its thread waits; MRET goes back to what a trap saved; FENCE.I empties the instruction cache. -/
def Sys2Proof.Claims.CcSystem : Prop :=
  ∀ (s : State) (c : CoreId) (t : ThreadId) (len : Nat),
    let x := getThread s c t
    let next := x.pc + BitVec.ofNat 64 len
    (ccHas s c t .wfi len → ∃ u, threadRetires (.wfi c) s u c t 0 0 next ∧ (getThread u c t).state = .taskWait ∧ (getThread u c t).wfi = true)
    ∧ (ccHas s c t .fenceI len → ∃ u, threadRetires (.fenceI c) s u c t 0 0 next ∧ (getCc u c).icache = [])
    ∧ (ccHas s c t .mret len → ∃ u, exec (.mret c) s = .next u ∧ threadCommand c s u ∧
        let y := getThread u c t
        y.pc = x.csr.mepc ∧ y.regs = x.regs ∧ y.machine = x.csr.mstatus.getLsbD 11 ∧ y.csr.mstatus.getLsbD 3 = x.csr.mstatus.getLsbD 7
          ∧ y.csr.mstatus.getLsbD 7 = true ∧ y.csr.mstatus.getLsbD 11 = false ∧ y.csr.mstatus.getLsbD 12 = false
          ∧ (x.csr.mstatus.getLsbD 11 = false → y.csr.mstatus.getLsbD 17 = false)
          ∧ ∀ i, i ∉ [3, 7, 11, 12, 17] → y.csr.mstatus.getLsbD i = x.csr.mstatus.getLsbD i)

/-- Traps, CSRs and system instructions of a control core. Where the spec leaves a point open, this rests on the model's choices: log entries 8, 40, 42, 44, 45. -/
def Obligations.CcSystem : Prop := Claims.CcTraps ∧ Claims.CcCsr ∧ Claims.CcSystem

/-- R202 to R206, R223, R224: the choice of a thread, the end of its quantum, and an interrupt: it ends a wait, and the active thread
takes the one of the lowest code. -/
def Obligations.CcScheduling : Prop :=
  ∀ (s : State) (c : CoreId) (t : ThreadId) (cause : Nat),
    let k := getCc s c
    let x := getThread s c t
    (activeThread k = none → ([k.last + 1, k.last + 2, k.last + 3, k.last].find? fun t => (mapGet {} k.threads t.val).state = .ready) = some t →
        ∃ u, exec (.threadSelect c) s = .next u ∧ getThread u c t = { x with state := .active } ∧ (getCc u c).last = t
          ∧ (∀ v, v ≠ t → getThread u c v = getThread s c v) ∧ quietCommand c s u)
    ∧ (activeThread k = some t → dictGet s keyThreadQuantum ≠ 0 → x.state = .active → x.inFlight = false → k.miss = none →
        (∃ v, v ≠ t ∧ (getThread s c v).state = .ready) →
        ∃ u, exec (.threadQuantum c) s = .next u ∧ getThread u c t = { x with state := .ready }
          ∧ (∀ v, v ≠ t → getThread u c v = getThread s c v) ∧ coreOnly c s u ∧ changesOnly [.cores] s u)
    ∧ (x.csr.xgtccmp.toNat ≤ ccTime s → x.inFlight = false → x.wfi = true → locallyPending s c t ≠ 0 → x.state = .taskWait →
        ∃ u, exec (.mtipCompare c t) s = .next u ∧ (getThread u c t).state = .ready ∧ (getThread u c t).wfi = false
          ∧ (getThread u c t).pc = x.pc ∧ (getThread u c t).csr = x.csr ∧ coreOnly c s u ∧ changesOnly [.cores] s u)
    ∧ (ccTime s < x.csr.xgtccmp.toNat → exec (.mtipCompare c t) s = .next s)
    ∧ (x.state = .active → x.inFlight = false → x.debugHalted = false → k.miss = none → takeable s c t = some cause →
        ∃ u, exec (.interruptTake c t) s = .next u ∧ trapped x (getThread u c t) true cause 0 ∧ (getThread u c t).state = .active
          ∧ (getCore u c).mem = (getCore s c).mem ∧ coreOnly c s u ∧ changesOnly [.cores] s u)

/-- R208, R209, R213, R214, R216: XGRN.PUSH queues a descriptor that its unit's checks pass, and refuses one with the status of its first
failing check, an unknown unit, a misaligned address, or a full queue where it may not wait; XGRN.STAT reads a unit's status word. Where the spec leaves a point open, this rests on the model's choices: log entry 39. -/
def Obligations.XgrnPosts : Prop :=
  ∀ (s : State) (c : CoreId) (t : ThreadId) (task : Bool) (rd : Nat) (a b : U64),
    let x := getThread s c t
    let k := getCore s c
    let u := bits b.toNat 0 4
    let desc : BitVec 512 := BitVec.ofNat 512 (leNat (coreRead k.mem a.toNat 64))
    let fits : Prop := unitQueued k u < (if u = 4 then 16 else 8)
    let settled : Prop := settledRange k.mem { base := a.toNat, rowBytes := 64, pitch := 0, rows := 1 } = true ∧ k.mem.holds.length < 128
    let refused (v : U64) : Prop := ∃ w, threadRetires (.xgrnPush c) s w c t rd v (x.pc + 4) ∧ (getCore w c).mem = k.mem
    let queue (y : Core) : List Posted :=
      if u < 4 then (getEngine y (Fin.ofNat 4 u)).queue else if u = 4 then y.vector.queue else (getGather y (Fin.ofNat 2 (u - 5))).queue
    (xgrnHas s c t 0 task rd a b →
      (7 ≤ u → refused 0x21)
      ∧ (u < 7 → a.toNat % 64 ≠ 0 → refused 0x06)
      ∧ (u < 7 → a.toNat % 64 = 0 → granuleBad x a.toNat 64 .load = none → settled →
          (¬ fits → b.getLsbD 4 = true → refused 0x20)
          ∧ (fits → postStatus s c u desc ≠ 0 → refused (BitVec.ofNat 64 (postStatus s c u desc)))
          ∧ (fits → postStatus s c u desc = 0 → ∃ w p, threadRetires (.xgrnPush c) s w c t rd 0 (x.pc + 4) ∧ queue (getCore w c) = queue k ++ [p]
              ∧ p.desc = desc ∧ p.thread = t ∧ p.machine = x.machine ∧ p.pc = x.pc ∧ (getCore w c).mem = k.mem))
      ∧ (∀ v, u < 7 → a.toNat % 64 = 0 → granuleBad x a.toNat 64 .load = some v →
          ∃ w, exec (.xgrnPush c) s = .next w ∧ threadCommand c s w ∧ trapped x (getThread w c t) false 5 (BitVec.ofNat 64 v)))
    ∧ (xgrnHas s c t 1 task rd a b → ∃ w, threadRetires (.xgrnStat c) s w c t rd
        (if 7 ≤ bits a.toNat 0 4 then 0x21 else BitVec.ofNat 64 (unitWord k (bits a.toNat 0 4))) (x.pc + 4) ∧ (getCore w c).mem = k.mem)

/-- R195, R214, R216: XGRN.HCLR answers the status word of a halted unit and clears its halt, to run its head descriptor again or with
the head removed; a gather given up leaves its holds, its destination still incomplete. A unit that is not halted is told so. -/
def Sys2Proof.Claims.XgrnHaltClear : Prop :=
  ∀ (s : State) (c : CoreId) (t : ThreadId) (task : Bool) (rd : Nat) (a b : U64) (e : EngineId) (g : GatherId),
    let x := getThread s c t
    let k := getCore s c
    let u := bits a.toNat 0 4
    let word := BitVec.ofNat 64 (unitWord k u)
    ∀ row ∈ ([(false, Instr.xgrnHclrRetry), (true, .xgrnHclrDiscard)] : List (Bool × (CoreId → Instr))),
      xgrnHas s c t 2 task rd a b → a.getLsbD 4 = row.1 →
      let does (v : U64) (P : State → Prop) : Prop := ∃ w, threadRetires (row.2 c) s w c t rd v (x.pc + 4) ∧ P w
      (7 ≤ u → does 0x21 fun w => (getCore w c).mem = k.mem)
      ∧ (u < 7 → unitIsHalted k u = false → does (BitVec.ofNat 64 (unitWord k u / 256 * 256 + 0x26)) fun w => (getCore w c).mem = k.mem)
      ∧ (u = e.val → (getEngine k e).halted = true → does word fun w => (getCore w c).mem = k.mem
          ∧ getEngine (getCore w c) e = { getEngine k e with halted := false, queue := if row.1 then (getEngine k e).queue.tail else (getEngine k e).queue })
      ∧ (u = 4 → k.vector.halted = true → does word fun w => (getCore w c).mem = k.mem
          ∧ (getCore w c).vector = { k.vector with halted := false, queue := if row.1 then k.vector.queue.tail else k.vector.queue })
      ∧ (∀ j, u = 5 + g.val → (getGather k g).halted = true → (getGather k g).running = some j → row.1 = true → does word fun w =>
          getGather (getCore w c) g = { getGather k g with halted := false, running := none }
            ∧ (getCore w c).mem = { k.mem with holds := k.mem.holds.filter fun h => h.owner ≠ .gather g })
      ∧ (∀ j, u = 5 + g.val → (getGather k g).halted = true → (getGather k g).running = some j → row.1 = false → j.waiting = [] → j.fetching = [] → j.lines = [] →
          (gatherDesc j.post.desc).count ≤ j.next → does word fun w =>
            getGather (getCore w c) g = { getGather k g with halted := false, running := some { j with stop := none } } ∧ (getCore w c).mem = k.mem)

/-- R175, R210 to R212, R216: XGRN.WOPEN and XGRN.ROPEN place a hold under the thread's first free handle and answer it, or the status
that refuses; XGRN.CLOSE ends one; XGRN.RWAIT retires once its range is complete and unheld. -/
def Sys2Proof.Claims.XgrnHandles : Prop :=
  ∀ (s : State) (c : CoreId) (t : ThreadId) (task : Bool) (rd : Nat) (a b : U64) (h : Fin 4),
    let x := getThread s c t
    let m := (getCore s c).mem
    let r := xRange a b
    let free_ : Option Nat := (List.range 4).find? fun h => !(openHandles m t).contains h
    let does (i : Instr) (v : U64) (P : CoreMem → Prop) : Prop := ∃ w, threadRetires i s w c t rd v (x.pc + 4) ∧ P (getCore w c).mem
    let o : Owner := .thread t h
    (∀ row ∈ ([(64, true, Instr.xgrnWopen), (65, false, .xgrnRopen)] : List (Nat × Bool × (CoreId → Instr))), xgrnHas s c t row.1 task rd a b →
      (rangeInside r = false → does (row.2.2 c) (BitVec.ofNat 64 (2 ^ 63 + 0x07)) fun n => n = m)
      ∧ (rangeInside r = true → rangeBad x.csr x.machine r (if row.2.1 then .store else .load) = none → free_ = none →
          does (row.2.2 c) (BitVec.ofNat 64 (2 ^ 63 + 0x22)) fun n => n = m)
      ∧ (rangeInside r = true → rangeBad x.csr x.machine r (if row.2.1 then .store else .load) = none → free_ = some h.val → m.holds.length < 128 →
          (row.2.1 = true → mayWrite m o r = true → does (row.2.2 c) (BitVec.ofNat 64 h.val) fun n =>
            n.holds = m.holds ++ [writeHold o .whole r] ∧ writeBegun m n r)
          ∧ (row.2.1 = false → mayRead m o r = true → does (row.2.2 c) (BitVec.ofNat 64 h.val) fun n =>
            n = { m with holds := m.holds ++ [readHold o .whole r] })))
    ∧ (xgrnHas s c t 66 task rd a b →
        (4 ≤ a.toNat → does (.xgrnClose c) 0x23 fun n => n = m)
        ∧ (a.toNat = h.val → (∀ y ∈ m.holds, y.owner ≠ o) → does (.xgrnClose c) 0x23 fun n => n = m)
        ∧ (∀ y, a.toNat = h.val → (m.holds.find? fun z => z.owner = o) = some y → does (.xgrnClose c) 0 fun n =>
            n.holds = m.holds.filter (fun z => !(z.owner = o && z.part = .whole)) ∧ n.bytes = m.bytes
              ∧ ∀ g, granuleComplete n g = (granuleComplete m g || (y.write && rangeCovers y.range g))))
    ∧ (xgrnHas s c t 67 task rd a b →
        (rangeInside r = false → does (.xgrnRwait c) 0x07 fun n => n = m)
        ∧ (rangeInside r = true → rangeBad x.csr x.machine r .load = none → settledRange m r = true → does (.xgrnRwait c) 0 fun n => n = m))

/-- R203, R244: a command that may not retire waits by its class: its thread leaves the core, or stalls it, with pc and registers as they
were; once its condition holds it is READY again, or retires. -/
def Sys2Proof.Claims.XgrnWaits : Prop :=
  ∀ (s : State) (c : CoreId) (t : ThreadId) (task : Bool) (rd : Nat) (a b : U64),
    let x := getThread s c t
    let m := (getCore s c).mem
    (∀ row ∈ ([(64, true, Instr.xgrnWopen), (65, false, .xgrnRopen)] : List (Nat × Bool × (CoreId → Instr))), xgrnHas s c t row.1 task rd a b →
      ∀ h : Fin 4, rangeInside (xRange a b) = true → rangeBad x.csr x.machine (xRange a b) (if row.2.1 then .store else .load) = none →
      ((List.range 4).find? fun h => !(openHandles m t).contains h) = some h.val →
      (if row.2.1 then mayWrite m (.thread t h) (xRange a b) else mayRead m (.thread t h) (xRange a b)) = false →
        ∃ w, exec (row.2.2 c) s = .next w ∧ threadCommand c s w ∧ (getThread w c t).pc = x.pc ∧ (getThread w c t).regs = x.regs
          ∧ (getThread w c t).state = (if task then .taskWait else .dataStall) ∧ (getCore w c).mem = m)
    ∧ (∀ v : CaravanId, xgrnHas s c t 129 task rd a b → a.toNat = v.val → (getCv s v.val).state ≠ .free → (getCv s v.val).core = c → cvEnded (getCv s v.val) = false →
        ∃ w, exec (.xgrnCvwait c) s = .next w ∧ threadCommand c s w ∧ (getThread w c t).pc = x.pc
          ∧ (getThread w c t).state = (if (cvDesc (getCv s v.val).desc).task then .taskWait else .dataStall))
    ∧ (x.inFlight = false → x.wfi = false → x.state = .taskWait → waitOver s c t = true →
        ∃ w, exec (.waitConditionObserved c t) s = .next w ∧ getThread w c t = { x with state := .ready } ∧ coreOnly c s w ∧ changesOnly [.cores] s w)
    ∧ (∀ r1 r2, x.inFlight = false → x.wfi = false → x.state = .dataStall → x.stopping = false → decide32 x = some (67, rd, r1, r2) →
        rangeInside (xRange (regGet x r1) (regGet x r2)) = true → rangeBad x.csr x.machine (xRange (regGet x r1) (regGet x r2)) .load = none →
        settledRange m (xRange (regGet x r1) (regGet x r2)) = true →
        ∃ w, threadRetires (.waitConditionObserved c t) s w c t rd 0 (x.pc + 4) ∧ (getThread w c t).state = .active)
    ∧ (x.inFlight = true ∨ x.wfi = true ∨ (x.state ≠ .dataStall ∧ x.state ≠ .taskWait) ∨ waitOver s c t = false →
        exec (.waitConditionObserved c t) s = .next s)

/-- The Xgrn commands on halts, handles and waits. Where the spec leaves a point open, this rests on the model's choices: log entry 39. -/
def Obligations.XgrnHandles : Prop := Claims.XgrnHaltClear ∧ Claims.XgrnHandles ∧ Claims.XgrnWaits

/-- R204, R217: XGRN.YIELD, XGRN.TSTART, XGRN.TSTOP and XGRN.TSIG. -/
def Sys2Proof.Claims.XgrnThreads : Prop :=
  ∀ (s : State) (c : CoreId) (t v : ThreadId) (task : Bool) (rd : Nat) (a b : U64),
    let x := getThread s c t
    let y := getThread s c v
    let mine (h : Hold) : Bool := match h.owner with | .thread u _ => u = v | _ => false
    let does (i : Instr) (value : U64) (P : State → Prop) : Prop := ∃ w, threadRetires i s w c t rd value (x.pc + 4) ∧ P w
    (xgrnHas s c t 256 task rd a b → ∃ w, threadRetires (.xgrnYield c) s w c t 0 0 (x.pc + 4) ∧ (getThread w c t).state = .ready)
    ∧ (xgrnHas s c t 257 task rd a b → a.toNat = v.val → v ≠ t → y.state = .idle → does (.xgrnTstart c) 0 fun w =>
        getThread w c v = { pc := b &&& ~~~(1 : U64), machine := true, state := .ready })
    ∧ (xgrnHas s c t 257 task rd a b → 4 ≤ a.toNat ∨ (a.toNat = v.val ∧ y.state ≠ .idle) → does (.xgrnTstart c) 0x27 fun w =>
        v ≠ t → getThread w c v = y)
    ∧ (xgrnHas s c t 258 task rd a b → a.toNat = v.val → v ≠ t → y.inFlight = false → does (.xgrnTstop c) 0 fun w =>
        getThread w c v = { y with state := .idle, wfi := false, issued := false, tagged := false, stopping := false }
          ∧ (getCore w c).mem = { (getCore s c).mem with holds := (getCore s c).mem.holds.filter fun h => !mine h })
    ∧ (xgrnHas s c t 258 task rd a b → a.toNat = t.val → does (.xgrnTstop c) 0 fun w => (getThread w c t).state = .idle)
    ∧ (xgrnHas s c t 258 task rd a b → 4 ≤ a.toNat → does (.xgrnTstop c) 0x27 fun w => (getCore w c).mem = (getCore s c).mem)
    ∧ (xgrnHas s c t 259 task rd a b → a.toNat = v.val → v ≠ t → does (.xgrnTsig c) 0 fun w =>
        getThread w c v = { y with csr := { y.csr with msip := true } })
    ∧ (xgrnHas s c t 259 task rd a b → 4 ≤ a.toNat ∨ a.toNat = t.val → does (.xgrnTsig c) 0x27 fun w => (getThread w c t).csr.msip = x.csr.msip)

/-- R239, R243 to R247, R254, R262, R263: a control core arms a caravan, resumes or discards a halted one, takes the end of one, and marks
one; each answers the status word of R245, or a status that refuses. -/
def Sys2Proof.Claims.XgrnCaravans : Prop :=
  ∀ (s : State) (c : CoreId) (t : ThreadId) (task : Bool) (rd : Nat) (a b : U64) (v : CaravanId),
    let x := getThread s c t
    let y := getCv s v.val
    let mem := (getCore s c).mem
    let first : Nat := leNat (coreRead mem a.toNat 1)
    let size := if first = 2 then 192 else 128
    let desc : BitVec 1536 := BitVec.ofNat 1536 (leNat (coreRead mem a.toNat size))
    let word (z : Caravan) (status : Nat) : U64 := BitVec.ofNat 64 (status % 256 + (cvCode z.state) <<< 8 + (sat32 (linesDone z)) <<< 32)
    let does (i : Instr) (value : U64) (P : State → Prop) : Prop := ∃ w, threadRetires i s w c t rd value (x.pc + 4) ∧ P w
    let armedLast (w : State) : Prop := (getCore w c).stream.armed = (getCore s c).stream.armed ++ [v]
    (xgrnHas s c t 128 task rd a b → a ≠ 1 → a ≠ 2 → granuleBad x a.toNat size .load = none → checkCaravan (sysAddr s) a.toNat desc = 0 → b.toNat = v.val →
        y.state = .free ∨ y.state = .done ∨ y.state = .failed → cvBank v.val = c.val / 48 →
        ((namedCores (sysAddr s) (cvDesc desc)).find? (coreOff s)) = none →
        ∃ z : Caravan, z = { state := .armed, desc := desc, core := c, thread := t, machine := x.machine }
          ∧ does (.xgrnCvarm c) (word z 0) fun w => getCv w v.val = z ∧ armedLast w)
    ∧ (xgrnHas s c t 128 task rd a b → a ≠ 1 → a ≠ 2 → granuleBad x a.toNat size .load = none → checkCaravan (sysAddr s) a.toNat desc = 0 → b.toNat = v.val →
        y.state = .armed ∨ y.state = .running ∨ y.state = .faultWait ∨ y.state = .halted →
        does (.xgrnCvarm c) (word y 0x40) fun w => getCv w v.val = y)
    ∧ (xgrnHas s c t 128 task rd a b → a = 1 → b.toNat = v.val → y.state = .halted → y.core = c → y.ending = none →
        ((namedCores (sysAddr s) (cvDesc y.desc)).find? (coreOff s)) = none →
        ∃ z : Caravan, z = { y with state := .armed, status := 0, irq := false, fault := none, page := none }
          ∧ does (.xgrnCvarmResume c) (word z 0) fun w => getCv w v.val = z ∧ armedLast w)
    ∧ (xgrnHas s c t 128 task rd a b → a = 1 → b.toNat = v.val → y.state = .halted → y.core = c → y.ending = none →
        ((namedCores (sysAddr s) (cvDesc y.desc)).find? (coreOff s)).isSome = true →
        does (.xgrnCvarmResume c) (word y 0x45) fun w => getCv w v.val = y)
    ∧ (xgrnHas s c t 128 task rd a b → a = 2 → b.toNat = v.val → y.state = .halted → y.core = c → y.ending = none →
        does (.xgrnCvarmDiscard c) (word { y with state := .failed } y.status) fun w =>
          (mayReport s v = true → (getCv w v.val).state = .failed ∧ granuleComplete (getCore w c).mem (cvDesc y.desc).granule = true)
            ∧ (mayReport s v = false → (getCv w v.val).ending = some (.failed, y.status)))
    ∧ (∀ row ∈ ([(129, a, Instr.xgrnCvwait), (130, a, .xgrnCvmark)] : List (Nat × U64 × (CoreId → Instr))), xgrnHas s c t row.1 task rd a b →
        (262144 ≤ a.toNat → does (row.2.2 c) 0x07 fun w => getCv w v.val = y)
        ∧ (a.toNat = v.val → y.state = .free → does (row.2.2 c) (word {} 0x43) fun w => getCv w v.val = y)
        ∧ (a.toNat = v.val → y.state ≠ .free → y.core ≠ c → does (row.2.2 c) (word y 0x42) fun w => getCv w v.val = y))
    ∧ (xgrnHas s c t 129 task rd a b → a.toNat = v.val → y.state ≠ .free → y.core = c → cvEnded y = true →
        ∃ z : Caravan, z = { y with irq := false, state := if y.state = .halted then .halted else .free }
          ∧ does (.xgrnCvwait c) (word z y.status) fun w => getCv w v.val = z)
    ∧ (xgrnHas s c t 130 task rd a b → a.toNat = v.val → y.state ≠ .free → y.core = c → y.state ≠ .done → y.state ≠ .failed →
        ∃ z : Caravan, z = (if (cvDesc y.desc).regulated then y else { y with markLimit := max y.markLimit b.toNat })
          ∧ does (.xgrnCvmark c) (word z 0) fun w => getCv w v.val = z)

/-- The Xgrn commands on threads and caravans. Where the spec leaves a point open, this rests on the model's choices: log entry 37. -/
def Obligations.XgrnThreadsCaravans : Prop := Claims.XgrnThreads ∧ Claims.XgrnCaravans

/-- R284, R286: XGRN.QCLAIM takes the oldest entry of a ring that serves the core, and XGRN.QDONE posts 64 B of core memory to one; the
thread waits for the queue manager, its command in flight. A ring that does not serve the core refuses. Where the spec leaves a point open, this rests on the model's choices: log entries 29, 39. -/
def Obligations.XgrnQueues : Prop :=
  ∀ (s : State) (c : CoreId) (t : ThreadId) (task : Bool) (rd : Nat) (a b : U64) (e : PoolEntry) (rest : List PoolEntry),
    let x := getThread s c t
    let r := bits a.toNat 0 14
    let y := getRing s r
    let mem := (getCore s c).mem
    let does (i : Instr) (value : U64) (P : State → Prop) : Prop := ∃ w, threadRetires i s w c t rd value (x.pc + 4) ∧ P w
    let flies (i : Instr) (P : State → Prop) : Prop :=
      ∃ w, exec i s = .next w ∧ threadCommand c s w ∧ (getThread w c t).inFlight = true ∧ (getThread w c t).pc = x.pc
        ∧ (getThread w c t).regs = x.regs ∧ (getCore w c).mem = mem ∧ P w
    (xgrnHas s c t 192 task rd a b →
      (b.toNat % 64 ≠ 0 → does (.xgrnQclaim c) (BitVec.ofNat 64 (2 ^ 63 + 0x06)) fun w => getRing w r = y)
      ∧ (b.toNat % 64 = 0 → granuleBad x b.toNat 64 .store = none → claimRing y r c = false →
          does (.xgrnQclaim c) (BitVec.ofNat 64 (2 ^ 63 + 0x25)) fun w => getRing w r = y)
      ∧ (b.toNat % 64 = 0 → granuleBad x b.toNat 64 .store = none → claimRing y r c = true → ringErr y = true ∨ ringCount y ≤ liveClaims y →
          a.getLsbD 31 = true → does (.xgrnQclaim c) (BitVec.ofNat 64 (2 ^ 63 + 0x24)) fun w => getRing w r = y)
      ∧ (b.toNat % 64 = 0 → granuleBad x b.toNat 64 .store = none → claimRing y r c = true → ringErr y = false → liveClaims y < ringCount y →
          y.pool = e :: rest → flies (.xgrnQclaim c) fun w =>
            getRing w r = { y with pool := rest, claims := y.claims ++ [{ core := c, thread := t, dest := b.toNat, rd := rd, entry := e }] }))
    ∧ (xgrnHas s c t 193 task rd a b → granuleBad x b.toNat 64 .load = none →
      let serves : Prop := 2 ≤ r ∧ ringEn y = true ∧ ringProducer y = 1 ∧ (ringFld y 16 7 = c.val ∨ ringFld y 16 7 = 0x7F)
      (¬ serves → does (.xgrnQdone c) 0x25 fun w => getRing w r = y)
      ∧ (serves → ringErr y = false → ringRoom y = true → flies (.xgrnQdone c) fun w => ∃ z, getRing w r = z ∧ ∃ p, z.posts = y.posts ++ [p]
          ∧ p.poster = some (c, t, rd) ∧ p.ack = none ∧ p.bytes = coreRead mem b.toNat 64))

/-- R476 in part, and the chapter's opening: a command of an engine changes that engine and nothing else, whatever the state. -/
def Sys2Proof.Claims.EngineIsolated : Prop :=
  ∀ (c : Instr) (e : SeId) (s : State), seCommand c = some e → ∃ t, exec c s = .next t ∧ engineOnly e s t

/-- R476: what a command leaves of its engine depends only on that engine, on the command's own inputs, and on whether the region's
clocks run. -/
def Sys2Proof.Claims.EngineActsOnInputsAlone : Prop :=
  ∀ (c : Instr) (e : SeId) (s s' t t' : State), seCommand c = some e → getSe s e.val = getSe s' e.val →
    regionClocked s (e.val / 24) = regionClocked s' (e.val / 24) → exec c s = .next t → exec c s' = .next t' → getSe t e.val = getSe t' e.val

/-- A signal engine changes only itself, and acts on its frames and its inputs alone. Where the spec leaves a point open, this rests on the model's choices: log entry 59. -/
def Obligations.EngineIsolated : Prop := Claims.EngineIsolated ∧ Claims.EngineActsOnInputsAlone

/-- R463, R465: MAC, MSU, MPY, ADDA, CLRA and SHA. -/
def Sys2Proof.Claims.EngineAccumulators : Prop :=
  ∀ (s : State) (e : SeId),
    let x := getSe s e.val
    let w := seWord x
    let acc := bit w 13
    let old := (seAcc x acc).toInt
    let a := seOperand (seS1 w)
    let b := seOperand (seS2 w)
    let p := (seValue x a).toInt * (seValue x b).toInt
    (seHas s e .mac → ∃ t, exec (.seMac e) s = .next t ∧ accumulates x (getSe t e.val) acc (old + p) [a, b])
    ∧ (seHas s e .msu → ∃ t, exec (.seMsu e) s = .next t ∧ accumulates x (getSe t e.val) acc (old - p) [a, b])
    ∧ (seHas s e .mpy → ∃ t, exec (.seMpy e) s = .next t ∧ accumulates x (getSe t e.val) acc p [a, b])
    ∧ (seHas s e .adda → ∃ t, exec (.seAdda e) s = .next t
        ∧ accumulates x (getSe t e.val) acc (old + (seValue x a).toInt * (if seFrac x then 2 ^ 23 else 1)) [a])
    ∧ (seHas s e .clra → ∃ t, exec (.seClra e) s = .next t ∧ accumulates x (getSe t e.val) acc 0 [])
    ∧ (seHas s e .sha → ∃ t, exec (.seSha e) s = .next t ∧ accumulates x (getSe t e.val) acc
        (if bits w 8 5 < 16 then old * 2 ^ bits w 8 5 else old / 2 ^ (32 - bits w 8 5)) [])

/-- R463, R465: ADD, SUB, AND, OR, XOR, SHF, MIN, MAX, ABS and MOV. -/
def Sys2Proof.Claims.EngineArithmetic : Prop :=
  ∀ (s : State) (e : SeId),
    let x := getSe s e.val
    let w := seWord x
    let a := seOperand (seS1 w)
    let b := seOperand (seS2 w)
    let va := seValue x a
    let vb := seValue x b
    let ranged (v : Int) (y : SigEngine) (os : List SeOperand) : Prop :=
      computes x y (BitVec.ofInt 24 (intoRange 24 (seSat x) v)) (outOfRange 24 v) os
    (seHas s e .add → ∃ t, exec (.seAdd e) s = .next t ∧ ranged (va.toInt + vb.toInt) (getSe t e.val) [a, b])
    ∧ (seHas s e .sub → ∃ t, exec (.seSub e) s = .next t ∧ ranged (va.toInt - vb.toInt) (getSe t e.val) [a, b])
    ∧ (seHas s e .and → ∃ t, exec (.seAnd e) s = .next t ∧ computes x (getSe t e.val) (va &&& vb) false [a, b])
    ∧ (seHas s e .or → ∃ t, exec (.seOr e) s = .next t ∧ computes x (getSe t e.val) (va ||| vb) false [a, b])
    ∧ (seHas s e .xor → ∃ t, exec (.seXor e) s = .next t ∧ computes x (getSe t e.val) (va ^^^ vb) false [a, b])
    ∧ (seHas s e .shf → ∃ t, exec (.seShf e) s = .next t
        ∧ ranged (if bits w 14 6 < 32 then va.toInt * 2 ^ bits w 14 6 else va.toInt / 2 ^ (64 - bits w 14 6)) (getSe t e.val) [a])
    ∧ (seHas s e .min → ∃ t, exec (.seMin e) s = .next t ∧ computes x (getSe t e.val) (BitVec.ofInt 24 (min va.toInt vb.toInt)) false [a, b])
    ∧ (seHas s e .max → ∃ t, exec (.seMax e) s = .next t ∧ computes x (getSe t e.val) (BitVec.ofInt 24 (max va.toInt vb.toInt)) false [a, b])
    ∧ (seHas s e .abs → ∃ t, exec (.seAbs e) s = .next t
        ∧ computes x (getSe t e.val) (BitVec.ofInt 24 (intoRange 24 (seSat x) |va.toInt|)) (seSat x && outOfRange 24 |va.toInt|) [a])
    ∧ (seHas s e .mov → ∃ t, exec (.seMov e) s = .next t ∧ computes x (getSe t e.val) va false [a])

/-- Accumulator and arithmetic operations of a signal engine. -/
def Obligations.SignalArithmetic : Prop := Claims.EngineAccumulators ∧ Claims.EngineArithmetic

/-- R458, R462, R464, R465: RDA, ST, LDI, LDIH, MOVP, GETP, SETSR, GETSR, SETROT and NOP. -/
def Sys2Proof.Claims.EngineMoves : Prop :=
  ∀ (s : State) (e : SeId),
    let x := getSe s e.val
    let w := seWord x
    let n := bits w 21 5
    let same (y : SigEngine) : Prop :=
      seAcc y false = seAcc x false ∧ seAcc y true = seAcc x true ∧ y.pc = nextPc x ∧ seFrame x y
    let data (y : SigEngine) (v : BitVec 24) : Prop :=
      onlyRegister x y n v ∧ y.x = x.x ∧ y.y = x.y ∧ flagsKept x y ∧ pointersAfter x y [] ∧ same y
    (seHas s e .rda → ∃ t, exec (.seRda e) s = .next t ∧
        let y := getSe t e.val
        let a := (seAcc x (bit w 13)).toInt
        let low := a % 2 ^ 23
        let up := (seBank x).sr.getLsbD 1 ∧ (2 ^ 22 < low ∨ (low = 2 ^ 22 ∧ a / 2 ^ 23 % 2 = 1))
        let v := if seFrac x then a / 2 ^ 23 + (if up then 1 else 0) else a
        let r := BitVec.ofInt 24 (intoRange 24 (seSat x) v)
        let d := seOperand (seS2 w)
        flagsAfter x y (r = 0) r.msb 7 (outOfRange 24 v) ∧ pointersAfter x y [d] ∧ same y
          ∧ (match d with
            | .reg k => onlyRegister x y k r ∧ y.x = x.x ∧ y.y = x.y
            | .mem b p _ =>
              let at_ := seAddr b (mapGet 0 (seBank x).pointers (sePointer b p))
              y.d = x.d ∧ y.shadowD = x.shadowD
                ∧ (∀ k, mapGet 0 y.x k = if b = 0 ∧ k = at_ then seStored r else mapGet 0 x.x k)
                ∧ (∀ k, mapGet 0 y.y k = if b = 1 ∧ k = at_ then seStored r else mapGet 0 x.y k)))
    ∧ (seHas s e .st → ∃ t, exec (.seSt e) s = .next t ∧
        let y := getSe t e.val
        ∃ b p post, seOperand (seS2 w) = .mem b p post ∧ b < 2 ∧
          let at_ := seAddr b (mapGet 0 (seBank x).pointers (sePointer b p))
          let v := seStored (seReg x (bits w 20 5))
          (∀ k, mapGet 0 y.x k = if b = 0 ∧ k = at_ then v else mapGet 0 x.x k)
            ∧ (∀ k, mapGet 0 y.y k = if b = 1 ∧ k = at_ then v else mapGet 0 x.y k)
            ∧ y.d = x.d ∧ y.shadowD = x.shadowD ∧ flagsKept x y ∧ pointersAfter x y [.mem b p post] ∧ same y)
    ∧ (seHas s e .ldi → ∃ t, exec (.seLdi e) s = .next t ∧ data (getSe t e.val) ((BitVec.ofNat 21 w).signExtend 24))
    ∧ (seHas s e .ldih → ∃ t, exec (.seLdih e) s = .next t
        ∧ data (getSe t e.val) (BitVec.ofNat 12 w ++ (seReg x n).extractLsb' 0 12))
    ∧ (seHas s e .getp → ∃ t, exec (.seGetp e) s = .next t ∧ data (getSe t e.val) (mapGet 0 (seBank x).pointers (bits w 0 4)))
    ∧ (seHas s e .getsr → ∃ t, exec (.seGetsr e) s = .next t ∧ ∃ v : BitVec 24, data (getSe t e.val) v
        ∧ ∀ i, i < 24 → v.getLsbD i = if i = 15 then x.inh else (seBank x).sr.getLsbD i)
    ∧ (seHas s e .movp → ∃ t, exec (.seMovp e) s = .next t ∧
        let y := getSe t e.val
        (∀ k, mapGet 0 (seBank y).pointers k = if k = bits w 0 4 then seReg x n else mapGet 0 (seBank x).pointers k)
          ∧ y.d = x.d ∧ y.shadowD = x.shadowD ∧ y.x = x.x ∧ y.y = x.y ∧ flagsKept x y ∧ same y)
    ∧ (seHas s e .setsr → ∃ t, exec (.seSetsr e) s = .next t ∧
        let y := getSe t e.val
        (∀ i, i < 4 → (seBank y).sr.getLsbD i = (seReg x n).getLsbD i)
          ∧ (∀ i, i = 6 ∨ i = 7 → (seBank y).sr.getLsbD i = ((seBank x).sr.getLsbD i && !(seReg x n).getLsbD i))
          ∧ (∀ i, i = 4 ∨ i = 5 ∨ i = 8 ∨ i = 9 → (seBank y).sr.getLsbD i = (seBank x).sr.getLsbD i)
          ∧ y.d = x.d ∧ y.shadowD = x.shadowD ∧ y.x = x.x ∧ y.y = x.y ∧ pointersAfter x y [] ∧ same y)
    ∧ (seHas s e .setrot → ∃ t, exec (.seSetrot e) s = .next t ∧
        let y := getSe t e.val
        bits (seBank y).sr.toNat 8 2 = bits w 0 2 ∧ (x.pc ≠ (seBank x).le → bits (seBank y).sr.toNat 10 5 = 0)
          ∧ (∀ i, i < 8 → (seBank y).sr.getLsbD i = (seBank x).sr.getLsbD i)
          ∧ y.d = x.d ∧ y.shadowD = x.shadowD ∧ y.x = x.x ∧ y.y = x.y ∧ pointersAfter x y [] ∧ same y)
    ∧ (seHas s e .nop → ∃ t, exec (.seNop e) s = .next t ∧
        let y := getSe t e.val
        y.d = x.d ∧ y.shadowD = x.shadowD ∧ y.x = x.x ∧ y.y = x.y ∧ flagsKept x y ∧ pointersAfter x y [] ∧ same y)

/-- R465, R466, R468, R471: LOOP, BR, RTI, HALT, an illegal instruction and an interrupt. -/
def Sys2Proof.Claims.EngineFlow : Prop :=
  ∀ (s : State) (e : SeId),
    let x := getSe s e.val
    let w := seWord x
    let b := seBank x
    let data (y : SigEngine) : Prop := y.d = x.d ∧ y.shadowD = x.shadowD ∧ y.x = x.x ∧ y.y = x.y ∧ y.c = x.c
    (seHas s e .loop → ∃ t, exec (.seLoop e) s = .next t ∧
        let y := getSe t e.val
        let count := if bit w 25 then bits (seReg x (bits w 15 5)).toNat 0 16 else bits w 15 10
        (seBank y).ls = x.pc + 1 ∧ (seBank y).le = x.pc + bits w 4 10 ∧ (seBank y).lc = count ∧ (seBank y).rot = bit w 14
          ∧ y.pc = (if count = 0 then (x.pc + bits w 4 10 + 1) % 1024 else (x.pc + 1) % 1024) ∧ (seBank y).sr = b.sr
          ∧ (seBank y).pointers = b.pointers ∧ data y ∧ seFrame x y)
    ∧ (seHas s e .br → ∀ din dout, ∃ t, exec (.seBr e din dout) s = .next t ∧
        let y := getSe t e.val
        let holds : Bool := match bits w 22 4 with
          | 0 => true
          | 1 => b.sr.getLsbD 4
          | 2 => !b.sr.getLsbD 4
          | 3 => b.sr.getLsbD 5
          | 4 => !b.sr.getLsbD 5
          | 5 => b.sr.getLsbD 6
          | 6 => b.sr.getLsbD 7
          | 7 => din
          | _ => dout
        data y ∧ seFrame x y ∧ (seBank y).pointers = b.pointers ∧ seAcc y false = seAcc x false ∧ seAcc y true = seAcc x true
          ∧ (if holds then y.pc = bits w 0 10 ∧ (seBank y).lc = 0 ∧ (seBank y).sr = b.sr else y.pc = nextPc x ∧ flagsKept x y))
    ∧ (seHas s e .rti → ∃ t, exec (.seRti e) s = .next t ∧
        let y := getSe t e.val
        x.inh = true ∧ y.inh = false ∧ y.pc = x.resume ∧ y.issued = false ∧ y.main = x.main ∧ y.shadow = x.shadow ∧ data y ∧ y.cause = x.cause)
    ∧ (seHas s e .halt → ∃ t, exec (.seHalt e) s = .next t ∧
        let y := getSe t e.val
        y.cause = .halt ∧ y.main = x.main ∧ y.shadow = x.shadow ∧ data y ∧ y.inh = x.inh)
    ∧ (seRuns s e = true → x.wait = .none → seDecode x = none → x.port = none → ∃ t, exec (.seIllegalInstruction e) s = .next t
        ∧ getSe t e.val = { x with cause := .illegal })
    ∧ (seRuns s e = true → x.inh = false → x.main.sr.getLsbD 3 = true → x.issued = true → ∃ t, exec (.seInterrupt e) s = .next t ∧
        let y := getSe t e.val
        y.inh = true ∧ y.pc = 0x3F0 ∧ y.resume = x.pc ∧ y.wait = .none ∧ y.main = x.main ∧ y.shadow = x.shadow ∧ data y)
    ∧ (x.cause ≠ .running ∨ x.inh = true ∨ x.main.sr.getLsbD 3 = false ∨ x.issued = false → exec (.seInterrupt e) s = .next s)

/-- R472 to R475: IN, OUT, their handshakes, SE_START and the memory port. An access of the port has an edge of its own, or shares that of
the next instruction that issues: then a read gives the word before the instruction, and where both write, the instruction's data stands. -/
def Sys2Proof.Claims.EnginePorts : Prop :=
  ∀ (s : State) (e : SeId),
    let x := getSe s e.val
    let w := seWord x
    let mems (y : SigEngine) : Prop := y.x = x.x ∧ y.y = x.y ∧ y.c = x.c
    (seHas s e .in → ∃ t, exec (.seIn e) s = .next t ∧
        let y := getSe t e.val
        y.wait = .input w ∧ y.pc = x.pc ∧ y.d = x.d ∧ y.shadowD = x.shadowD ∧ y.main = x.main ∧ y.shadow = x.shadow ∧ mems y)
    ∧ (seHas s e .out → ∃ t, exec (.seOut e) s = .next t ∧
        let y := getSe t e.val
        y.wait = .output w ∧ y.dout = seValue x (seOperand (seS1 w)) ∧ y.pc = x.pc ∧ y.d = x.d ∧ y.shadowD = x.shadowD
          ∧ y.main = x.main ∧ y.shadow = x.shadow ∧ mems y)
    ∧ (∀ v din, seRuns s e = true → x.wait = .input v → ∃ t, exec (.seInHandshake e din) s = .next t ∧
        let y := getSe t e.val
        y.wait = .none ∧ onlyRegister x y (bits v 8 5) din ∧ y.pc = nextPc x ∧ flagsKept x y ∧ mems y ∧ y.inh = x.inh ∧ y.cause = x.cause)
    ∧ (∀ v, seRuns s e = true → x.wait = .output v → ∃ t, exec (.seOutHandshake e) s = .next t ∧
        let y := getSe t e.val
        y.wait = .none ∧ y.dout = x.dout ∧ y.d = x.d ∧ y.shadowD = x.shadowD ∧ pointersAfter x y [seOperand (seS1 v)] ∧ y.pc = nextPc x
          ∧ flagsKept x y ∧ mems y ∧ y.inh = x.inh ∧ y.cause = x.cause)
    ∧ (regionClocked s (e.val / 24) = true → x.cause ≠ .running → ∃ t, exec (.seStart e) s = .next t ∧
        let y := getSe t e.val
        y.cause = .running ∧ y.pc = 0 ∧ y.inh = false ∧ (seBank y).lc = 0 ∧ y.cache = {} ∧ y.d = x.d ∧ y.shadowD = x.shadowD
          ∧ y.main = { x.main with lc := 0 } ∧ mems y)
    ∧ (∀ sel addr we wdata, regionClocked s (e.val / 24) = true → x.port = none → sel.val ≠ 3 →
        let a : SePort := { sel := sel.val, addr := if sel.val = 2 then addr.val else addr.val % 512, write := if we then some wdata else none }
        (∃ t, exec (.seMemoryPortAccess e sel addr we wdata true) s = .next t ∧ getSe t e.val = { x with port := some a })
        ∧ ∃ t, exec (.seMemoryPortAccess e sel addr we wdata false) s = .next t ∧
          let y := getSe t e.val
          (∀ k, mapGet 0 y.x k = if sel.val = 0 ∧ we = true ∧ k = addr.val % 512 then wdata else mapGet 0 x.x k)
            ∧ (∀ k, mapGet 0 y.y k = if sel.val = 1 ∧ we = true ∧ k = addr.val % 512 then wdata else mapGet 0 x.y k)
            ∧ (∀ k, mapGet 0 y.c k = if sel.val = 2 ∧ we = true ∧ k = addr.val then wdata else mapGet 0 x.c k)
            ∧ y.rdata = (if we then x.rdata else match sel.val with
                | 0 => mapGet 0 x.x (addr.val % 512)
                | 1 => mapGet 0 x.y (addr.val % 512)
                | _ => mapGet 0 x.c addr.val)
            ∧ y.cache = (if sel.val = 2 ∧ we = true then {} else x.cache)
            ∧ y.d = x.d ∧ y.shadowD = x.shadowD ∧ y.main = x.main ∧ y.shadow = x.shadow ∧ y.pc = x.pc ∧ y.cause = x.cause ∧ y.port = none)
    ∧ (∀ sel addr we wdata shared, sel.val = 3 ∨ regionClocked s (e.val / 24) = false →
        exec (.seMemoryPortAccess e sel addr we wdata shared) s = .next s)
    ∧ (∀ b, x.port = some b →
      (∀ sel addr we wdata shared, regionClocked s (e.val / 24) = true → sel.val ≠ 3 →
        ∃ t u, exec (.seMemoryPortAccess e sel addr we wdata shared) s = .next t
          ∧ exec (.seMemoryPortAccess e sel addr we wdata shared) (setSe s e.val { sePortAccess x x none b with port := none }) = .next u
          ∧ getSe t e.val = getSe u e.val)
      ∧ (seRuns s e = true → x.wait = .none → seDecode x = none → ∃ t, exec (.seIllegalInstruction e) s = .next t
          ∧ getSe t e.val = { sePortAccess x { x with cause := .illegal } none b with port := none })
      ∧ ∀ din dout, ∀ row ∈ ([(.nop, .seNop e), (.mac, .seMac e), (.msu, .seMsu e), (.mpy, .seMpy e), (.adda, .seAdda e), (.clra, .seClra e), (.sha, .seSha e),
            (.rda, .seRda e), (.add, .seAdd e), (.sub, .seSub e), (.and, .seAnd e), (.or, .seOr e), (.xor, .seXor e), (.shf, .seShf e), (.min, .seMin e),
            (.max, .seMax e), (.abs, .seAbs e), (.mov, .seMov e), (.st, .seSt e), (.ldi, .seLdi e), (.ldih, .seLdih e), (.movp, .seMovp e), (.getp, .seGetp e),
            (.loop, .seLoop e), (.br, .seBr e din dout), (.rti, .seRti e), (.halt, .seHalt e), (.in, .seIn e), (.out, .seOut e), (.setsr, .seSetsr e),
            (.getsr, .seGetsr e), (.setrot, .seSetrot e)] : List (SeOp × Instr)),
          seRuns s e = true → x.wait = .none → seDecode x = some row.1 →
            let z := { x with port := none }
            ∃ y, exec row.2 (setSe s e.val z) = .next (setSe (setSe s e.val z) e.val y)
              ∧ exec row.2 s = .next (setSe s e.val (sePortAccess z y (seStores x row.1 w) b)))

/-- Moves, flow control and ports of a signal engine. Where the spec leaves a point open, this rests on the model's choices: log entries 58, 59. -/
def Obligations.SignalMoves : Prop := Claims.EngineMoves ∧ Claims.EngineFlow ∧ Claims.EnginePorts

/-- R243, R248 to R250: CARAVAN_START takes the oldest armed caravan into a free active slot, where its context is on die, which it
touches: it runs, and asks for the holds that it does not have and has not asked for. A context that is not on die is fetched first, and
its arrival puts it at the front, in the place of the least recently touched one that does not run, which goes to its home; what stands
at another line of stacked memory stays. -/
def Sys2Proof.Claims.CaravanStarts : Prop :=
  ∀ (s : State) (c : CoreId) (v : CaravanId) (rest : List CaravanId),
    let k := getCore s c
    let x := getCv s v.val
    let d := cvDesc x.desc
    let bank := cvBank v.val
    let b := mapGet {} s.banks bank
    let src := cvSrc (sysAddr s) d
    let dst := cvDst (sysAddr s) d
    let pinned (w : CaravanId) : Prop := (getCv s w.val).state = .running ∨ (getCv s w.val).state = .faultWait
    let askedNone : Prop := ∀ core w, holdAsked s v core w = false
    let places (t : State) (r : Receiver) : Prop :=
      (d.op = 2 ∨ spaceOf dst = 1 → holdPlaced t c v r.core true .destination (cvDstRange d))
        ∧ (d.op ≠ 2 → spaceOf dst ≠ 1 → ∃ q ∈ t.net.requests, q.who = .holdReq v (cmCore dst) ∧ q.write = true ∧ q.addr = BitVec.ofNat 64 dst)
    let homeOnly (t : State) (w : CaravanId) : Prop := ∀ a, a / 128 ≠ contextHome w.val / 128 → mapGet 0 t.stacked.bytes a = mapGet 0 s.stacked.bytes a
    (k.stream.armed = v :: rest → k.stream.active.length < 32 →
      (b.onDie.contains v = true → x.core = c → ∃ t, exec (.caravanStart c) s = .next t ∧ caravanOnly v s t ∧ coreOnly c s t
        ∧ (getCore t c).stream = { k.stream with armed := rest, active := k.stream.active ++ [v] }
        ∧ (mapGet {} t.banks bank).onDie = v :: b.onDie.filter (· ≠ v) ∧ t.stacked = s.stacked
        ∧ (x.receivers ≠ [] → getCv t v.val = { x with state := .running }
            ∧ (askedNone → x.sourceReleased = false → x.sourceHeld = false → spaceOf src = 1 → holdPlaced t c v (cmCore src) false .source (cvSrcRange d))
            ∧ (askedNone → ∀ r ∈ liveReceivers x, r.holdGranted = false → places t r)
            ∧ (x.sourceHeld = true → (∀ r ∈ liveReceivers x, r.holdGranted = true) → (getCore t c).mem = k.mem ∧ t.net = s.net))
        ∧ (x.receivers = [] →
            getCv t v.val = { x with state := .running, receivers := startReceivers (sysAddr s) d, sourceHeld := !isCoreSpace src }
              ∧ (askedNone → x.sourceReleased = false → spaceOf src = 1 → holdPlaced t c v (cmCore src) false .source (cvSrcRange d))
              ∧ (askedNone → x.sourceReleased = false → spaceOf src = 5 → ∃ q ∈ t.net.requests, q.who = .holdReq v (cmCore src) ∧ q.write = false ∧ q.addr = BitVec.ofNat 64 src)
              ∧ (askedNone → x.pruned = 0 → ∀ r ∈ startReceivers (sysAddr s) d, r.holdGranted = false → places t r)))
      ∧ (b.onDie.contains v = false → b.fetching.contains v = false →
          exec (.caravanStart c) s = .next { s with banks := mapSet {} s.banks bank { b with fetching := b.fetching ++ [v] } }))
    ∧ (k.stream.armed = [] ∨ 32 ≤ k.stream.active.length → exec (.caravanStart c) s = .next s)
    ∧ (b.fetching.contains v = true → ∃ t, exec (.contextFetchDone v) s = .next t
        ∧ (mapGet {} t.banks bank).fetching = b.fetching.filter (· ≠ v)
        ∧ (b.onDie.contains v = true → (mapGet {} t.banks bank).onDie = v :: b.onDie.filter (· ≠ v) ∧ t.stacked = s.stacked)
        ∧ (b.onDie.contains v = false → b.onDie.length < 8192 → (mapGet {} t.banks bank).onDie = v :: b.onDie ∧ t.stacked.bytes = s.stacked.bytes)
        ∧ (∀ l u w, b.onDie.contains v = false → 8192 ≤ b.onDie.length → b.onDie = l ++ w :: u → w ∉ l ++ u → ¬ pinned w → (∀ y ∈ u, pinned y) →
            (mapGet {} t.banks bank).onDie = v :: (l ++ u) ∧ homeOnly t w))
    ∧ (b.fetching.contains v = false → exec (.contextFetchDone v) s = .next s)

/-- R243, R246, R260, R263, R267, R304: a faulted caravan that has drained waits for a page or comes to its end; its end is written as
the report record, complete, and the caravan leaves its slot; a straggler of a multicast is counted, and under PRUNE dropped, with what
it has not received poisoned. -/
def Sys2Proof.Claims.CaravanEnds : Prop :=
  ∀ (s : State) (v : CaravanId) (f : CvFault) (st : CvState) (status : Nat) (n : CoreId) (r : Receiver),
    let x := getCv s v.val
    let d := cvDesc x.desc
    let c := x.core
    let k := getCore s c
    let page := f.addr.toNat % 2 ^ 57 / 4096
    let asks : Prop := f.target = .faultWait ∧ x.page.map (·.1) ≠ some page ∧ s.pcie.pri = true ∧ s.pcie.priStopped = false
    (x.fault = some f → x.state = .running → x.ending = none → drained x = true → ∃ t, exec (.faultDrainEnd v) s = .next t ∧ caravanOnly v s t
      ∧ (asks → getCv t v.val = { x with buffer := [], state := .faultWait, status := f.status, page := some (page, none) } ∧ t.pcie = s.pcie)
      ∧ (¬ asks → getCv t v.val = { x with buffer := [], ending := some (if f.target = .faultWait then .halted else f.target, f.status) }
          ∧ t.pcie = if f.target = .faultWait then { s.pcie with waiting := s.pcie.waiting.filter (· ≠ v) } else s.pcie))
    ∧ (canonicalCores s → x.ending = some (st, status) → mayReport s v = true → ∃ t, exec (.caravanEnd v) s = .next t ∧ caravanOnly v s t
        ∧ getCv t v.val = { x with state := st, status := status, ending := none, fault := if st = .halted then x.fault else none, buffer := []
                                   reads := [], irq := d.irqEn }
        ∧ (getCore t c).stream = { k.stream with active := k.stream.active.filter (· ≠ v), armed := k.stream.armed.filter (· ≠ v) }
        ∧ coreRead (getCore t c).mem (64 * d.granule) 64 = reportBytes s x st status
        ∧ granuleComplete (getCore t c).mem d.granule = true
        ∧ (st = .done → leNat (coreRead (getCore t c).mem (64 * d.granule) 8) = status % 256 + 0x500)
        ∧ (st = .failed → ∀ (o : CoreId) (h : Hold), h ∈ (getCore t o).mem.holds → h.owner ≠ .caravan v)
        ∧ (st = .done → x.poisoned = true → logs s t 2 0x6007 1 c.val (packData [(32, v.val)])))
    ∧ (x.ending = none ∨ mayReport s v = false → exec (.caravanEnd v) s = .next s)
    ∧ (x.state = .running → d.op = 2 → (∃ b ∈ x.buffer, windowBase x + 63 < b.line) → (liveReceivers x).find? (fun y => y.core = n.val) = some r →
        r.low = windowBase x → lockstepMode s = false →
        ∃ t, exec (.mcStragglerTimeout v n) s = .next t ∧ caravanOnly v s t ∧ coreOnly n s t
          ∧ (dictGet s keyMcStragglerPolicy ≠ 1 → getCv t v.val = x ∧ changesOnly [.counters] s t)
          ∧ (dictGet s keyMcStragglerPolicy = 1 → (getCv t v.val).pruned = x.pruned ||| (1#96 <<< n.val)
              ∧ (r.holdGranted = true → logs s t 2 0x6008 1 n.val (packData [(32, v.val)])
                  ∧ (∀ g ∈ unwrittenGranules (sysAddr s) d r, granulePoison (getCore t n).mem g = true)
                  ∧ ∀ g, rangeCovers (cvDstRange d) g = true → granuleComplete (getCore t n).mem g = true)
              ∧ (r.holdGranted = false → getCore t n = getCore s n)))
    ∧ (lockstepMode s = true → exec (.mcStragglerTimeout v n) s = .next s)

/-- Caravans armed, started, halted and ended. Where the spec leaves a point open, this rests on the model's choices: log entries 35, 36, 37, 87. -/
def Obligations.CaravanStarts : Prop := Claims.CaravanStarts ∧ Claims.CaravanEnds

/-- R253 to R258, R260: a line's read issues in order within the write window, or ahead of it as a prefetch of the whole aligned line
inside the source window, where its source permits one, for a toll if the caravan is REGULATED; its data waits to be delivered, but for
a prefetch that a write has made stale. A demand read that fails stops the caravan by its policy; a prefetch read that brings nothing is
dropped, and its line is left to a demand read. -/
def Sys2Proof.Claims.CaravanReads : Prop :=
  ∀ (s : State) (v : CaravanId) (line : Nat) (given a : ReadAnswer) (bytes : List Byte) (poison : BitVec 2) (r : LineRead) (q : Request),
    let x := getCv s v.val
    let d := cvDesc x.desc
    let sys := sysAddr s
    let src := (unitAddr sys d (lineStart sys d line)).1
    let u := windowBase x
    let k := getCore s x.core
    let asked (prefetch : Bool) (t : State) : Prop :=
      caravanOnly v s t ∧ coreOnly x.core s t ∧ getCv t v.val =
          { x with reads := x.reads ++ [{ line := line, prefetch := prefetch, stale := false }], demandOnly := x.demandOnly.filter (· ≠ line) }
        ∧ requested t (.caravanLine v line) false (src / 128 * 128)
          (if prefetch then prefetchMask sys d src else unitMask (unitSize d) ((unitsOf sys d line).map (·.1))) d.pasid
    let permitted : Prop := mayPrefetch s d src = true ∧ line ∉ x.demandOnly ∧ (d.regulated = true → k.stream.spent < dictGet s keyTollBurst)
    (lineMayRead s x line → lineRead x line = false → isDemand x line = true → (∀ n, u ≤ n → n < line → lineRead x n = true) →
      ∃ t, exec (.lineReadIssue v line) s = .next t ∧ asked false t ∧ getCore t x.core = k)
    ∧ (lineMayRead s x line → lineRead x line = false → isDemand x line = false → permitted →
        ∃ t, exec (.lineReadIssue v line) s = .next t ∧ asked true t
          ∧ getCore t x.core = { k with stream := { k.stream with spent := k.stream.spent + if d.regulated then 1 else 0 } })
    ∧ (¬ lineMayRead s x line ∨ lineRead x line = true ∨ (isDemand x line = false ∧ ¬ permitted)
        ∨ (isDemand x line = true ∧ ∃ n, u ≤ n ∧ n < line ∧ lineRead x n = false) → exec (.lineReadIssue v line) s = .next s)
    ∧ (x.reads.find? (fun y => y.line = line) = some r → answeredBy s (.caravanLine v line) q given a →
        ∃ t, exec (.lineDataArrival v line given) s = .next t ∧ caravanOnly v s t
          ∧ (getCv t v.val).reads = x.reads.filter (fun y => y.line ≠ line) ∧ t.net.requests = s.net.requests.filter (fun y => y.id ≠ q.id)
          ∧ (a = .data bytes poison → r.stale = false → (getCv t v.val).buffer = x.buffer ++
              [{ line := line, phys := q.phys.map (· / 128), bytes := bytes, poison := poison, prefetched := r.prefetch
                 timely := r.prefetch && !isDemand x line }] ∧ (getCv t v.val).fault = x.fault)
          ∧ (((∃ b p, a = .data b p) ∧ r.stale = true) ∨ ((∀ b p, a ≠ .data b p) ∧ r.prefetch = true) →
              (getCv t v.val).buffer = x.buffer ∧ (getCv t v.val).fault = x.fault ∧ (getCv t v.val).demandOnly = x.demandOnly ++ [line])
          ∧ ((∀ b p, a ≠ .data b p) → r.prefetch = false →
              let p := faultPolicy (faultKind (spaceOf (cvSrc sys d)) a) d.policy
              (getCv t v.val).buffer = x.buffer
                ∧ (getCv t v.val).fault = some (x.fault.getD { status := p.1, target := p.2, side := false, addr := BitVec.ofNat 64 (lineAddr s x line false) })
                ∧ t.pcie.waiting = s.pcie.waiting ++ (if x.fault = none ∧ p.2 = .faultWait then [v] else [])
                ∧ logs s t 2 0x6006 1 x.core.val (packData [(32, v.val), (8, p.1), (64, lineAddr s x line false)])))

/-- R241, R250, R253, R266, R314, R318: the first line in order of arrival that the window admits goes to its destination: into the
core's own memory, where the last line ends the write hold and the transfer; as a write over the network, which to another core takes a
receive entry there; as entries of the translation table, all or none; or to every receiver of a multicast. -/
def Sys2Proof.Claims.CaravanDeliveries : Prop :=
  ∀ (s : State) (v : CaravanId) (line : Nat) (any : CoreId) (b : BufLine) (r : Receiver),
    let x := getCv s v.val
    let d := cvDesc x.desc
    let sys := sysAddr s
    let c := x.core
    let k := getCore s c
    let units := unitsOf sys d line
    let data := pickUnits (unitSize d) b.bytes (units.map (·.1))
    let dsts := units.map (·.2)
    let dst := dsts.headD 0 / 128 * 128
    let out := placeUnits (unitSize d) data dsts
    let be := unitMask (unitSize d) dsts
    let marks := destPoison (unitSize d) b.poison units
    let last : Bool := !hasLine sys d (receiverTakes r line).low
    let credits := if d.op = 2 then (liveReceivers x).map (fun y => creditKey c.val y.core) else creditOfLine c.val dst
    let credit : Prop := ∀ n ∈ credits, mapGet 0 s.net.spent n < 64
    let delivered (t : State) : Prop :=
      (getCv t v.val).receivers = [receiverTakes r line] ∧ (getCv t v.val).poisoned = (x.poisoned || marks ≠ 0)
        ∧ (getCv t v.val).fault = (if last then none else x.fault)
        ∧ (getCv t v.val).ending = if last then some (.done, if x.pruned ≠ 0 then 0x46 else if x.poisoned || marks ≠ 0 then 0x0C else 0) else none
    let emptied (t : State) : Prop := (getCv t v.val).buffer = x.buffer.filter fun y => y.line ≠ line
    let sent (t : State) : Prop :=
      (getCv t v.val).buffer = x.buffer.filter (fun y => y.line ≠ line) ∧ (getCv t v.val).sent = x.sent ++ [{ line := line, prefetched := b.prefetched, timely := b.timely }]
        ∧ (getCv t v.val).receivers = x.receivers
    nextDelivery x = some b → b.line = line → x.state = .running → x.ending = none →
    requestOf s.net (.caravanWrite v line) = none → (∀ q ∈ s.net.requests, q.id ≠ s.net.nextId) →
    (d.op = 1 → spaceOf dst = 1 → cmCore dst = c.val → x.receivers = [r] → r.core = c.val → receiverHas r line = false →
      liveReceivers x = [r] → spaceOf (cvDst sys d) = 1 →
      ∃ t, exec (.lineDeliver v line any) s = .next t ∧ caravanOnly v s t ∧ delivered t ∧ emptied t
        ∧ (getCore t c).mem.bytes = (lineRows (unitSize d) b.poison units data false ++ lineRows (unitSize d) b.poison units data true).foldl
            (fun m y => mapWrite 0 m y.1 y.2) k.mem.bytes
        ∧ ∀ g, granuleComplete (getCore t c).mem g = (granuleComplete k.mem g || (last && rangeCovers (cvDstRange d) g)))
    ∧ (d.op = 1 → spaceOf dst ≠ 6 → (spaceOf dst = 1 → cmCore dst ≠ c.val) → credit →
        ∃ t, exec (.lineDeliver v line any) s = .next t ∧ caravanOnly v s t ∧ sent t
          ∧ requested t (.caravanWrite v line) true dst be d.pasid
          ∧ (∀ n ∈ credits, mapGet 0 t.net.spent n = mapGet 0 s.net.spent n + 1)
          ∧ ∀ n, n ∉ credits → mapGet 0 t.net.spent n = mapGet 0 s.net.spent n)
    ∧ (¬ credit → exec (.lineDeliver v line any) s = .next s)
    ∧ (d.op = 1 → spaceOf dst = 6 → x.receivers = [r] → r.core = 128 → receiverHas r line = false → liveReceivers x = [r] →
        let entries : List (Nat × Nat) := units.zipIdx.map fun y => (bits y.1.2 3 33, leNat ((data.drop (8 * y.2)).take 8))
        ∃ t, exec (.lineDeliver v line any) s = .next t
          ∧ ((∃ e ∈ entries, ttRefused (ttShape s) e.1 e.2 = true) → caravanOnly v s t ∧ t.stacked = s.stacked ∧ t.bar0.modEvent.getLsbD 4 = true
              ∧ emptied t ∧ (getCv t v.val).sent = x.sent.filter (fun y => y.line ≠ line)
              ∧ (getCv t v.val).fault = some (x.fault.getD { status := 0x44, target := .failed, side := true, addr := BitVec.ofNat 64 (units.headD (0, 0)).2 }))
          ∧ ((∀ e ∈ entries, ttRefused (ttShape s) e.1 e.2 = false) → delivered t
              ∧ (∀ y ∈ (getCv t v.val).buffer, y ∈ x.buffer ∧ y.line ≠ line)
              ∧ (∀ y ∈ x.buffer, y.line ≠ line → y.prefetched = false → y ∈ (getCv t v.val).buffer)
              ∧ t.stacked = (entries.foldl (fun w e => ttStore w e.1 e.2) s).stacked))
    ∧ (d.op = 2 → (∀ y ∈ x.receivers, y.core < 96) → credit →
        ∃ t, exec (.lineDeliver v line any) s = .next t ∧ caravanOnly v s t ∧ sent t
          ∧ (∃ q ∈ t.net.requests, q.who = .caravanWrite v line ∧ q.write = true ∧ q.be = be ∧ q.bytes = out ∧ q.left = (liveReceivers x).map (·.core))
          ∧ ∀ y ∈ liveReceivers x, ∃ g ∈ t.net.flits, y.core ∈ g.left ∧ g.flit.mcast = true ∧ g.flit.payload = out ∧ g.flit.byteEn = be)

/-- The reads and deliveries of a caravan. Where the spec leaves a point open, this rests on the model's choices: log entries 35, 36, 38, 87. -/
def Obligations.CaravanReads : Prop := Claims.CaravanReads ∧ Claims.CaravanDeliveries

/-- R273 to R276, R282, R293: a write that sets EN checks the context, and enables the ring, empty, or stops it with BAD_CONTEXT; what is
in flight from before moves no index of the new life; one that clears EN discards the entries not yet taken, each with its completion
where CQ_EN is 1, whose COOKIE is read first where no fetch has brought the entry; one of 1 to ERR clears it, and restarts an enabled
ring from its indices. What a write at EN = 1 may not change counts in BAR_ERRORS. Where the spec leaves a point open, this rests on the model's choices: log entry 28. -/
def Obligations.RingContexts : Prop :=
  ∀ (s : State) (r : RingId) (size8 : Bool) (value : U64),
    let x := getRing s r.val
    let c := contextWritten x r 0 size8 value
    let discarded (i : Nat) : QmWrite :=
      match heldEntry x i with
      | some e => { ring := ringFld x 256 14, entry := completionEntry r.val 0x50 (entryCookie e.bytes) }
      | none => { ring := ringFld x 256 14, entry := completionEntry r.val 0x50 0, source := some { ring := r, slot := slotAddr x i, pasid := ringPasid x } }
    let counted (t : State) : Prop :=
      t.bar0.barErrors = if c &&& ~~~(64 : BitVec 512) = x.ctx &&& ~~~64 then s.bar0.barErrors else sat32 (s.bar0.barErrors + 1)
    (ringEn x = false → value.getLsbD 0 = true →
      (contextOk s r.val { x with ctx := c } = true → ∃ t, exec (.ringEnable r size8 value) s = .next t ∧ ringOnly r s t ∧
        let z := getRing t r.val
        ringEn z = true ∧ ringErr z = false ∧ ringFld z 72 8 = 0 ∧ ringHead z = 0 ∧ ringTail z = 0
          ∧ z = { ctx := z.ctx, claims := x.claims.map fun y => { y with stale := true }, posts := x.posts.map fun y => { y with stale := true } }
          ∧ ∀ i, 2 ≤ i → i < 72 ∨ 80 ≤ i → i < 160 ∨ 177 ≤ i → i < 192 ∨ 209 ≤ i → z.ctx.getLsbD i = c.getLsbD i)
      ∧ (contextOk s r.val { x with ctx := c } = false → ∃ t, exec (.ringEnable r size8 value) s = .next t ∧ ringOnly r s t
          ∧ ringEn (getRing t r.val) = false ∧ ringStopped s t r 4))
    ∧ (ringEn x = true ∨ value.getLsbD 0 = false → exec (.ringEnable r size8 value) s = .next s)
    ∧ (ringEn x = true → value.getLsbD 0 = false → ∃ t, exec (.ringDisable r size8 value) s = .next t ∧ ringOnly r s t ∧ counted t ∧
        let z := getRing t r.val
        let n := ringCount x - liveClaims x
        ringEn z = false ∧ ringErr z = (ringErr x && !value.getLsbD 1) ∧ ringHead z = ringHead x ∧ ringTail z = ringTail x ∧ z.pool = [] ∧ z.fetching = none
          ∧ z.forwarded = [] ∧ z.claims = x.claims ∧ z.posts = x.posts ∧ z.due = false ∧ z.writebackDue = false
          ∧ (∀ q ∈ t.net.requests, q.who ≠ .ringFetch r)
          ∧ (ringFld x 7 1 = 0 → t.queues.qmWrites = s.queues.qmWrites)
          ∧ (ringFld x 7 1 = 1 → t.queues.qmWrites = s.queues.qmWrites ++ (List.range n).map fun i => discarded (headPlus x (liveClaims x + i))))
    ∧ (ringEn x = false ∨ value.getLsbD 0 = true → exec (.ringDisable r size8 value) s = .next s)
    ∧ (ringErr x = true → value.getLsbD 1 = true → value.getLsbD 0 = ringEn x → ∃ t, exec (.ringErrClear r size8 value) s = .next t ∧ ringOnly r s t ∧
        let z := getRing t r.val
        ringErr z = false ∧ ringFld z 72 8 = 0 ∧ ringEn z = ringEn x ∧ ringHead z = ringHead x ∧ ringTail z = ringTail x
          ∧ z.claims = x.claims ∧ z.posts = x.posts
          ∧ (ringEn x = true → counted t ∧ z.forwarded = [] ∧ z.fetching = x.fetching ∧ z.pool = x.forwarded ++ x.pool
              ∧ ((∃ y ∈ x.posts, y.stale = false) → ∃ q ∈ t.net.requests, q.who = .ringPost r))
          ∧ (ringEn x = false → ∀ i, 2 ≤ i → i < 72 ∨ 80 ≤ i → z.ctx.getLsbD i = c.getLsbD i))
    ∧ (ringErr x = false ∨ value.getLsbD 1 = false ∨ value.getLsbD 0 ≠ ringEn x → exec (.ringErrClear r size8 value) s = .next s)

/-- R273, R289, R294, R297 to R299: the registers of BAR0. MOD_EVENT bits are cleared by writing 1, and its enables may send vector 0;
TT_DATA presents an entry, which is written or refused, TT_INDEX counting on; a vector unmasked while pending is sent; an access BAR0
does not define is counted; a read gets what the fields at its offset hold, IDENT at 0 and the doorbells as 0; and a write by offset acts
as the register that stands there. -/
def Sys2Proof.Claims.BarRegisters : Prop :=
  ∀ (s : State) (w : U32) (v : U64) (whole size8 isWrite : Bool) (k : Fin 2048) (r : RingId) (off size : Nat),
    let e := mapGet {} s.bar0.msix k.val
    let i := s.bar0.ttIndex.toNat
    let entry := if whole then v.toNat else (v.toNat % 2 ^ 32) <<< 32 + s.bar0.ttLow.toNat
    let x := getRing s r.val
    let quiet (t : State) : Prop := changesOnly [.bar0, .power] s t ∧ t.power = { s.power with gated := false }
    let row (i : Instr) : Prop := exec (.barRegisterWrite off size8 v) s = exec i s
    (∃ t, exec (.modEventClear w) s = .next t ∧ quiet t ∧ t.bar0 = { s.bar0 with modEvent := s.bar0.modEvent &&& ~~~BitVec.ofNat 6 w.toNat })
    ∧ (∃ t, exec (.modEventEnable w) s = .next t ∧ t.bar0.modEventEn = BitVec.ofNat 6 w.toNat ∧ t.bar0.modEvent = s.bar0.modEvent
        ∧ (s.bar0.modEvent &&& s.bar0.modEventEn = 0 ∧ s.bar0.modEvent &&& BitVec.ofNat 6 w.toNat ≠ 0 → vectorSent s t 0)
        ∧ (s.bar0.modEvent &&& s.bar0.modEventEn ≠ 0 ∨ s.bar0.modEvent &&& BitVec.ofNat 6 w.toNat = 0 → quiet t ∧ t.bar0.msix = s.bar0.msix))
    ∧ (∃ t, exec (.ttDataLowLatch w) s = .next t ∧ quiet t ∧ t.bar0 = { s.bar0 with ttLow := w })
    ∧ (∃ t, exec (.ttDataWrite whole v) s = .next t ∧ t.bar0.ttIndex = s.bar0.ttIndex + 1
        ∧ (ttRefused (ttShape s) i entry = true → t.stacked = s.stacked ∧ t.queues = s.queues ∧ t.bar0.modEvent.getLsbD 4 = true)
        ∧ (ttRefused (ttShape s) i entry = false → t.bar0 = { s.bar0 with ttIndex := s.bar0.ttIndex + 1 }
            ∧ t.stacked = (ttStore s i entry).stacked
            ∧ t.queues = { s.queues with ttCache := s.queues.ttCache.filter fun l => !l.walked.contains i }))
    ∧ (∃ t, exec (.msixUnmask k) s = .next t ∧ (mapGet {} t.bar0.msix k.val).control = e.control &&& ~~~(1 : U32)
        ∧ (e.pending = true ∧ msixOpen s = true → (mapGet {} t.bar0.msix k.val).pending = false ∧ t.out = s.out ++ [.msix k.val e.addr e.data])
        ∧ (e.pending = false ∨ msixOpen s = false → quiet t ∧ (mapGet {} t.bar0.msix k.val).pending = e.pending))
    ∧ (bar0Ok off size = false → ∃ t, exec (.bar0InvalidAccess isWrite off size) s = .next t ∧ changesOnly [.bar0, .power, .out] s t
        ∧ t.bar0 = { s.bar0 with barErrors := sat32 (s.bar0.barErrors + 1) }
        ∧ t.out = s.out ++ (if isWrite then [] else [.barData (List.replicate size 0) false]))
    ∧ (bar0Ok off size = true → isWrite = true → exec (.bar0InvalidAccess isWrite off size) s = .next s)
    ∧ (bar0Ok off size = true → isWrite = false → ∃ t tt, exec (.bar0InvalidAccess isWrite off size) s = .next t ∧ (off < 0x1008 ∨ 0x1010 ≤ off → changesOnly [.out, .power] s t)
        ∧ t.out.getLast? = some (.barData (natBytes 4 (bar0Word s tt off) ++ if size = 8 then natBytes 4 (bar0Word s tt (off + 4)) else []) false)
        ∧ (off = 0 → bar0Word s tt off = 0x36395247) ∧ (off = 0x8 → bar0Word s tt off = s.bar0.modEvent.toNat)
        ∧ (off = 0x28 → bar0Word s tt off = s.bar0.barErrors) ∧ (off = 0x1000000 + 256 * r.val → bar0Word s tt off = 0)
        ∧ (off = 0x1000000 + 256 * r.val + 16 → bar0Word s tt off = ringHead x) ∧ (off = 0x1000000 + 256 * r.val + 20 → bar0Word s tt off = ringTail x)
        ∧ (off = 0x10000 + 16 * k.val + 12 → bar0Word s tt off = e.control.toNat)
        ∧ (off = 0x100000 + 64 * r.val → bar0Word s tt off = ringFld x 0 32)
        ∧ ((ttShape s).entries ≤ i → 0x1008 ≤ off → off < 0x1010 → tt = 0)
        ∧ (i < (ttShape s).entries → (ttShape s).base % 8 = 0 → stackPoison s.stacked ((ttShape s).base + 8 * i) = false → 0x1008 ≤ off → off < 0x1010 →
            tt = ttEntry s.stacked (ttShape s) i))
    ∧ (bar0Ok off (if size8 then 8 else 4) = false → exec (.barRegisterWrite off size8 v) s = .next s)
    ∧ (bar0Ok off (if size8 then 8 else 4) = true →
        (off = 0x8 → row (.modEventClear (v.setWidth 32))) ∧ (off = 0x10 → row (.modEventEnable (v.setWidth 32)))
        ∧ (off = 0x1008 → size8 = false → row (.ttDataLowLatch (v.setWidth 32))) ∧ (off = 0x1008 → size8 = true → row (.ttDataWrite true v))
        ∧ (off = 0x100C → row (.ttDataWrite false v))
        ∧ (off = 0x20 → size8 = true → ∃ t, exec (.barRegisterWrite off size8 v) s = .next t ∧ quiet t ∧ t.bar0 = { s.bar0 with bar2Base := v.setWidth 63 })
        ∧ (off = 0x1000 → size8 = true → ∃ t, exec (.barRegisterWrite off size8 v) s = .next t ∧ quiet t ∧ t.bar0 = { s.bar0 with ttIndex := v })
        ∧ (off = 0x10000 + 16 * k.val + 8 → size8 = false → ∃ t, exec (.barRegisterWrite off size8 v) s = .next t ∧ quiet t
            ∧ mapGet {} t.bar0.msix k.val = { e with data := v.setWidth 32 })
        ∧ (off = 0x10000 + 16 * k.val → size8 = true → ∃ t, exec (.barRegisterWrite off size8 v) s = .next t ∧ quiet t
            ∧ mapGet {} t.bar0.msix k.val = { e with addr := v })
        ∧ (isUnsealing s = false → off = 0x1000000 + 256 * r.val → row (.tailDb r (v.setWidth 32)))
        ∧ (isUnsealing s = false → off = 0x1000000 + 256 * r.val + 8 → row (.headDb r (v.setWidth 32)))
        ∧ (off = 0x100000 + 64 * r.val →
            (ringEn x = false → v.getLsbD 0 = true → row (.ringEnable r size8 v)) ∧ (ringEn x = true → v.getLsbD 0 = false → row (.ringDisable r size8 v))
              ∧ (ringErr x = true → v.getLsbD 1 = true → v.getLsbD 0 = ringEn x → row (.ringErrClear r size8 v)))
        ∧ (off = 0x10000 + 16 * k.val + 12 → size8 = false → v.setWidth 32 = e.control &&& ~~~(1 : U32) → row (.msixUnmask k))
        ∧ (∀ o, off = 0x100000 + 64 * r.val + o → o < 64 → (o = 0 → v.getLsbD 0 = ringEn x ∧ (v.getLsbD 1 = false ∨ ringErr x = false)) →
            let c := contextWritten x r o size8 v
            ∃ t, exec (.barRegisterWrite off size8 v) s = .next t ∧ ringOnly r s t
              ∧ (ringEn x = true → getRing t r.val = { x with ctx := (x.ctx &&& ~~~(64 : BitVec 512)) ||| (c &&& 64) }
                  ∧ t.bar0.barErrors = if c &&& ~~~(64 : BitVec 512) = x.ctx &&& ~~~64 then s.bar0.barErrors else sat32 (s.bar0.barErrors + 1))
              ∧ (ringEn x = false → v.getLsbD 1 = false ∨ o ≠ 0 → getRing t r.val = { x with ctx := c })))

/-- R301, R302, R538: an access of the host to BAR2 is translated and sets out as one request for each line it names; one that fails
counts in BAR_ERRORS, sets its bit of MOD_EVENT and aborts, with at most one ledger entry a ms; during the unseal sequence none is made.
That a read so completed sets bit 15 of the AER status is the model's choice (log entry 79). -/
def Sys2Proof.Claims.Bar2Accesses : Prop :=
  ∀ (s : State) (off len : Nat) (bytes : List Byte) (pa : Nat) (l : TtLeaf) (reads : List HalfRead),
    let va := s.bar0.bar2Base.toNat / 2 ^ s.pcie.bar2Log * 2 ^ s.pcie.bar2Log + off
    let inside (n : Nat) : Prop := n ≠ 0 ∧ off + n ≤ 2 ^ s.pcie.bar2Log ∧ off / 4096 = (off + n - 1) / 4096
    let recent : Prop := ∃ g, s.pcie.bar2LastEntry = some g ∧ s.gtc.toNat < g + 1000000
    let w := translateBy (hostTraffic (wakeS1 s)) va reads
    let aborts (write : Bool) : Pcie := if write then s.pcie else { s.pcie with aerStatus := s.pcie.aerStatus ||| 0x8000 }
    let faulted (write : Bool) (t : State) : Prop :=
      t.bar0.barErrors = sat32 (s.bar0.barErrors + 1) ∧ t.bar0.modEvent.getLsbD 5 = true ∧ t.net = s.net
        ∧ (recent → t.ledger = w.1.ledger ∧ t.pcie = { aborts write with bar2Suppressed := s.pcie.bar2Suppressed + 1 })
        ∧ (¬ recent → logs w.1 t 2 0x600A 0 0 (packData [(64, off), (32, s.pcie.bar2Suppressed)])
            ∧ t.pcie = { aborts write with bar2Suppressed := 0, bar2LastEntry := some s.gtc.toNat })
    ∀ row ∈ ([(false, len, .bar2Read off len reads), (true, bytes.length, .bar2Write off bytes reads)] : List (Bool × Nat × Instr)),
      (¬ inside row.2.1 → exec row.2.2 s = .next s)
      ∧ (inside row.2.1 → isUnsealing s = true → exec row.2.2 s = .next
          { s with bar0 := { s.bar0 with barErrors := sat32 (s.bar0.barErrors + 1) }, pcie := aborts row.1, out := s.out ++ if row.1 then [] else [.completerAbort] })
      ∧ (inside row.2.1 → isUnsealing s = false →
          (w.2 = .hit pa l → (row.1 = true → l.writable = true) → s.net.nextId < 16384 → s.net.requests.length + 33 < 16384 →
            ∃ t, exec row.2.2 s = .next t ∧ t.pcie = s.pcie ∧ t.bar0 = w.1.bar0
            ∧ ∀ n, pa / 128 ≤ n → n ≤ (pa + row.2.1 - 1) / 128 → ∃ q ∈ t.net.requests,
                q.who = .bar2 (off + (max pa (128 * n) - pa)) (min (pa + row.2.1) (128 * (n + 1)) - max pa (128 * n)) ∧ q.write = row.1 ∧ q.phys = some (128 * n)
                  ∧ (row.1 = true → (q.bytes.drop (max pa (128 * n) - 128 * n)) = (bytes.drop (max pa (128 * n) - pa)).take (min (pa + row.2.1) (128 * (n + 1)) - max pa (128 * n))))
          ∧ (w.2 = .miss ∨ w.2 = .denial ∨ (w.2 = .hit pa l ∧ row.1 = true ∧ l.writable = false) →
              ∃ t, exec row.2.2 s = .next t ∧ faulted row.1 t ∧ (row.1 = false → .completerAbort ∈ t.out)))

/-- The registers of BAR0 and the accesses of BAR2. Where the spec leaves a point open, this rests on the model's choices: log entries 32, 34, 79, 92. -/
def Obligations.BarRegisters : Prop := Claims.BarRegisters ∧ Claims.Bar2Accesses

/-- R277, R279, R538: a doorbell moves TAIL or HEAD by what the ring's room or occupancy admits, and stops the ring otherwise; for a ring
that is not the host's to move it is ignored and counted, and during the unseal sequence it counts in BAR_ERRORS alone. -/
def Sys2Proof.Claims.Doorbells : Prop :=
  ∀ (s : State) (r : RingId) (w : U32),
    let x := getRing s r.val
    let n := 2 * ringSize x
    let v := w.toNat % 2 ^ 17
    ∀ row ∈ ([(ringProducer x, ringTail x, ringSize x - ringCount x, 192, .tailDb), (ringConsumer x, ringHead x, ringCount x, 160, .headDb)] :
        List (Nat × Nat × Nat × Nat × (RingId → U32 → Instr))),
      let legal : Prop := v < n ∧ (v + n - row.2.1) % n ≤ row.2.2.1
      let does (P : State → Prop) : Prop := ∃ t, exec (row.2.2.2.2 r w) s = .next t ∧ ringOnly r s t ∧ t.power.gated = false ∧ P t
      (isUnsealing s = true → exec (row.2.2.2.2 r w) s = .next { s with bar0 := { s.bar0 with barErrors := sat32 (s.bar0.barErrors + 1) } })
      ∧ (isUnsealing s = false → ringEn x = false ∨ ringErr x = true ∨ row.1 ≠ 0 → does fun t =>
          getRing t r.val = x ∧ t.bar0 = { s.bar0 with dbIgnored := sat32 (s.bar0.dbIgnored + 1) })
      ∧ (isUnsealing s = false → ringEn x = true → ringErr x = false → row.1 = 0 →
          (legal → does fun t => fieldWritten x (getRing t r.val) row.2.2.2.1 17 v ∧ t.bar0 = s.bar0)
          ∧ (¬ legal → does fun t => ringStopped s t r 1))

/-- R175, R177, R275, R283 to R285: the queue manager fetches the next entries of a ring that the host does not take from into its pool,
where the order of the doorbells leaves room; a failed fetch stops the ring; an entry for a core without power is completed with
TARGET_OFF; a claimed entry is copied into the claimer's memory under a hold, complete, HEAD advances, and the claim retires with its
slot number; and a discarded entry read for its COOKIE gives it to its completion. -/
def Sys2Proof.Claims.RingEntriesTaken : Prop :=
  ∀ (s : State) (r : RingId) (given a : ReadAnswer) (q : Request) (bytes : List Byte) (poison : BitVec 2) (i : Nat) (k : Claim) (rest : List Claim)
    (l later : List QmWrite) (w : QmWrite) (y : Discard),
    let x := getRing s r.val
    let next := slotAddr x (headPlus x (ringAhead x))
    let able : Prop := ringEn x = true ∧ ringErr x = false ∧ ringConsumer x ≠ 0 ∧ x.fetching = none ∧ mayFetch s r = true ∧ ringAhead x < ringCount x
    let copy : Range := { base := k.dest, rowBytes := 64, pitch := 0, rows := 1 }
    let free : Prop := (getCore s k.core).mem.holds.length < 128 ∧ mayWrite (getCore s k.core).mem (.queueManager r) copy = true
    let off : Prop := ringConsumer x = 1 ∧ ringFld x 24 7 < 96 ∧ coreOff s (ringFld x 24 7) = true ∧ x.pool = [] ∧ x.claims = []
    let entry := (bytes.drop (slotAddr x i % 128)).take 64
    (able → ∃ t, exec (.ringFetch r) s = .next t ∧ ringOnly r s t
      ∧ getRing t r.val = { x with fetching := some (headPlus x (ringAhead x)) }
      ∧ requested t (.ringFetch r) false (next / 128 * 128) (byteMask (next % 128) 64) (ringPasid x))
    ∧ (¬ able → exec (.ringFetch r) s = .next s)
    ∧ (answeredBy s (.ringFetch r) q given a → x.fetching = some i → ∃ t, exec (.ringFetchDone r given) s = .next t ∧ ringOnly r s t
        ∧ (a = .data bytes poison → ¬ off → getRing t r.val = { x with fetching := none, pool := x.pool ++ [{ index := i, bytes := entry, poison := poison ≠ 0 }] })
        ∧ (a = .data bytes poison → off → fieldWritten { x with fetching := none } (getRing t r.val) 160 17 (headPlus x 1 % 2 ^ 17)
            ∧ logs s t 2 0x6001 1 (ringFld x 24 7) (packData [(8, 1)])
            ∧ (ringFld x 7 1 = 1 → t.queues.qmWrites = s.queues.qmWrites
                ++ [{ ring := ringFld x 256 14, entry := completionEntry r.val 0x45 (entryCookie entry) }])
            ∧ (ringFld x 7 1 = 0 → t.bar0.qmDropped = sat32 (s.bar0.qmDropped + 1)))
        ∧ ((∀ b p, a ≠ .data b p) → ringStopped s t r 2 ∧ (getRing t r.val).fetching = none))
    ∧ (x.claims = k :: rest → k.entry.bytes.length = 64 → free → ∃ t, exec (.claimCopyDone r) s = .next t ∧ ringOnly r s t ∧ coreOnly k.core s t
          ∧ (k.stale = false → fieldWritten { x with claims := rest } (getRing t r.val) 160 17 (headPlus x 1 % 2 ^ 17))
          ∧ (k.stale = true → getRing t r.val = { x with claims := rest })
          ∧ (∀ h, h ∈ (getCore t k.core).mem.holds ↔ h ∈ (getCore s k.core).mem.holds ∧ ¬ (h.owner = .queueManager r ∧ h.part = .whole))
          ∧ coreRead (getCore t k.core).mem k.dest 64 = k.entry.bytes ∧ granuleComplete (getCore t k.core).mem (k.dest / 64) = true
          ∧ retired (getThread s k.core k.thread) (getThread t k.core k.thread) k.rd (BitVec.ofNat 64 (k.entry.index % ringSize x))
              ((getThread s k.core k.thread).pc + 4))
    ∧ (x.claims = [] ∨ (x.claims = k :: rest ∧ ¬ free) → exec (.claimCopyDone r) s = .next s)
    ∧ (requestOf s.net (.ringFetch r) = none → answeredBy s (.ringDiscard r) q given (.data bytes poison) → s.queues.qmWrites = l ++ w :: later →
        (∀ v ∈ l, ∀ z, v.source = some z → z.ring ≠ r) → w.source = some y → y.ring = r → ∃ t, exec (.ringFetchDone r given) s = .next t
          ∧ t.queues = { s.queues with qmWrites := l
              ++ { w with entry := w.entry.take 8 ++ natBytes 8 (entryCookie (bytes.drop (y.slot % 128))) ++ w.entry.drop 16, source := none } :: later })

/-- R286 to R288, R591: a post that has been written advances TAIL and retires its poster's command, and a failed one stops the ring, its
posters waiting again; a completion ring's interrupt falls due by count or by time, and is sent after the write-back of TAIL, which
sets out as a write to the host; the queue manager's own completions are posted in turn, each with its COOKIE, or dropped and counted. -/
def Sys2Proof.Claims.RingEntriesPosted : Prop :=
  ∀ (s : State) (r : RingId) (q : Request) (a : ReadAnswer) (p : Post) (rest : List Post) (w : QmWrite) (later : List QmWrite) (ring : RingId),
    let x := getRing s r.val
    let n := 2 * ringSize x
    let counts : Nat := x.unsignalled + ringFld x 6 1
    let due : Bool := ringFld x 6 1 = 1 && decide (max 1 (ringFld x 272 8) ≤ counts)
    let y := getRing s ring.val
    let at_ := ringFld x 320 57 / 8 * 8
    (answeredBy s (.ringPost r) q (.data [] 0) a → x.posts = p :: rest → ringFld x 8 5 ≤ 16 → ∃ t, exec (.qdoneWriteDone r) s = .next t ∧ ringOnly r s t
      ∧ ((∃ b m, a = .data b m) →
          let z := getRing t r.val
          ringTail z = (if p.stale then ringTail x else (ringTail x + 1) % n) ∧ ringHead z = ringHead x ∧ ringEn z = ringEn x ∧ z.posts = rest
            ∧ (ringConsumer x ≠ 0 ∨ p.stale = true → z.due = x.due ∧ z.writebackDue = x.writebackDue ∧ z.unsignalled = x.unsignalled)
            ∧ (ringConsumer x = 0 → p.stale = false → z.writebackDue = (x.writebackDue || ringFld x 320 64 ≠ 0) ∧ z.due = (x.due || due)
                ∧ z.unsignalled = if due then 0 else counts)
            ∧ (∀ f, p.ack = some f → ∃ g ∈ t.net.flits, g.flit = mkResponse f 0x82 [] 0 false)
            ∧ (∀ c u rd, p.poster = some (c, u, rd) → retired (getThread s c u) (getThread t c u) rd 0 ((getThread s c u).pc + 4)))
      ∧ ((∀ b m, a ≠ .data b m) → ringStopped s t r 2 ∧ (getRing t r.val).posts = (p :: rest).filter (fun y => y.poster = none)
          ∧ ∀ c u rd, p.poster = some (c, u, rd) → (getThread t c u).inFlight = false ∧ (getThread t c u).pc = (getThread s c u).pc))
    ∧ (x.writebackDue = true → ringErr x = false → requestOf s.net (.ringTail r) = none →
        (∃ t, exec (.tailWriteback r false) s = .next t ∧ ringOnly r s t ∧ ringStopped s t r 5)
        ∧ (∃ t, exec (.tailWriteback r true) s = .next t ∧ t.queues = s.queues
            ∧ ∃ q ∈ t.net.requests, q.who = .ringTail r ∧ q.write = true ∧ q.addr = BitVec.ofNat 64 (2 ^ 61 + at_ / 128 * 128) ∧ q.be = byteMask (at_ % 128) 8
                ∧ q.pasid = ringPasid x ∧ (q.bytes.drop (at_ % 128)).take 8 = natBytes 8 (ringTail x)))
    ∧ (x.writebackDue = false ∨ ringErr x = true ∨ requestOf s.net (.ringTail r) = some q → ∀ ok, exec (.tailWriteback r ok) s = .next s)
    ∧ (x.due = true → x.writebackDue = false → ∃ t, exec (.msixSend r) s = .next t ∧ getRing t r.val = { x with due := false } ∧ ringOnly r s t
        ∧ vectorSent s t (ringFld x 34 11))
    ∧ (x.due = false ∨ x.writebackDue = true → exec (.msixSend r) s = .next s)
    ∧ (ringFld x 6 1 = 1 → ringFld x 280 16 ≠ 0 → x.unsignalled ≠ 0 → ∃ t, exec (.coalTimer r) s = .next t ∧ ringOnly r s t
        ∧ getRing t r.val = { x with due := true, unsignalled := 0 })
    ∧ (s.queues.qmWrites = w :: later → w.ring = ring.val →
        (ringEn y = false ∨ ringErr y = true → exec .qmCompletionWrite s = .next
            { s with queues := { s.queues with qmWrites := later }, bar0 := { s.bar0 with qmDropped := sat32 (s.bar0.qmDropped + 1) } })
        ∧ (∀ d, ringEn y = true → ringErr y = false → w.source = some d → requestOf s.net (.ringDiscard d.ring) = none → ∃ t, exec .qmCompletionWrite s = .next t
            ∧ t.queues.qmWrites = s.queues.qmWrites ∧ t.queues.rings = s.queues.rings
            ∧ requested t (.ringDiscard d.ring) false (d.slot / 128 * 128) (byteMask (d.slot % 128) 64) d.pasid)
        ∧ (ringEn y = true → ringErr y = false → w.source = none → ringCount y + livePosts y < ringSize y → ∃ t, exec .qmCompletionWrite s = .next t ∧ ringOnly ring s t
            ∧ t.queues.qmWrites = later ∧ getRing t ring.val = { y with posts := y.posts ++ [{ poster := none, ack := none, bytes := w.entry, poison := false }] }
            ∧ ∃ q ∈ t.net.requests, q.who = .ringPost ring ∧ q.write = true)
        ∧ (ringEn y = true → ringErr y = false → w.source = none → ringSize y ≤ ringCount y + livePosts y → exec .qmCompletionWrite s = .next s))

/-- R290 to R292: a forwarding ring sends its next entry to its peer, at most 8 unacknowledged, or is answered with ERR where no port
takes packets; the peer writes each entry once, acknowledges one it took before again, and rejects one its ring does not match. -/
def Sys2Proof.Claims.RingsBetweenModules : Prop :=
  ∀ (s : State) (r senderRing : RingId) (sender : BitVec 15) (index : Nat) (entry : List Byte) (e : PoolEntry) (rest : List PoolEntry) (g : Flight) (n : Net),
    let x := getRing s r.val
    let p := forwardPacket s r.val x e
    let f := g.flit
    let matched : Prop := ringEn x = true ∧ ringProducer x = 2 ∧ ringConsumer x = 1 ∧ ringFld x 224 15 = sender.toNat
    let known : Bool := x.taken.contains (sender.toNat, senderRing.val, index)
    let answers (err : Bool) (t : State) : Prop := t.queues = s.queues
      ∧ t.net = inject n { mkResponse f 0x82 [] 0 err with addr := if err then 2 else (mkResponse f 0x82 [] 0 err).addr }
    (x.pool = e :: rest → ringEn x = true → ringErr x = false → ringConsumer x = 2 → x.forwarded.length < 8 →
      (∀ o, routePort s p.dstSys = some o → portOpen (getPort s.links o) = true → (getCorner s.links (portEast o)).records.length < 4096 →
        ∃ t, exec (.remoteForward r) s = .next t ∧ ringOnly r s t ∧ getRing t r.val = { x with pool := rest, forwarded := x.forwarded ++ [e] }
          ∧ (getCorner t.links (portEast o)).records = (getCorner s.links (portEast o)).records
              ++ [{ port := Fin.ofNat 8 o, srcEp := p.srcEp, tag := r.val, cls := 2, opcode := 0x02 }]
          ∧ getPort t.links o = getPort (enqueue s o { p with vc := leaveVc s o 0 }).links o)
      ∧ ((∀ o, routePort s p.dstSys = some o → portOpen (getPort s.links o) = false) →
          ∃ t, exec (.remoteForward r) s = .next t ∧ ringOnly r s t ∧ getRing t r.val = { x with pool := rest, forwarded := x.forwarded ++ [e] }
            ∧ ∃ y ∈ t.net.flits, y.flit.opcode = 0x82 ∧ y.flit.err = true ∧ y.flit.tag = BitVec.ofNat 14 r.val ∧ flitDst y.flit = (7, 0, 1)))
    ∧ (x.pool = [] ∨ ringEn x = false ∨ ringErr x = true ∨ ringConsumer x ≠ 2 ∨ 8 ≤ x.forwarded.length → exec (.remoteForward r) s = .next s)
    ∧ (s.net.flits.find? (forwardFlit s r sender senderRing index entry) = some g → takeFlit s.fuses s.net f = some n →
        (¬ matched → ∃ t, exec (.forwardedEntryReceive r sender senderRing index entry) s = .next t ∧ answers true t
            ∧ t.bar0.qmDropped = sat32 (s.bar0.qmDropped + 1))
        ∧ (matched → known = true → ∃ t, exec (.forwardedEntryReceive r sender senderRing index entry) s = .next t ∧ answers false t)
        ∧ (matched → known = false → ringErr x = false → ringCount x + livePosts x < ringSize x →
            ∃ t, exec (.forwardedEntryReceive r sender senderRing index entry) s = .next t ∧ ringOnly r s t
              ∧ (getRing t r.val).posts = x.posts ++ [{ poster := none, ack := some f, bytes := entry, poison := f.poison.getLsbD 0 }]
              ∧ (getRing t r.val).taken.contains (sender.toNat, senderRing.val, index) = true ∧ (getRing t r.val).ctx = x.ctx
              ∧ ∃ q ∈ t.net.requests, q.who = .ringPost r ∧ q.write = true)
        ∧ (matched → known = false → ringErr x = true ∨ ringSize x ≤ ringCount x + livePosts x →
            exec (.forwardedEntryReceive r sender senderRing index entry) s = .next s))

/-- Doorbells, entries taken and posted, and rings between modules. Where the spec leaves a point open, this rests on the model's choices: log entries 29, 30. -/
def Obligations.RingEntries : Prop := Claims.Doorbells ∧ Claims.RingEntriesTaken ∧ Claims.RingEntriesPosted ∧ Claims.RingsBetweenModules

/-- R233, R234, R256, R299, R339, R592: the oldest waiting translation completes, from the cache or by a walk whose entries are half reads
with what the check code finds there: the request goes to the tower that holds its line, or is answered by why it may not; a request of
space 6 is answered with entries, 0 beyond the table's end. Where the halves are clean and the table's entries store no error the walk is
that of R299 over what memory holds; an uncorrectable entry is a denial. -/
def Sys2Proof.Claims.TranslationsComplete : Prop :=
  ∀ (s : State) (id : Nat) (rest : List Nat) (q : Request) (pa : Nat) (l : TtLeaf) (reads : List HalfRead),
    let va := q.addr.toNat % 2 ^ 60
    let w := translateBy { s with queues := { s.queues with translating := rest } } va reads
    let own : Prop := match q.who with | .caravanWrite _ _ => False | .corner _ => False | _ => True
    let now (t : State) : Prop := t.queues = w.1.queues
    let run := Instr.translationDone reads
    let i := bits q.addr.toNat 3 33 / 16 * 16
    let home := (ttShape s).base + 8 * i
    let answered (t : State) (a : ReadAnswer) : Prop :=
      now t ∧ (own → ∃ y ∈ t.net.requests, y = { q with state := .answered a })
        ∧ (∀ v line, q.who = .caravanWrite v line → (∃ y ∈ (getCv s v.val).sent, y.line = line) → ∃ f, (getCv t v.val).fault = some f
            ∧ ((getCv s v.val).fault = none → f.side = true ∧ f.status = (if a = .missed then 0x10 else 0x44)))
    (s.queues.translating = id :: rest → findRequest s.net id = some q → spaceOf q.addr.toNat ≠ 6 →
      (w.2 = .miss → ∃ t, exec run s = .next t ∧ answered t .missed)
      ∧ (w.2 = .denial → ∃ t, exec run s = .next t ∧ answered t .denied)
      ∧ (w.2 = .hit pa l → (q.write = true ∧ l.writable = false) ∨ (q.prefetch = true ∧ l.noPrefetch = true) → ∃ t, exec run s = .next t ∧ answered t .denied)
      ∧ (w.2 = .hit pa l → (q.write = true → l.writable = true) → ¬ (q.prefetch = true ∧ l.noPrefetch = true) → ∃ t, exec run s = .next t ∧ now t
          ∧ ((q.write = true → ∀ f, q.flit = some f → f.ackReq = true) →
              ∃ y ∈ t.net.requests, y.id = id ∧ y.who = q.who ∧ y.state = .sent ∧ y.phys = some (pa / 128 * 128))
          ∧ ∃ g ∈ t.net.flits, g.flit.tag = BitVec.ofNat 14 id ∧ g.flit.addr = BitVec.ofNat 64 (pa / 128 * 128) ∧ g.flit.opcode = (if q.write then 0x02 else 0x01)
              ∧ g.flit.payload = q.bytes ∧ g.flit.byteEn = q.be)
      ∧ ((∀ h ∈ reads, h.symbols = 0) → (ttShape s).base % 8 = 0 →
          w.2 = (translate s va).1 ∧ w.1.queues = { s.queues with translating := rest, ttCache := (translate s va).2 })
      ∧ (∀ h tl, reads = h :: tl → 2 < h.symbols → h.symbols ≤ 6 → va < 2 ^ 39 → ttCached s.queues.ttCache va = none → bits va 30 9 < (ttShape s).entries →
          w.2 = .denial))
    ∧ (s.queues.translating = id :: rest → findRequest s.net id = some q → spaceOf q.addr.toNat = 6 →
        ((ttShape s).entries ≤ i → ∃ t, exec run s = .next t ∧ t.queues = { s.queues with translating := rest }
          ∧ { q with state := .answered (.data (List.replicate 128 0) 0) } ∈ t.net.requests)
        ∧ (i < (ttShape s).entries → (∀ h ∈ reads, h.symbols = 0) → (ttShape s).base % 128 = 0 → stackPoison s.stacked home = false → stackPoison s.stacked (home + 64) = false →
            ∃ t, exec run s = .next t ∧ t.queues = { s.queues with translating := rest }
              ∧ { q with phys := some home, state := .answered (.data (stackRead s.stacked home 128) 0) } ∈ t.net.requests))
    ∧ (s.queues.translating = id :: rest → findRequest s.net id = none → exec run s = .next { s with queues := { s.queues with translating := rest } })
    ∧ (s.queues.translating = [] → exec run s = .next s)

/-- R289, R297, R303, R304, R510, R513, R517: the PCIe endpoint: ATS invalidations drop what overlaps and are completed; a translation that
permits anything is cached, and every request that waited for it leaves for the host, translated but where the page takes only
untranslated requests, or is refused to its sender; page requests carry an index of their own and
are raised within the allocation, and their responses resume, halt, or halt all; the configuration space, PERST# and the link. -/
def Sys2Proof.Claims.PcieEndpoint : Prop :=
  ∀ (s : State) (pasid : Option (BitVec 20)) (iova : U64) (size : Nat) (target : U64) (rd wr np en mask : Bool) (i : Invalidation) (rest : List Invalidation)
    (v : CaravanId) (before waiting : List CaravanId) (prg old n : Nat) (sz : Fin 10) (pay : Fin 3) (ask : Fin 6) (b : BitVec 32) (k : Fin 2048),
    let a := iova.toNat / 2 ^ size * 2 ^ size
    let keeps (l : AtsLeaf) : Bool :=
      !(l.pasid = pasid && decide (a < (l.page + 1) * 2 ^ l.sizeLog2) && decide (l.page * 2 ^ l.sizeLog2 < a + 2 ^ size))
    let page := if 30 ≤ size then 30 else if 21 ≤ size then 21 else 12
    let leaf : AtsLeaf := { pasid := pasid, page := bits iova.toNat 0 57 / 2 ^ page, sizeLog2 := page
                            target := target.toNat / 2 ^ size * 2 ^ size + bits iova.toNat 0 57 % 2 ^ size / 2 ^ page * 2 ^ page, readable := rd, writable := wr, noPrefetch := np }
    let x := getCv s v.val
    let at_ := ((x.fault.map fun f => f.addr.toNat).getD 0) % 2 ^ 57 / 4096
    let allowed (q : Request) : Bool := (if q.write then wr else rd) && !(q.prefetch && np)
    let host (q : Request) : U64 :=
      let c := bits q.addr.toNat 0 57
      BitVec.ofNat 64 (if np then c else leaf.target / 2 ^ page * 2 ^ page + c % 2 ^ page)
    let leaves (q : Request) (t : State) : Prop :=
      if allowed q then (q.write = false → { q with state := .host } ∈ t.net.requests ∧ .hostRead q.id q.pasid (!np) (host q) q.be ∈ t.out)
        ∧ (q.write = true → { q with state := .sent } ∈ t.net.requests ∧ .hostWrite q.pasid (!np) (host q) q.be q.bytes (q.poison ≠ 0) ∈ t.out)
      else { q with state := .sent } ∈ t.net.requests
        ∧ ∀ f, q.flit = some f → ∃ g ∈ t.net.flits, g.flit = { errResponse f with addr := if rd = false ∧ wr = false then 1 else 2 }
    let entry := mapGet {} s.bar0.msix k.val
    let config (w : CfgWrite) (p : Pcie) : Prop := exec (.pcieConfigWrite w) s = .next { s with pcie := p }
    let mine : Prop := x.state = .faultWait ∧ x.ending = none ∧ x.page = some (old, some prg)
    let owed : List Invalidation := s.pcie.invalidations ++ [{ pasid := pasid, iova := iova.toNat, sizeLog2 := size }]
    exec (.atsInvalidation pasid iova size) s = .next { s with pcie := { s.pcie with atsCache := s.pcie.atsCache.filter keeps, invalidations := owed } }
    ∧ (s.pcie.invalidations = i :: rest → exec .atsInvalidationComplete s = .next
        { s with pcie := { s.pcie with invalidations := rest }, out := s.out ++ [.invalidationComplete i.pasid (BitVec.ofNat 64 i.iova)] })
    ∧ (s.pcie.invalidations = [] → exec .atsInvalidationComplete s = .next s)
    ∧ (s.pcie.ats = false → exec (.atsTranslationCompletion pasid iova size rd wr np target) s = .next s)
    ∧ (s.pcie.ats = true → (s.net.requests.map (·.id)).Nodup → ∃ t, exec (.atsTranslationCompletion pasid iova size rd wr np target) s = .next t
        ∧ (rd = true ∨ wr = true → t.pcie.atsCache.head? = some leaf ∧ t.pcie.atsCache.length ≤ 8192)
        ∧ (rd = false → wr = false → t.pcie = s.pcie)
        ∧ ∀ q ∈ s.net.requests, q.state = .translating → spaceOf q.addr.toNat = 2 → q.pasid = pasid → bits q.addr.toNat 0 57 / 2 ^ page = leaf.page → leaves q t)
    ∧ (s.pcie.waiting = before ++ v :: waiting → (∀ w ∈ before, (getCv s w.val).state ≠ .faultWait) → x.state = .faultWait → s.pcie.pri = true → s.pcie.priStopped = false → s.pcie.outstanding.length < min 512 s.pcie.priAllocation →
        ∃ t k, exec .pageRequestRaise s = .next t ∧ k < 512 ∧ (∀ o ∈ s.pcie.outstanding, o.1 ≠ k) ∧ caravanOnly v s t
          ∧ getCv t v.val = { x with page := some (at_, some k) } ∧ t.pcie = { s.pcie with waiting := before ++ waiting, outstanding := s.pcie.outstanding ++ [(k, v)] }
          ∧ t.out = s.out ++ [.pageRequest (cvDesc x.desc).pasid (BitVec.ofNat 64 (4096 * at_)) k true])
    ∧ ((∀ w ∈ s.pcie.waiting, (getCv s w.val).state ≠ .faultWait) ∨ s.pcie.pri = false ∨ s.pcie.priStopped = true ∨ min 512 s.pcie.priAllocation ≤ s.pcie.outstanding.length →
        exec .pageRequestRaise s = .next s)
    ∧ (s.pcie.outstanding.find? (fun o => o.1 = prg) = some (prg, v) →
        let left := s.pcie.outstanding.filter fun o => o.1 ≠ prg
        let still := s.pcie.waiting.filter fun w => (getCv s w.val).state ≠ .faultWait
        (mine → ∃ t, exec (.pageResponse prg .success) s = .next t ∧ caravanOnly v s t ∧ getCv t v.val = { x with state := .running, status := 0, fault := none }
          ∧ t.pcie = { s.pcie with outstanding := left })
        ∧ (mine → ∃ t, exec (.pageResponse prg .invalidRequest) s = .next t ∧ caravanOnly v s t ∧ getCv t v.val = { x with ending := some (.halted, x.status) }
          ∧ t.pcie = { s.pcie with outstanding := left })
        ∧ ((∀ o p, x.page = some (o, p) → p ≠ some prg) → exec (.pageResponse prg .success) s = .next { s with pcie := { s.pcie with outstanding := left } })
        ∧ ∃ t, exec (.pageResponse prg .responseFailure) s = .next t ∧ t.pcie = { s.pcie with outstanding := left, waiting := still, priStopped := true }
            ∧ ∀ w : CaravanId, (getCv s w.val).state = .faultWait → (getCv s w.val).ending = none → (getCv t w.val).ending = some (.halted, (getCv s w.val).status))
    ∧ config (.bar2Size sz) { s.pcie with bar2Log := 30 + sz.val } ∧ config (.dState en) { s.pcie with d3hot := en }
    ∧ config (.atsEnable true) { s.pcie with ats := true } ∧ config (.atsEnable false) { s.pcie with ats := false, atsCache := [] }
    ∧ config (.priEnable true) { s.pcie with pri := true } ∧ config (.priAllocation n) { s.pcie with priAllocation := n }
    ∧ config (.maxPayload pay) { s.pcie with maxPayload := 128 * 2 ^ pay.val } ∧ config (.maxReadRequest ask) { s.pcie with maxReadRequest := 128 * 2 ^ ask.val }
    ∧ config (.ltrEnable en) { s.pcie with ltr := en } ∧ config (.aerClear b) { s.pcie with aerStatus := s.pcie.aerStatus &&& ~~~b }
    ∧ config .clearPriStopped { s.pcie with priStopped := false }
    ∧ (∃ t, exec (.pcieConfigWrite (.priEnable false)) s = .next t ∧ t.pcie = { s.pcie with pri := false, waiting := s.pcie.waiting.filter fun w => (getCv s w.val).state ≠ .faultWait }
        ∧ ∀ w ∈ s.pcie.waiting, (getCv s w.val).state = .faultWait → (getCv s w.val).ending = none → (getCv t w.val).ending = some (.halted, (getCv s w.val).status))
    ∧ (∃ t, exec (.pcieConfigWrite (.msixControl en mask)) s = .next t ∧ t.pcie = { s.pcie with msixEnable := en, functionMask := mask }
        ∧ (en = true → mask = false → entry.control.getLsbD 0 = false → entry.pending = true →
            (mapGet {} t.bar0.msix k.val).pending = false ∧ .msix k.val entry.addr entry.data ∈ t.out)
        ∧ (en = false ∨ mask = true ∨ entry.control.getLsbD 0 = true → mapGet {} t.bar0.msix k.val = entry))
    ∧ exec .perstNDeassert s = .next { s with pcie := { s.pcie with perstN := false, linkUp := true } }
    ∧ exec .pcieLinkDown s = .next { s with pcie := { s.pcie with linkUp := false } }

/-- ATS, PRI and invalidations, and the PCIe endpoint. Where the spec leaves a point open, this rests on the model's choices: log entries 12, 33, 79, 86. -/
def Obligations.HostTranslations : Prop := Claims.TranslationsComplete ∧ Claims.PcieEndpoint

/-- R227 to R229, R527: a mismatch of the management complex's cores takes the server away, with a CRITICAL entry and the end of every
session and handshake, until the reload of the active slot ends; at start-up the keys are unwrapped, and the complex boots the selected
slot where it passes, else the other with a CRITICAL entry, else none. What a slot holds is then in the private memory. -/
def Sys2Proof.Claims.ManagementComplex : Prop :=
  ∀ (s : State) (cycle : U64),
    let runs (t : State) (slot : Nat) : Prop := t.mgmt = .serving ∧ dictGet t keyFwSlotActive = slot
      ∧ t.complex = { memory := firmwareIn s slot, running := true } ∧ ∀ f, firmwareIn s slot = some f → dictGet t keyFwBuild = f.build.toNat
    (s.mgmt = .serving → ∃ t, exec (.mgmtMismatch cycle) s = .next t ∧ t.mgmt = .reloading ∧ t.complex.running = false
        ∧ t.complex.memory = s.complex.memory ∧ t.sessions.sessions = [] ∧ t.sessions.handshakes = []
        ∧ changesOnly [.out, .free, .dict, .bar0, .ledger, .sessions, .mgmt, .complex] s t ∧ logs s t 3 0x2001 0 0 cycle.toNat)
    ∧ (s.mgmt ≠ .serving → exec (.mgmtMismatch cycle) s = .next s)
    ∧ (∀ f, s.mgmt = .reloading → firmwareIn s (dictGet s keyFwSlotActive) = some f → ∃ t, exec .mgmtRestartDone s = .next t
        ∧ runs t (dictGet s keyFwSlotActive) ∧ changesOnly [.dict, .mgmt, .complex] s t)
    ∧ (s.mgmt = .reloading → firmwareIn s (dictGet s keyFwSlotActive) = none → firmwareOk s (1 - dictGet s keyFwSlotActive) = true →
        ∃ t, exec .mgmtRestartDone s = .next t ∧ runs t (1 - dictGet s keyFwSlotActive))
    ∧ (s.mgmt ≠ .reloading → exec .mgmtRestartDone s = .next s)
    ∧ (s.power.mode = .on → s.mgmt = .standby → dictGet s keyModuleState = 0 →
        let slot := dictGet s keyFwSlotSelect
        ∃ t, exec .managementBoot s = .next t
          ∧ (∀ k, mapGet none t.security.keys k = mapGet none s.security.keys k ∨ mapGet none t.security.keys k = none)
          ∧ (firmwareOk s slot = true → runs t slot)
          ∧ (firmwareOk s slot = false → firmwareOk s (1 - slot) = true → runs t (1 - slot))
          ∧ (firmwareOk s slot = false → firmwareOk s (1 - slot) = false → t.mgmt = .standby ∧ t.complex = s.complex
              ∧ dictGet t keyFwSlotActive = 0xFF ∧ logs (unwrapKeys s) t 3 0x2002 0 0 (slot % 256 + 0xFF * 256)))

/-- R275, R296, R513, R515, R538, R555: a module reset ends the program, the caravans and the mailbox's sessions, and leaves the rings and
the PCIe function as at reset, but PERST# while it stands; stacked memory, core memory's bytes and marks and the island stay. During the
unseal sequence it waits. -/
def Sys2Proof.Claims.ModuleResets : Prop :=
  ∀ (s : State) (trigger : ResetTrigger),
    let p := if trigger = .perstN then { s.pcie with perstN := true, linkUp := false } else s.pcie
    (s.power.mode = .on → isUnsealing s = true → exec (.moduleReset trigger) s = .next { s with pcie := p, security := { s.security with deferred := some trigger } })
    ∧ (s.power.mode ≠ .on → exec (.moduleReset trigger) s = .next { s with pcie := p })
    ∧ (canonicalCores s → s.power.mode = .on → isUnsealing s = false → ∃ t, exec (.moduleReset trigger) s = .next t
        ∧ (∀ c u, getThread t c u = {}) ∧ (∀ c : CoreId, (getCore t c).mem = { (getCore s c).mem with holds := [], pendingHolds := [], foreign := [] })
        ∧ t.caravans = [] ∧ (∀ r : RingId, 2 ≤ r.val → getRing t r.val = {}) ∧ t.pcie = { perstN := p.perstN, linkUp := p.linkUp }
        ∧ (∀ x ∈ t.sessions.sessions, byMailbox x.via = false) ∧ (∀ x ∈ s.sessions.sessions, byMailbox x.via = false → x ∈ t.sessions.sessions)
        ∧ dictGet t keyLastReset = 1 ∧ dictGet t keyDomainOff = 0)

/-- The management complex's boot, mismatch and restart, and the module reset. Where the spec leaves a point open, this rests on the model's choices: log entries 57, 70, 75, 78. -/
def Obligations.ManagementAndModuleReset : Prop := Claims.ManagementComplex ∧ Claims.ModuleResets

/-- R295, R303, R306, R309, R312, R321 to R324, R331, R332, R348, R370: RD and WR at their endpoints: a core answers from its memory or
takes the named bytes; a tower queues the request, or leaves it while it is full; a border port queues it or sends it back; the PCIe node
sends a unit's request to the host, at most 1,024 reads at a time; an Askua corner sends it on, or answers with ERR as every other endpoint
does, and every one that the endpoint table does not list; a write that asks for no acknowledgement gets none. A flit whose turn it is not
does nothing. -/
def Sys2Proof.Claims.NetworkRequests : Prop :=
  ∀ (s : State) (f : Flit) (n : Net) (c : CoreId) (u : Request) (l : AtsLeaf) (a : ReadAnswer),
    let k := getCore s c
    let base := flitLine f
    let kind := nodeKind f.dstX.val f.dstY.val
    let core := nodeCore s.fuses f.dstX.val f.dstY.val
    let q := placeOf f.addr.toNat
    let tower := getTower s.stacked q.tower
    let pc := getPc s.stacked q.tower (pcIndex q)
    let served : Prop := smServes f = true
    let listed : Prop := endpointListed f.dstX.val f.dstY.val f.dstSub.val = true
    let reads := (n.requests.filter fun y => y.state = .host).length
    let p := nodeBorder f.dstX.val f.dstY.val f.dstSub.val
    let b := mapGet {} s.net.border p
    let way := routePort s (bits f.addr.toNat 39 15)
    let marked (h : Nat) : Bool := granulePoison k.mem (base / 64 + h) && (List.range 64).any fun i => f.byteEn.getLsbD (64 * h + i)
    ∀ row ∈ ([(clsReq, 0x01, .rd f), (clsWr, 0x02, .wr f)] : List (Fin 8 × Byte × Instr)),
      let does (P : State → Prop) : Prop := ∃ t, exec row.2.2 s = .next t ∧ P t
      let acked : Net := if f.ackReq then inject n (mkResponse f 0x82 [] 0 false) else n
      let refused (t : State) : Prop := t.net = if row.2.1 = 0x01 ∨ f.ackReq = true then inject n (errResponse f) else n
      (f.cls ≠ row.1 ∨ f.opcode ≠ row.2.1 ∨ takeFlit s.fuses s.net f = none → exec row.2.2 s = .next s)
      ∧ (f.cls = row.1 → f.opcode = row.2.1 → arrives s f n → ¬ listed → does fun t => refused t ∧ t.cores = s.cores ∧ t.stacked = s.stacked)
      ∧ (f.cls = row.1 → f.opcode = row.2.1 → arrives s f n → listed →
        (kind = .core → core = some c → coreOff s c.val = false →
          (row.2.1 = 0x01 → does fun t => coreOnly c s t ∧ (getCore t c).mem.bytes = k.mem.bytes ∧ (nodeKind f.srcX.val f.srcY.val ≠ .askua → (getCore t c).mem = k.mem)
            ∧ ∃ r, t.net = inject n r ∧ r.opcode = 0x81 ∧ r.err = false ∧ r.tag = f.tag ∧ flitDst r = flitSrc f ∧ flitSrc r = flitDst f
              ∧ (∀ i < 128, r.payload.getD i 0 = if f.byteEn.getLsbD i then coreByte k.mem (base + i) else 0)
              ∧ ∀ h < 2, r.poison.getLsbD h = marked h)
          ∧ (row.2.1 = 0x02 → does fun t => coreOnly c s t ∧ flitWritten k.mem (getCore t c).mem base f
            ∧ (getCore t c).mem.holds = k.mem.holds ∧ (getCore t c).mem.incomplete = k.mem.incomplete ∧ t.net = acked))
        ∧ (kind = .core → core = none ∨ (core = some c ∧ coreOff s c.val = true) → does fun t => refused t ∧ t.cores = s.cores)
        ∧ (kind = .tower →
            (tower.state = .failed ∨ (tower.state = .ready ∧ ¬ served) → does fun t => refused t ∧ t.stacked = s.stacked)
            ∧ (tower.state = .ready → served → 64 ≤ pc.queue.length ∨ s.power.toSelfRefresh.getLsbD q.tower = true → exec row.2.2 s = .next s)
            ∧ (tower.state = .ready → served → pc.queue.length < 64 → s.power.toSelfRefresh.getLsbD q.tower = false → row.2.1 = 0x01 ∨ f.byteEn ≠ 0 →
                does fun t => (getPc t.stacked q.tower (pcIndex q)).queue
                    = pc.queue ++ [{ flit := f, port := (smPort f).getD 0, aged := false, opened := false }]
                  ∧ t.stacked.bytes = s.stacked.bytes ∧ (row.2.1 = 0x01 → t.net = n) ∧ (row.2.1 = 0x02 → t.net.flits = acked.flits))
            ∧ (tower.state ≠ .failed → tower.state ≠ .ready → tower.state ≠ .selfRefresh → exec row.2.2 s = .next s))
        ∧ (kind = .fabric →
            (portIsolated s p = true → does refused)
            ∧ (portIsolated s p = false → portDraining s p = true ∨ 64 ≤ b.taken.length ∨ 16 ≤ b.queue.length →
                does fun t => t.net = inject n (mkResponse f 0x87 [] 0 false))
            ∧ (portIsolated s p = false → portDraining s p = false → b.taken.length < 64 → b.queue.length < 16 →
                does fun t => mapGet {} t.net.border p = { b with queue := b.queue ++ [f] } ∧ t.net.flits = n.flits))
        ∧ (kind = .askua →
            ((∀ o, way = some o → portOpen (getPort s.links o) = false) → does fun t => ∃ g ∈ t.net.flits, g.flit.err = true ∧ g.flit.tag = f.tag
              ∧ g.flit.opcode = row.2.1 + 0x80 ∧ g.flit.addr = 0)
            ∧ ∀ o, way = some o → portOpen (getPort s.links o) = true →
                let records := (getCorner s.links (portEast o)).records
                let wants : Bool := row.2.1 = 0x01 || f.ackReq
                (wants = true → 4096 ≤ records.length → exec row.2.2 s = .next s)
                ∧ (wants = false ∨ records.length < 4096 → does fun t => t.net = n
                    ∧ (getCorner t.links (portEast o)).records = (if wants then records
                        ++ [{ port := Fin.ofNat 8 o, srcEp := epCode (flitSrc f), tag := f.tag.toNat, cls := f.cls.val, opcode := f.opcode }] else records)
                    ∧ getPort t.links o = getPort (enqueue s o (requestPacket s f (leaveVc s o 0))).links o))
        ∧ (kind = .management ∨ (kind = .caravanserai ∧ (row.2.1 = 0x01 ∨ f.dstY ≠ 0 ∨ f.dstSub ≠ 1)) → does refused)
        ∧ (kind = .pcie →
            (findRequest n f.tag.toNat = none → does refused)
            ∧ (findRequest n f.tag.toNat = some u →
                let at_ := bits u.addr.toNat 0 57
                let leaves (translated : Bool) (target : Nat) (t : State) : Prop :=
                  (u.write = false → { u with state := .host } ∈ t.net.requests ∧ .hostRead u.id u.pasid translated (BitVec.ofNat 64 target) u.be ∈ t.out)
                  ∧ (u.write = true → .hostWrite u.pasid translated (BitVec.ofNat 64 target) u.be u.bytes (u.poison ≠ 0) ∈ t.out
                      ∧ ∀ g, u.flit = some g → respondedWith t (mkResponse g 0x82 [] 0 false))
                (spaceOf u.addr.toNat ≠ 2 ∨ flitSrc f ≠ requesterEp s u.who → does refused)
                ∧ (spaceOf u.addr.toNat = 2 → flitSrc f = requesterEp s u.who → u.write = false → 1024 ≤ reads → exec row.2.2 s = .next s)
                ∧ (spaceOf u.addr.toNat = 2 → flitSrc f = requesterEp s u.who → u.write = true ∨ reads < 1024 →
                    (s.pcie.ats = false → does (leaves false at_))
                    ∧ (s.pcie.ats = true → atsFind s.pcie u.pasid at_ = none → does fun t =>
                        { u with state := .translating } ∈ t.net.requests ∧ .atsRequest u.pasid (BitVec.ofNat 64 at_) ∈ t.out)
                    ∧ (s.pcie.ats = true → atsFind s.pcie u.pasid at_ = some l →
                        (hostPermit l u = none → does (leaves (hostAddr (some l) at_).2 (hostAddr (some l) at_).1))
                        ∧ (hostPermit l u = some a → does fun t => { u with state := .sent } ∈ t.net.requests
                            ∧ ∀ g, u.flit = some g → respondedWith t { errResponse g with addr := BitVec.ofNat 64 (answerCause a) })))))
        ∧ (kind = .caravanserai → row.2.1 = 0x02 → f.dstY = 0 → f.dstSub = 1 → exec row.2.2 s = .next s))

/-- R241, R250, R287, R290, R301, R309, R314, R315, R323, R331, R373: responses reach who asked: the answer stands by its request, a
caravan's line counts as written, a forwarding ring's HEAD advances, a ring's TAIL counts as written back where nothing newer is to be, a
BAR2 read completes, receive entries are free again, and a refused request is sent again; management accesses are queued at a tower and
answered elsewhere, with ERR where they do not come from the management complex; the urgency of a flit at the head of its buffer rises to
15 at most. -/
def Sys2Proof.Claims.NetworkResponses : Prop :=
  ∀ (s : State) (f : Flit) (n : Net) (q : Request) (v : CaravanId) (line off len : Nat) (c d : CoreId) (r : RingId) (i : Nat) (g : Flight) (y : Receiver),
    let x := getCv s v.val
    let askua : Prop := nodeKind f.dstX.val f.dstY.val = .askua
    let ring := getRing s r.val
    let newer (q : Request) : Bool := leNat ((q.bytes.drop (q.addr.toNat % 128 + (ringFld ring 320 57 / 8 * 8) % 128)).take 8) ≠ ringTail ring
    let place := placeOf f.addr.toNat
    let tower := getTower s.stacked place.tower
    let does (i : Instr) (P : State → Prop) : Prop := ∃ t, exec i s = .next t ∧ P t
    (∀ row ∈ ([(clsRsp, 0x81, .rdData f), (clsRsp, 0x82, .wrAck f), (clsRsp, 0x86, .credit f), (clsRsp, 0x87, .retry f), (clsMgt, 0x10, .mgtRd f),
        (clsMgt, 0x11, .mgtWr f), (clsMgt, 0x90, .mgtRsp f)] : List (Fin 8 × Byte × Instr)),
        f.cls ≠ row.1 ∨ f.opcode ≠ row.2.1 ∨ takeFlit s.fuses s.net f = none → exec row.2.2 s = .next s)
    ∧ (arrives s f n →
      (f.cls = clsRsp → f.opcode = 0x81 → ¬ askua → findRequest n f.tag.toNat = some q →
        ((∀ o l, q.who ≠ .bar2 o l) → q.who ≠ .nobody → does (.rdData f) fun t => ∃ z ∈ t.net.requests, z = { q with state := .answered (responseAnswer f q.be) })
        ∧ (q.who = .bar2 off len → q.write = false → does (.rdData f) fun t => t.net = dropRequest n q.id
            ∧ (f.err = false → t.bar0 = s.bar0 ∧ t.out = s.out
                ++ [.barData ((f.payload.zipIdx.filter fun b => q.be.getLsbD b.2).map (·.1)) (touchedPoison f.poison q.be ≠ 0)])
            ∧ (f.err = true → t.bar0 = { s.bar0 with barErrors := sat32 (s.bar0.barErrors + 1) } ∧ t.out = s.out ++ [.completerAbort]))
        ∧ (q.who = .nobody → does (.rdData f) fun t => t = { s with net := dropRequest n q.id }))
      ∧ (f.cls = clsRsp → f.opcode = 0x82 → ¬ askua → ¬ (flitDst f = (7, 0, 1) ∧ nodeKind f.srcX.val f.srcY.val = .askua) → findRequest n f.tag.toNat = some q →
        ((∀ o l, q.who ≠ .bar2 o l) → (∀ w l, q.who ≠ .caravanWrite w l) → (∀ w, q.who ≠ .ringTail w) → q.who ≠ .nobody → does (.wrAck f) fun t =>
            ∃ z ∈ t.net.requests, z = { q with state := .answered (responseAnswer f q.be) })
        ∧ (q.who = .ringTail r →
            (f.err = true → does (.wrAck f) fun t => ringOnly r s t ∧ ringStopped s t r 5)
            ∧ (f.err = false → does (.wrAck f) fun t => ringOnly r s t ∧ getRing t r.val = { ring with writebackDue := ring.writebackDue && newer q }))
        ∧ (q.who = .caravanWrite v line → (∃ b ∈ x.sent, b.line = line) →
            (f.err = true → x.fault = none → does (.wrAck f) fun t => caravanOnly v s t ∧ t.net.requests = n.requests.filter (fun z => z.id ≠ q.id)
              ∧ (getCv t v.val).sent = x.sent.filter (fun b => b.line ≠ line) ∧ ∃ e, (getCv t v.val).fault = some e ∧ e.side = true)
            ∧ (f.err = false → x.receivers = [y] → does (.wrAck f) fun t => caravanOnly v s t ∧ t.net.requests = n.requests.filter (fun z => z.id ≠ q.id)
              ∧ ∃ z, (getCv t v.val).receivers = [z] ∧ receiverHas z line = true)))
      ∧ (f.cls = clsRsp → f.opcode = 0x82 → ¬ askua → flitDst f = (7, 0, 1) → nodeKind f.srcX.val f.srcY.val = .askua → f.tag.toNat = r.val →
          ring.forwarded ≠ [] → ringErr ring = false → ringEn ring = true →
          (f.err = false → does (.wrAck f) fun t => ringOnly r s t
            ∧ fieldWritten { ring with forwarded := ring.forwarded.drop 1 } (getRing t r.val) 160 17 (headPlus ring 1 % 2 ^ 17))
          ∧ (f.err = true → does (.wrAck f) fun t => ringOnly r s t ∧ ringStopped s t r (if f.addr.toNat % 4 = 2 then 3 else 6)))
      ∧ (f.cls = clsRsp → f.opcode = 0x86 → nodeKind f.dstX.val f.dstY.val = .core → nodeCore s.fuses f.srcX.val f.srcY.val = some d →
          nodeCore s.fuses f.dstX.val f.dstY.val = some c → does (.credit f) fun t =>
            mapGet 0 t.net.spent (creditKey c.val d.val) = mapGet 0 n.spent (creditKey c.val d.val) - leNat (f.payload.take 2))
      ∧ (f.cls = clsRsp → f.opcode = 0x86 → nodeKind f.dstX.val f.dstY.val = .core → nodeCore s.fuses f.srcX.val f.srcY.val = none →
          nodeCore s.fuses f.dstX.val f.dstY.val = some c → findRequest n f.tag.toNat = some q → does (.credit f) fun t =>
            ∀ k ∈ creditOfLine c.val q.addr.toNat, mapGet 0 t.net.spent k = mapGet 0 n.spent k - leNat (f.payload.take 2))
      ∧ (f.cls = clsRsp → f.opcode = 0x87 → ¬ askua → findRequest n f.tag.toNat = some q → does (.retry f) fun t =>
          ∃ z ∈ t.net.requests, z = { q with state := .retrying })
      ∧ (∀ row ∈ ([(0x10, .mgtRd f), (0x11, .mgtWr f)] : List (Byte × Instr)), f.cls = clsMgt → f.opcode = row.1 →
          (endpointListed f.dstX.val f.dstY.val f.dstSub.val = false
              ∨ (nodeKind f.dstX.val f.dstY.val ≠ .tower ∧ nodeKind f.srcX.val f.srcY.val ≠ .management)
              ∨ (nodeKind f.dstX.val f.dstY.val = .tower ∧ tower.state = .failed)
              ∨ (nodeKind f.dstX.val f.dstY.val = .tower ∧ tower.state = .ready ∧ smServes f = false) →
            does row.2 fun t => t.net = inject n (errResponse f))
          ∧ (endpointListed f.dstX.val f.dstY.val f.dstSub.val = true → nodeKind f.dstX.val f.dstY.val ≠ .tower →
              nodeKind f.srcX.val f.srcY.val = .management → does row.2 fun t => ∃ z, t.net = inject n z ∧ z.opcode = 0x90 ∧ z.err = false
                ∧ flitDst z = flitSrc f ∧ (row.1 = 0x10 → z.payload.length = 128))
          ∧ (endpointListed f.dstX.val f.dstY.val f.dstSub.val = true → nodeKind f.dstX.val f.dstY.val = .tower → tower.state = .ready →
              smServes f = true → s.power.toSelfRefresh.getLsbD place.tower = false → row.1 = 0x10 ∨ f.byteEn ≠ 0 → does row.2 fun t =>
                (getPc t.stacked place.tower (pcIndex place)).queue = (getPc s.stacked place.tower (pcIndex place)).queue
                    ++ [{ flit := f, port := 7, aged := false, opened := false }]
                  ∧ t.net.flits = n.flits ++ if row.1 = 0x11 then [{ flit := mkResponse f 0x90 [] 0 false }] else []))
      ∧ (f.cls = clsMgt → f.opcode = 0x90 → exec (.mgtRsp f) s = .next { s with net := n }))
    ∧ (∀ tag : BitVec 14, findRequest s.net tag.toNat = some q → q.state = .retrying → q.flit = some f → does (.retryResend tag) fun t =>
        respondedWith t f ∧ ∃ z ∈ t.net.requests, z = { q with state := .sent })
    ∧ (∀ tag : BitVec 14, findRequest s.net tag.toNat = none → exec (.retryResend tag) s = .next s)
    ∧ (∀ a b e w, s.net.flits[i]? = some g → g.spot = .buffer a b e w → (∀ h ∈ s.net.flits.take i, sameLane h g = false) →
        does (.urgencyAge i) fun t => changesOnly [.net, .counters] s t ∧ t.net.flits.length = s.net.flits.length
        ∧ (∀ j, j ≠ i → t.net.flits[j]? = s.net.flits[j]?)
        ∧ t.net.flits[i]? = some { g with flit := { g.flit with urgency := if g.flit.urgency.val < 15 then g.flit.urgency + 1 else g.flit.urgency } })
    ∧ (s.net.flits[i]? = none → exec (.urgencyAge i) s = .next s)
    ∧ (∀ h ∈ s.net.flits.take i, s.net.flits[i]? = some g → sameLane h g = true → exec (.urgencyAge i) s = .next s)

/-- R175, R178, R250, R266, R309, R312, R314, R320: a line reaches a core's memory under its caravan's hold, and its receive entry goes
back; a multicast line's copy counts for its receiver, or waits there for the hold; a hold request waits in the core's table or is sent
back; a hold is granted in order, and noted at its caravan once its HOLD_GRANT is there. -/
def Sys2Proof.Claims.LinesAndHolds : Prop :=
  ∀ (s : State) (f : Flit) (n : Net) (c : CoreId) (v : CaravanId) (line : Nat) (q : Request) (h : Hold) (p : PendingHold) (rest : List PendingHold) (y : Receiver)
    (m : Net) (g : Flight) (from_ : InRecord),
    let k := getCore s c
    let x := getCv s v.val
    let base := flitLine f
    let here : Prop := nodeKind f.dstX.val f.dstY.val = .core ∧ nodeCore s.fuses f.dstX.val f.dstY.val = some c ∧ coreOff s c.val = false
    let foreign : Prop := nodeKind f.srcX.val f.srcY.val = .askua
    let hold : Option Hold := k.mem.holds.find? fun h => h.owner = .caravan v && h.part = .destination
    let waiting := (k.mem.pendingHolds.filter fun p => p.request.isSome).length
    let asking : Hold := { owner := .caravan v, write := f.ackReq, part := if f.ackReq then .destination else .source, range := holdReqRange f }
    let asked : PendingHold := { hold := asking, request := some f }
    let mine (o : Owner) : Bool := match o with | .caravan w => w = v | .foreign _ n => n % 262144 = v.val | _ => false
    let noted (source : Bool) : Caravan :=
      if source then { x with sourceHeld := true }
      else { x with receivers := x.receivers.map fun r => if r.core = c.val then { r with holdGranted := true, parked := [] } else r }
    (f.cls = clsStr → f.opcode = 0x03 → f.mcast = false → arrives s f n → here →
      (¬ foreign → findRequest n f.tag.toNat = some q → q.who = .caravanWrite v line → hold = some h →
        ∃ t, exec (.line f) s = .next t ∧ coreOnly c s t ∧ flitWritten k.mem (getCore t c).mem base f ∧ (getCore t c).mem.holds = k.mem.holds
          ∧ credited t s f c ∧ (f.ackReq = true → respondedWith t (mkResponse f 0x82 [] 0 false)))
      ∧ (foreign → foreignHold s f true k.mem = some h → ∃ t, exec (.line f) s = .next t ∧ coreOnly c s t
          ∧ flitWritten k.mem (getCore t c).mem base f ∧ credited t s f c)
      ∧ (foreign → foreignHold s f true k.mem = none → ∃ t, exec (.line f) s = .next t ∧ t.cores = s.cores ∧ credited t s f c))
    ∧ (f.cls = clsStr → f.opcode = 0x04 → takeCopy s.fuses s.net f c = some n → findRequest n f.tag.toNat = some q → q.who = .caravanWrite v line →
        x.receivers.find? (fun r => r.core = c.val) = some y →
        (hold = some h → ∃ t z, exec (.mcLine f c) s = .next t ∧ caravanOnly v s t
          ∧ (∃ e ∈ t.net.flits, e.flit.opcode = 0x86 ∧ flitDst e.flit = coreEp s x.core.val ∧ flitSrc e.flit = coreEp s c.val ∧ leNat e.flit.payload = 1)
          ∧ (∀ a, coreByte (getCore t c).mem a = if cmAddr q.addr.toNat ≤ a ∧ a < cmAddr q.addr.toNat + 128 ∧ q.be.getLsbD (a - cmAddr q.addr.toNat) = true
              then q.bytes.getD (a - cmAddr q.addr.toNat) 0 else coreByte k.mem a)
          ∧ (getCv t v.val).receivers.find? (fun r => r.core = c.val) = some z ∧ receiverHas z line = true)
        ∧ (hold = none → x.pruned.getLsbD c.val = false → ∃ t, exec (.mcLine f c) s = .next t ∧ caravanOnly v s t ∧ t.cores = s.cores ∧ t.net = n
          ∧ getCv t v.val = { x with receivers := x.receivers.map fun r => if r.core = c.val then { r with parked := r.parked ++ [q.id] } else r })
        ∧ (hold = none → x.pruned.getLsbD c.val = true → ∃ t, exec (.mcLine f c) s = .next t ∧ t.caravans = s.caravans ∧ t.cores = s.cores ∧ credited t s f c))
    ∧ (f.cls = clsReq → f.opcode = 0x05 → arrives s f n → nodeKind f.dstX.val f.dstY.val = .core → nodeCore s.fuses f.dstX.val f.dstY.val = some c →
        (coreOff s c.val = true → ∃ t, exec (.holdReq f) s = .next t ∧ t.net = inject n { mkResponse f 0x85 [] 0 true with addr := 0 })
        ∧ (coreOff s c.val = false → ¬ foreign → findRequest n f.tag.toNat = some q → q.who = .holdReq v line →
            (64 ≤ waiting → ∃ t, exec (.holdReq f) s = .next t ∧ t.net = inject n (mkResponse f 0x87 [] 0 false) ∧ t.cores = s.cores)
            ∧ (waiting < 64 → ∃ t, exec (.holdReq f) s = .next t ∧ t.net = n ∧ coreOnly c s t
                ∧ getCore t c = { k with mem := { k.mem with pendingHolds := k.mem.pendingHolds ++ [asked] } }))
        ∧ (coreOff s c.val = false → foreign → (getCorner s.links (f.srcX = 14)).inbound.find? (fun r => r.tag = f.tag.toNat) = none →
            ∃ t, exec (.holdReq f) s = .next t ∧ t.net = n ∧ t.cores = s.cores)
        ∧ (coreOff s c.val = false → foreign → (getCorner s.links (f.srcX = 14)).inbound.find? (fun r => r.tag = f.tag.toNat) = some from_ → waiting < 64 →
            ∃ t, exec (.holdReq f) s = .next t ∧ t.net = n ∧ coreOnly c s t
              ∧ getCore t c = { k with mem := { k.mem with pendingHolds := k.mem.pendingHolds
                  ++ [{ hold := { asking with owner := .foreign from_.sys (from_.ep * 16384 + from_.remoteTag) }, request := some f }] } }))
    ∧ (grantable k.mem mine [] k.mem.pendingHolds = some (p, rest) → p.hold.owner = .caravan v → x.pruned.getLsbD c.val = false →
        (∀ r ∈ x.receivers, r.core = c.val → r.parked = []) →
        let answer := mkResponse f 0x85 [] 0 false
        let placed (t : State) : Prop := coreOnly c s t ∧ caravanOnly v s t
          ∧ (getCore t c).mem.holds = k.mem.holds ++ [p.hold] ∧ (getCore t c).mem.pendingHolds = rest
          ∧ ∀ g, granuleComplete (getCore t c).mem g = (granuleComplete k.mem g && !(p.hold.write && rangeCovers p.hold.range g))
        (p.request = none → ∃ t, exec (.holdGrant v c) s = .next t ∧ placed t ∧ getCv t v.val = noted (p.hold.part = .source))
        ∧ (p.request = some f → takeFlit s.fuses (inject s.net answer) answer = none → ∃ t, exec (.holdGrant v c) s = .next t ∧ placed t
            ∧ t.caravans = s.caravans ∧ t.net = inject s.net answer)
        ∧ (p.request = some f → takeFlit s.fuses (inject s.net answer) answer = some m → ¬ foreign → findRequest m f.tag.toNat = some q →
            q.who = .holdReq v c.val → ∃ t, exec (.holdGrant v c) s = .next t ∧ placed t ∧ t.net = dropRequest m f.tag.toNat
              ∧ getCv t v.val = noted (!q.write)))
    ∧ (grantable k.mem mine [] k.mem.pendingHolds = none → s.net.flits.find? (fun e => grantIsFor s v c e.flit) = some g → takeFlit s.fuses s.net g.flit = some m →
        nodeKind g.flit.dstX.val g.flit.dstY.val ≠ .askua → findRequest m g.flit.tag.toNat = some q → q.who = .holdReq v c.val →
        (g.flit.err = false → q.write = false → ∃ t, exec (.holdGrant v c) s = .next t ∧ caravanOnly v s t ∧ getCv t v.val = { x with sourceHeld := true })
        ∧ (g.flit.err = true → x.fault = none → ∃ t e, exec (.holdGrant v c) s = .next t ∧ caravanOnly v s t ∧ (getCv t v.val).fault = some e ∧ e.side = q.write))
    ∧ (grantable k.mem mine [] k.mem.pendingHolds = none → (∀ g ∈ s.net.flits, g.flit.opcode ≠ 0x85) → exec (.holdGrant v c) s = .next s)

/-- Flits of the network, their responses, lines and holds. Where the spec leaves a point open, this rests on the model's choices: log entries 36, 47, 85, 86. -/
def Obligations.NetworkRequests : Prop := Claims.NetworkRequests ∧ Claims.NetworkResponses ∧ Claims.LinesAndHolds

/-- R322 to R324: a border port presents its head request under a free tag where the design takes it and fewer than 64 are out; the
design's response, by tag, completes the request to its requester, or is counted as stray; a request that times out completes with ERR,
with its entry. An isolated port takes part in none of it. Where the spec leaves a point open, this rests on the model's choices: log entry 47. -/
def Obligations.BorderPorts : Prop :=
  ∀ (s : State) (p : BorderId) (ready err : Bool) (tag : Fin 64) (data : List Byte) (poison : BitVec 2) (f : Flit) (rest : List Flit),
    let b := mapGet {} s.net.border p.val
    let left := { b with taken := b.taken.filter fun x => x.1 ≠ tag.val }
    let bytes := (List.range 128).map fun i => if f.byteEn.getLsbD i then data.getD i 0 else 0
    let after (t : State) (flits : List Flit) : Prop :=
      mapGet {} t.net.border p.val = left ∧ t.net.flits = s.net.flits ++ flits.map fun f => { flit := f }
    (b.queue = f :: rest →
      (ready = true → b.taken.length < 64 → portIsolated s p.val = false → ∃ t k, exec (.bpRequestPresent p ready) s = .next t ∧ k < 64
        ∧ (∀ x ∈ b.taken, x.1 ≠ k) ∧ mapGet {} t.net.border p.val = { b with queue := rest, taken := b.taken ++ [(k, f)], nextTag := (k + 1) % 64 }
        ∧ t.out = s.out ++ [.borderRequest p.val (f.opcode = 0x02) (f.addr.setWidth 32) k f.byteEn f.payload f.poison])
      ∧ (ready = false ∨ 64 ≤ b.taken.length ∨ portIsolated s p.val = true → exec (.bpRequestPresent p ready) s = .next s))
    ∧ (b.queue = [] → exec (.bpRequestPresent p ready) s = .next s)
    ∧ (portIsolated s p.val = true → exec (.bpResponse p tag err data poison) s = .next s)
    ∧ (portIsolated s p.val = false → (∀ x ∈ b.taken, x.1 ≠ tag.val) → ∃ t, exec (.bpResponse p tag err data poison) s = .next t ∧ changesOnly [.counters] s t)
    ∧ (b.taken.find? (fun x => x.1 = tag.val) = some (tag.val, f) →
        (portIsolated s p.val = false → ∃ t, exec (.bpResponse p tag err data poison) s = .next t
          ∧ (err = true → after t (if wantsResponse f then [errResponse f] else []))
          ∧ (err = false → f.opcode = 0x02 → after t (if f.ackReq then [mkResponse f 0x82 [] 0 false] else []))
          ∧ (err = false → f.opcode ≠ 0x02 → after t [mkResponse f 0x81 bytes poison false]))
        ∧ ∃ t, exec (.bpTimeout p tag) s = .next t ∧ after t (if wantsResponse f then [errResponse f] else []) ∧ logs s t 2 0x5007 8 p.val (packData [(8, tag.val)]))
    ∧ ((∀ x ∈ b.taken, x.1 ≠ tag.val) → exec (.bpTimeout p tag) s = .next s)

/-- R328: the map of physical addresses onto towers, controllers, pseudo-channels, banks, rows and columns is one to one and onto: every
line of stacked memory has one place, and every place one line. -/
def Obligations.StackedAddressMap : Prop :=
  let legal (q : Place) : Prop := q.tower < 8 ∧ q.ctl < 16 ∧ q.pc < 2 ∧ q.sid < 3 ∧ q.bank < 16 ∧ q.row < 24576 ∧ q.col < 8
  (∀ pa, pa < stackedBytes → legal (placeOf pa) ∧ lineOf (placeOf pa) = pa / 128 * 128)
    ∧ ∀ q, legal q → lineOf q < stackedBytes ∧ placeOf (lineOf q) = q

/-- R333 to R339: a pseudo-channel serves a request that no earlier one to its line precedes: it opens the row, closes another one, or
issues the column command; a write of whole halves changes the bytes it names and no others; one that needs the rest of its line reads it
first, and then writes the same; a read's halves are delivered as written, corrected, or with their POISON bit, and an uncorrectable half
is rewritten as stored poison. A request that waits too long is promoted. -/
def Sys2Proof.Claims.TowerCommands : Prop :=
  ∀ (s : State) (t : TowerId) (k : CtlId) (c : PcId) (n i : Nat) (r : SmRequest) (rest : List SmRequest) (low high : HalfRead),
    let j := 2 * k.val + c.val
    let pc := getPc s.stacked t.val j
    let q := placeOf r.flit.addr.toNat
    let line := r.flit.addr.toNat / 128 * 128
    let row := mapGet none pc.openRows (bankIndex q)
    let does (i : Instr) (P : State → Prop) : Prop := ∃ u, exec i s = .next u ∧ P u
    let after (u : State) : PseudoChannel := getPc u.stacked t.val j
    let stored (pa : Nat) : Bool := mapGet false s.stacked.poison (pa / 64)
    let written (u : State) (was : Nat → Bool) : Prop :=
      (∀ a, mapGet 0 u.stacked.bytes a = if line ≤ a ∧ a < line + 128 ∧ r.flit.byteEn.getLsbD (a - line) = true
          then r.flit.payload.getD (a - line) 0 else mapGet 0 s.stacked.bytes a)
      ∧ ∀ h < 2, mapGet false u.stacked.poison (line / 64 + h) =
          if (halfEnables r.flit.byteEn h).2 then was h
          else if (halfEnables r.flit.byteEn h).1 then r.flit.poison.getLsbD h
          else (was h || r.flit.poison.getLsbD h)
    (smChoose s pc = some (n, r) → pc.queue[n]? = some r
      ∧ (∀ m x, m < n → pc.queue[m]? = some x → x.flit.addr.toNat / 128 ≠ r.flit.addr.toNat / 128)
      ∧ (∀ x ∈ pc.reading, x.flit.addr.toNat / 128 ≠ r.flit.addr.toNat / 128))
    ∧ ((getTower s.stacked t.val).state ≠ .ready ∨ smChoose s pc = none → exec (.smCommandIssue t k c) s = .next s)
    ∧ ((getTower s.stacked t.val).state = .ready → smChoose s pc = some (n, r) →
        (row = none → does (.smCommandIssue t k c) fun u => u.stacked.bytes = s.stacked.bytes
          ∧ after u = { pc with openRows := mapSet none pc.openRows (bankIndex q) (some q.row), queue := listMod (fun x => { x with opened := true }) pc.queue n })
        ∧ (∀ o, row = some o → o ≠ q.row → does (.smCommandIssue t k c) fun u => u.stacked.bytes = s.stacked.bytes
          ∧ after u = { pc with openRows := mapSet none pc.openRows (bankIndex q) none })
        ∧ (row = some q.row → isWriteFlit r.flit = false ∨ needsRmw r.flit = true → does (.smCommandIssue t k c) fun u => u.stacked.bytes = s.stacked.bytes
          ∧ after u = { pc with queue := pc.queue.eraseIdx n, reading := pc.reading ++ [r] })
        ∧ (row = some q.row → isWriteFlit r.flit = true → needsRmw r.flit = false → does (.smCommandIssue t k c) fun u =>
          after u = { pc with queue := pc.queue.eraseIdx n } ∧ written u fun h => mapGet false s.stacked.poison (line / 64 + h)))
    ∧ (pc.reading = r :: rest → isWriteFlit r.flit = true → low.symbols ≤ 6 → high.symbols ≤ 6 → does (.smReadData t k c low high) fun u =>
        after u = { pc with reading := rest }
          ∧ written u fun h => mapGet false s.stacked.poison (line / 64 + h) || decide (2 < (if h = 0 then low else high).symbols))
    ∧ (pc.reading = r :: rest → isWriteFlit r.flit = false → high.symbols = 0 → stored (line + 64) = false →
        let reply (u : State) (P : Flit → Prop) : Prop := after u = { pc with reading := rest }
          ∧ ∃ f, u.net = inject s.net f ∧ f.opcode = (if r.flit.cls = clsMgt then 0x90 else 0x81) ∧ flitDst f = flitSrc r.flit ∧ f.tag = r.flit.tag
            ∧ f.payload.drop 64 = mapRead 0 s.stacked.bytes (line + 64) 64 ∧ f.poison.getLsbD 1 = false ∧ P f
        (low.symbols ≤ 2 → stored line = false → does (.smReadData t k c low high) fun u => u.stacked.bytes = s.stacked.bytes ∧ u.stacked.poison = s.stacked.poison
          ∧ reply u (fun f => f.payload.take 64 = mapRead 0 s.stacked.bytes line 64 ∧ f.poison.getLsbD 0 = false)
          ∧ dictGet u keyEccCorrected = if low.symbols = 0 then dictGet s keyEccCorrected else (dictGet s keyEccCorrected + 1) % 2 ^ 64)
        ∧ (low.symbols ≤ 2 → stored line = true → does (.smReadData t k c low high) fun u => u.stacked.bytes = s.stacked.bytes
          ∧ reply u (fun f => f.poison.getLsbD 0 = true) ∧ dictGet u keyPoisonRead = (dictGet s keyPoisonRead + 1) % 2 ^ 64)
        ∧ (2 < low.symbols → low.symbols ≤ 6 → does (.smReadData t k c low high) fun u => u.stacked.bytes = s.stacked.bytes
          ∧ (∀ h, mapGet false u.stacked.poison h = if h = line / 64 then true else mapGet false s.stacked.poison h)
          ∧ reply u (fun f => f.poison.getLsbD 0 = true ∧ ∀ m < 64, f.payload.getD m 0 = low.asRead.getD m 0)
          ∧ dictGet u keyEccUncorrected = (dictGet s keyEccUncorrected + 1) % 2 ^ 64 ∧ dictGet u keyLastUeAddr = line))
    ∧ (pc.reading = [] → exec (.smReadData t k c low high) s = .next s)
    ∧ (pc.queue[i]? = some r → r.aged = false → does (.smAgePromote t k c i) fun u => u.stacked.bytes = s.stacked.bytes
        ∧ after u = { pc with queue := listMod (fun x => { x with aged := true }) pc.queue i })
    ∧ (pc.queue[i]? = none ∨ (∃ x, pc.queue[i]? = some x ∧ x.aged = true) → exec (.smAgePromote t k c i) s = .next s)

/-- R341 to R350: refresh stops close every row, elastic by pseudo-channel and in lock-step by slot, and every SCRUB_EVERYth scrubs a line
and steps the pointer; stops are counted from the end of a tower's training on; a temperature chooses the refresh rate with its
hysteresis; a trained tower is READY and erased, one that fails is
FAILED; and a tower told to enters self-refresh once it has served its queues, and leaves it with its group. -/
def Sys2Proof.Claims.TowerStates : Prop :=
  ∀ (s : State) (t : TowerId) (k : CtlId) (c : PcId) (low high : HalfRead) (halves : List (HalfRead × HalfRead)) (reading : U32)
    (milli failedPins repairs us : Nat) (ok : Bool),
    let x := getTower s.stacked t.val
    let j := 2 * k.val + c.val
    let pc := getPc s.stacked t.val j
    let d := 13 + t.val / 2
    let lock := lockstepMode s
    let slot := slotPeriod s t.val
    let runs : Prop := x.state = .ready ∨ x.state = .filling ∨ x.state = .training
    let does (i : Instr) (P : State → Prop) : Prop := ∃ u, exec i s = .next u ∧ P u
    let rise : Bool := decide (85000 < milli) && (!lock || lowRateNow s)
    let high_ : Bool := rise || (decide (80000 < milli) && x.high)
    let served : Prop := ∀ e ∈ x.pcs, e.2.queue = [] ∧ e.2.reading = []
    (runs → lock = false → low.symbols ≤ 6 → high.symbols ≤ 6 →
      (pc.stops % dictGet s keyScrubEvery ≠ 0 → does (.refreshStop t k c low high) fun u => u.stacked.bytes = s.stacked.bytes
        ∧ getPc u.stacked t.val j = { pc with openRows := [], stops := pc.stops + 1 }
        ∧ (getTower u.stacked t.val).state = if x.state = .training then .filling else x.state)
      ∧ (pc.stops % dictGet s keyScrubEvery = 0 → does (.refreshStop t k c low high) fun u => u.stacked.bytes = s.stacked.bytes
        ∧ (getPc u.stacked t.val j).openRows = [] ∧ (getPc u.stacked t.val j).stops = pc.stops + 1 ∧ (getPc u.stacked t.val j).queue = pc.queue
        ∧ (getPc u.stacked t.val j).scrub = if pc.scrub + 1 = pcLines then 0 else pc.scrub + 1))
    ∧ (x.state = .ready → lock = true → 15 * t.val ≤ tickOf s → (tickOf s - 15 * t.val) % slot = 0 → (∀ e ∈ halves, e.1.symbols ≤ 6 ∧ e.2.symbols ≤ 6) → does (.lsRefreshSlot t halves) fun u =>
        u.stacked.bytes = s.stacked.bytes ∧ ∀ i < 32, (getPc u.stacked t.val i).openRows = [] ∧ (getPc u.stacked t.val i).stops = (getPc s.stacked t.val i).stops + 1
          ∧ (getPc u.stacked t.val i).queue = (getPc s.stacked t.val i).queue)
    ∧ (¬ runs ∨ lock = true → exec (.refreshStop t k c low high) s = .next s)
    ∧ (x.state ≠ .ready ∨ lock = false ∨ tickOf s < 15 * t.val ∨ (tickOf s - 15 * t.val) % slot ≠ 0 → exec (.lsRefreshSlot t halves) s = .next s)
    ∧ (does (.towerTempReading t reading milli) fun u => getTower u.stacked t.val = { x with temp := reading, high := high_ } ∧ u.stacked.bytes = s.stacked.bytes
        ∧ (lock = true → rise = true → x.high = false → logs s u 2 0x3003 2 t.val reading.toNat ∧ (dictGet s keyRunCm = 1 → dictGet u keyRunCm = 0)))
    ∧ (x.state = .off ∨ x.state = .training ∨ x.state = .filling →
        (ok = true → does (.towerBootDone t ok failedPins repairs us) fun u => getTower u.stacked t.val = { x with state := .ready, repairs := repairs }
          ∧ (∀ a, mapGet 0 u.stacked.bytes a = if (placeOf a).tower = t.val then 0 else mapGet 0 s.stacked.bytes a)
          ∧ ∀ h, mapGet false u.stacked.poison h = if (placeOf (64 * h)).tower = t.val then false else mapGet false s.stacked.poison h)
        ∧ (ok = false → does (.towerBootDone t ok failedPins repairs us) fun u =>
          getTower u.stacked t.val = { x with state := .failed, failedPins := failedPins, repairs := repairs } ∧ u.stacked.bytes = s.stacked.bytes))
    ∧ (x.state = .ready ∨ x.state = .failed ∨ x.state = .selfRefresh → exec (.towerBootDone t ok failedPins repairs us) s = .next s)
    ∧ (s.power.toSelfRefresh.getLsbD t.val = true → x.state = .ready → served → does (.selfRefreshEntry t) fun u =>
        (getTower u.stacked t.val).state = .selfRefresh ∧ (∀ i, (getPc u.stacked t.val i).openRows = []) ∧ u.stacked.bytes = s.stacked.bytes
          ∧ u.power = { s.power with toSelfRefresh := s.power.toSelfRefresh &&& ~~~(1#8 <<< t.val) })
    ∧ (s.power.toSelfRefresh.getLsbD t.val = false ∨ x.state ≠ .ready ∨ ¬ served → exec (.selfRefreshEntry t) s = .next s)
    ∧ (x.state = .selfRefresh → s.power.waking.getLsbD d = true → does (.selfRefreshExitDone t) fun u =>
        getTower u.stacked t.val = { x with state := .ready } ∧ u.stacked.bytes = s.stacked.bytes
          ∧ ((getTower s.stacked (t.val / 2 * 2 + (1 - t.val % 2))).state ≠ .selfRefresh → u.power.off.getLsbD d = false ∧ u.power.waking.getLsbD d = false
              ∧ u.power.toSelfRefresh.getLsbD t.val = false)
          ∧ ((getTower s.stacked (t.val / 2 * 2 + (1 - t.val % 2))).state = .selfRefresh → u.power = { s.power with toSelfRefresh := s.power.toSelfRefresh &&& ~~~(1#8 <<< t.val) }))
    ∧ (x.state ≠ .selfRefresh ∨ s.power.waking.getLsbD d = false → exec (.selfRefreshExitDone t) s = .next s)

/-- The commands of the channel controllers and the states of the towers. Where the spec leaves a point open, this rests on the model's choices: log entries 9, 13, 48, 49, 81, 86. -/
def Obligations.StackedTowers : Prop := Claims.TowerCommands ∧ Claims.TowerStates

/-- R363 to R365: what a receiver takes from the blocks of a packet is that packet, with every field. Where the spec leaves a point open, this rests on the model's choices: log entry 51. -/
def Obligations.PacketsRoundTrip : Prop :=
  ∀ (p : Packet) (n : Nat), packetLegal p → (packetBlocks p).length ≤ n → takePackets n (packetBlocks p) [] = ([p], [])

/-- R357, R359, R361, R366, R368 to R374, R381: a frame that arrives broken is counted and answered with NAK; one in sequence is accepted
and its packets held until their release; what it acknowledges leaves the replay buffer. A lane that has seen 16 block errors in 64 blocks
loses block lock, and the port enters RECOVERY. Released packets go through, or end here as a request or a response. Unacknowledged frames
are sent again as they were, and a request without a response is answered with ERR. -/
def Sys2Proof.Claims.LinkFrames : Prop :=
  ∀ (s : State) (p : PortId) (blocks : List U64) (trailer : U64) (headers : List (BitVec 2)) (east : Bool) (h : HeldFrame) (rest : List HeldFrame) (q : Packet)
    (tag : BitVec 14) (r : OutRecord) (others : List OutRecord) (i : Nat),
    let x := getPort s.links p.val
    let n := trailer.toNat
    let blockError := headers.any fun e => e ≠ 1
    let bad (l : Nat) : Bool := 16 ≤ ((laneSeen x headers l).filter id).length
    let isFrame (o : Out) : Bool := match o with | .askuaFrame _ _ _ => true | _ => false
    let carries : Prop := x.state = .up ∨ x.state = .elecIdle
    let run := Instr.dataFrame p headers blocks trailer
    let does (i : Instr) (P : State → Prop) : Prop := ∃ t, exec i s = .next t ∧ P t
    let port (t : State) : Port := getPort t.links p.val
    let taken := takePackets blocks.length (x.spanning ++ blocks) []
    let waits (t : State) : Prop := (port t).expect = x.expect ∧ (port t).held = x.held ∧ (port t).spanning = x.spanning
    let ending : Prop := h.packets = [q] ∧ h.release ≤ tickOf s ∧ s.lockstep.stalled = none ∧ isUnsealing s = false
    let here : Prop := 6 ≤ p.val ∨ some q.dstSys = sysAddr s
    (carries →
      (¬ frameWhole blocks trailer blockError → does run fun t => waits t ∧ (port t).nakSent = true
        ∧ (port t).unacked = x.unacked ∧ dictGet t (portKey p.val 9) = (dictGet s (portKey p.val 9) + 1) % 2 ^ 64)
      ∧ (does run fun t => (∀ l, l < 16 → bad l = true → (port t).state = .recovery ∧ (port t).locked.getLsbD l = false)
          ∧ ((∀ l, l < 16 → bad l = false) → ∀ l, l < 16 →
              mapGet [] (port t).errors l = if (laneSeen x headers l).contains true then laneSeen x headers l else []))
      ∧ (frameWhole blocks trailer blockError → does run fun t =>
          (bit n 18 = true ∨ BitVec.ofNat 8 (bits n 0 8) ≠ x.expect → waits t)
          ∧ (bit n 18 = false → BitVec.ofNat 8 (bits n 0 8) = x.expect → (port t).expect = x.expect + 1 ∧ (port t).nakSent = false ∧ (port t).spanning = taken.2
              ∧ (lockstepMode s = false → (port t).held = x.held ++ [{ release := tickOf s, packets := taken.1 }]))
          ∧ (bit n 16 = true → x.unacked.findIdx? (fun f => f.seq = BitVec.ofNat 8 (bits n 8 8)) = some i → ∃ more, (port t).unacked = x.unacked.drop (i + 1) ++ more)
          ∧ (bit n 16 = false → ∃ more, (port t).unacked = x.unacked ++ more)))
    ∧ (¬ carries → exec run s = .next s)
    ∧ (x.held = h :: rest → ending → does (.packetRelease p) fun t => (port t).held = rest
        ∧ (¬ here → ∀ o, routePort s q.dstSys = some o → o ≠ p.val → portOpen (getPort s.links o) = true →
            getPort t.links o = getPort (enqueue s o { q with vc := leaveVc s o (if portDim p.val = portDim o then q.vc else 0) }).links o)
        ∧ (here → isRequestOp q.opcode = true → q.lenM1 = 0 → q.rspace = 1 → (∀ y ∈ s.net.requests, y.id ≠ s.net.nextId) →
            t.queues.translating = s.queues.translating ++ [s.net.nextId]
              ∧ (∃ y ∈ t.net.requests, y.id = s.net.nextId ∧ y.who = .corner (portEast p.val) ∧ y.addr = BitVec.ofNat 64 q.addr
                  ∧ y.write = decide (q.opcode = 0x02 ∨ q.opcode = 0x03))
              ∧ (getCorner t.links (portEast p.val)).inbound = (getCorner s.links (portEast p.val)).inbound
                  ++ if q.opcode = 0x02 ∧ q.ackReq = false then [] else
                    [{ tag := s.net.nextId, sys := q.srcSys, ep := q.srcEp, remoteTag := q.tag, opcode := q.opcode
                       acked := q.opcode = 0x01 || q.opcode = 0x05 || q.ackReq }])
        ∧ (here → isRequestOp q.opcode = false → q.opcode ≠ 0x86 → (getCorner s.links true).records.any (fun r => r.srcEp = q.dstEp && r.tag = q.tag) = east →
            takeFirst (fun r => r.srcEp = q.dstEp && r.tag = q.tag) (getCorner s.links east).records = some (r, others) →
            (getCorner t.links east).records = others ∧ ∃ g ∈ t.net.flits, g.flit.opcode = q.opcode ∧ g.flit.tag = BitVec.ofNat 14 q.tag ∧ g.flit.err = q.err
              ∧ g.flit.payload = q.data ∧ g.flit.poison = q.poison))
    ∧ (x.held = [] ∨ (∃ a l, x.held = a :: l ∧ (tickOf s < a.release ∨ s.lockstep.stalled ≠ none)) → exec (.packetRelease p) s = .next s)
    ∧ (sending x = true → x.unacked ≠ [] → (∀ f ∈ x.unacked, f.blocks.length = 31) → does (.replayTimeout p) fun t =>
        (port t).unacked = x.unacked ∧ (port t).replays = x.replays + 1 ∧ (port t).txSeq = x.txSeq
          ∧ dictGet t (portKey p.val 0xA) = (dictGet s (portKey p.val 0xA) + x.unacked.length) % 2 ^ 64
          ∧ ∃ (trailers : List U64) (more : List Out), trailers.length = x.unacked.length ∧ t.out = s.out ++ more
            ∧ more.filter isFrame = (x.unacked.zip trailers).map (fun e => .askuaFrame p.val e.1.blocks e.2)
            ∧ ∀ e ∈ x.unacked.zip trailers, frameWhole e.1.blocks e.2 false ∧ BitVec.ofNat 8 (bits e.2.toNat 0 8) = e.1.seq)
    ∧ (sending x = false ∨ x.unacked = [] → exec (.replayTimeout p) s = .next s)
    ∧ (takeFirst (fun r => r.tag = tag.toNat) (getCorner s.links east).records = some (r, others) → does (.remoteTimeout east tag) fun t =>
        (getCorner t.links east).records = others ∧ ∃ g ∈ t.net.flits, g.flit.err = true ∧ g.flit.tag = tag ∧ g.flit.cls = clsRsp
          ∧ flitSrc g.flit = portNode r.port.val)
    ∧ (takeFirst (fun r => r.tag = tag.toNat) (getCorner s.links east).records = none → exec (.remoteTimeout east tag) s = .next s)

/-- R354, R355, R358, R359, R377, R383, R393: control blocks: one whose CRC fails or whose TYPE is unknown is dropped and counted; NOP does
nothing; the others tell the lane's alignment, the partner's hops, its eye margin and tap steps, its state, that it goes idle, and its
training step. In training this end answers EQ and TRAIN with blocks of its own; outside it a tap steps only in a window, on the worst
lane. -/
def Sys2Proof.Claims.LinkControlBlocks : Prop :=
  ∀ (s : State) (p : PortId) (b : U64),
    let x := getPort s.links p.val
    let n := b.toNat
    let lane := bits n 8 4
    let tap := mapGet (0, 0, 0) x.taps lane
    let margins := mapSet 256 x.partnerMargins lane (bits n 24 8)
    let stepped : Int × Int × Int := (tap.1 + tapStep (bits n 12 2), tap.2.1 + tapStep (bits n 14 2), tap.2.2 + tapStep (bits n 16 2))
    let port (i : Instr) (y : Port) : Prop := ∃ t, exec i s = .next t ∧ changesOnly [.links] s t ∧ getPort t.links p.val = y
      ∧ ∀ o : PortId, o ≠ p → getPort t.links o.val = getPort s.links o.val
    (∀ row ∈ ([(0x00, .nopBlock p b), (0x1E, .alignBlock p b), (0x2D, .gtcBlock p b), (0x33, .eqBlock p b), (0x4B, .statusBlock p b), (0x55, .idleEnter p b),
        (0x66, .trainBlock p b)] : List (Nat × Instr)),
        (¬ blockWhole b → ∃ t, exec row.2 s = .next t ∧ changesOnly [.counters] s t
          ∧ t.counters = (portEvent s p.val 0x18 1 none).counters)
        ∧ (blockWhole b → bits n 0 8 ≠ row.1 → exec row.2 s = .next s))
    ∧ (blockWhole b →
      (bits n 0 8 = 0x00 → exec (.nopBlock p b) s = .next s)
      ∧ (bits n 0 8 = 0x1E → port (.alignBlock p b) { x with
          locked := x.locked ||| (1#16 <<< lane), slots := BitVec.ofNat 32 (bits n 16 32), idleRx := false
          state := if x.state = .elecIdle ∧ ¬ x.idleTx then .up else x.state })
      ∧ (bits n 0 8 = 0x2D → port (.gtcBlock p b) { x with gtcHops := bits n 48 6, gtcAligned := bit n 54 })
      ∧ (bits n 0 8 = 0x33 → x.state ≠ .training → port (.eqBlock p b) { x with
          partnerMargins := margins
          taps := if x.eqWindow = true ∧ worstBelow margins lane (dictGet s keyEqMarginMin) = true then mapSet (0, 0, 0) x.taps lane stepped else x.taps })
      ∧ (bits n 0 8 = 0x33 → x.state = .training → ∃ t own, exec (.eqBlock p b) s = .next t ∧ changesOnly [.links, .out, .free] s t
          ∧ getPort t.links p.val = { x with partnerMargins := margins, taps := mapSet (0, 0, 0) x.taps lane stepped }
          ∧ ownBlock 0x33 own ∧ bits own.toNat 8 4 = lane ∧ t.out = s.out ++ [.askuaControl p.val own])
      ∧ (bits n 0 8 = 0x4B → port (.statusBlock p b) { x with partnerState := bits n 8 3, partnerRtt := bits n 16 16 })
      ∧ (bits n 0 8 = 0x55 → lockstepMode s = false → x.state = .up ∨ x.state = .elecIdle → port (.idleEnter p b) { x with idleRx := true, state := .elecIdle })
      ∧ (bits n 0 8 = 0x55 → lockstepMode s = true ∨ (x.state ≠ .up ∧ x.state ≠ .elecIdle) → exec (.idleEnter p b) s = .next s)
      ∧ (bits n 0 8 = 0x66 → x.state = .training → ∃ t own, exec (.trainBlock p b) s = .next t ∧ changesOnly [.links, .out, .free] s t
          ∧ getPort t.links p.val = { x with trainStep := bits n 8 8 } ∧ ownBlock 0x66 own ∧ bits own.toNat 8 8 = bits n 8 8
          ∧ t.out = s.out ++ List.replicate 16 (.askuaControl p.val own))
      ∧ (bits n 0 8 = 0x66 → x.state ≠ .training → exec (.trainBlock p b) s = .next s))

/-- R355, R357, R375 to R380, R383 to R385, R569, R575: a port's states: RECOVERY by its three causes and out of it; training begun, done,
miswired, timed out and tried again; electrical idle entered and left; a cable unmated; and the eye margin. -/
def Sys2Proof.Claims.LinkStates : Prop :=
  ∀ (s : State) (p : PortId) (lane : Fin 16) (f : SentFrame) (later : List SentFrame) (r : TrainResult) (margin : U32) (present : Bool),
    let x := getPort s.links p.val
    let does (i : Instr) (P : State → Prop) : Prop := ∃ t, exec i s = .next t ∧ P t
    let port (t : State) : Port := getPort t.links p.val
    let only (i : Instr) (y : Port) : Prop := does i fun t => port t = y ∧ changesOnly [.links] s t ∧ ∀ o : PortId, o ≠ p → getPort t.links o.val = getPort s.links o.val
    let trains (i : Instr) (y : Port) : Prop := does i fun t => port t = y ∧ changesOnly [.links, .out, .free] s t
      ∧ (∀ o : PortId, o ≠ p → getPort t.links o.val = getPort s.links o.val)
      ∧ ∃ b, ownBlock 0x66 b ∧ bits b.toNat 8 8 = 0 ∧ t.out = s.out ++ List.replicate 16 (.askuaControl p.val b)
    let own := dictGet s keySerial
    let lat := ceilDiv r.rttMinusTurnMax 2
    let rest : Prop := x.queue = [] ∧ x.unacked = [] ∧ returnedCredits x = none ∧ x.ackDue = false
    (x.unacked = f :: later → sending x = true → f.tick + 112 ≤ tickOf s → does (.frameAgeLimit p) fun t => recovering s t p 1)
    ∧ (sending x = false ∨ x.unacked = [] → exec (.frameAgeLimit p) s = .next s)
    ∧ (x.state = .up ∨ (x.state = .elecIdle ∧ x.idleRx = false) → does (.blockLockLoss p lane) fun t => recovering s t p 2
        ∧ (port t).locked = x.locked &&& ~~~(1#16 <<< lane.val))
    ∧ (sending x = true → 4 ≤ x.replays → does (.recovery p) fun t => recovering s t p 0)
    ∧ (sending x = false ∨ x.replays < 4 → exec (.recovery p) s = .next s)
    ∧ (x.state = .elecIdle → x.idleRx = true → does (.idleExitTimeout p) fun t => recovering s t p 2)
    ∧ (x.state = .recovery → does (.recoveryRelock p) fun t => (port t).state = .up ∧ (port t).locked = 0xFFFF ∧ (port t).expect = x.expect)
    ∧ (x.state = .recovery → trains (.recoveryTimeout p) { x with state := .training, trainStep := 0, fromRecovery := true })
    ∧ (x.state ≠ .recovery → exec (.recoveryRelock p) s = .next s ∧ exec (.recoveryTimeout p) s = .next s)
    ∧ (∀ i ∈ ([.portTrainingStart p, .trainingRetry p] : List Instr),
        (x.state = .down ∧ portEnabled s p.val = true ∧ portPowered s p.val = true ∧ x.cable = true → trains i { x with state := .training, trainStep := 0 })
        ∧ (x.state ≠ .down ∨ portEnabled s p.val = false ∨ portPowered s p.val = false ∨ x.cable = false → exec i s = .next s))
    ∧ (x.state = .training →
        (r.trained = true → roleOk p.val r.partnerPort.val = true → r.partnerSerial.toNat ≠ own → does (.portTrainingDone p r) fun t =>
          (port t).state = .up ∧ (port t).locked = 0xFFFF ∧ (port t).fromRecovery = false ∧ (port t).reversed = r.lanesReversed
            ∧ (∀ l, l < 16 → (mapGet {} (port t).equaliser l).dfeTaps = min (max 1 (r.dfeTaps.getD l 1)) 15)
            ∧ dictGet t (portKey p.val 2) = r.partnerSerial.toNat ∧ dictGet t (portKey p.val 4) = r.partnerPort.val
            ∧ dictGet t (portKey p.val 5) = lat % 65536 ∧ dictGet t (portKey p.val 6) = r.rttMax % 65536
            ∧ dictGet t (portKey p.val 7) = (ceilDiv lat 16 + dictGet s keyLinkSlackReplays * (ceilDiv r.rttMax 16 + 1) + dictGet s keyLinkSlackExtra) % 256)
        ∧ (r.trained = true → roleOk p.val r.partnerPort.val = false ∨ r.partnerSerial.toNat = own → x.fromRecovery = false → does (.portTrainingDone p r) fun t =>
          port t = { x with state := .miswired, trainStep := 0 } ∧ logs s t 2 0x4003 3 p.val (packData [(64, own), (64, r.partnerSerial.toNat)]))
        ∧ (r.trained = false → does (.portTrainingDone p r) fun t => (port t).state = .down ∧ (x.fromRecovery = false → logs s t 2 0x4002 3 p.val 0))
        ∧ does (.trainingTimeout p) fun t => (port t).state = .down ∧ (x.fromRecovery = false → logs s t 2 0x4002 3 p.val 0) ∧ (x.fromRecovery = true → (port t).queue = [] ∧ (port t).unacked = [] ∧ (port t).held = []
            ∧ (getCorner t.links (portEast p.val)).records = (getCorner s.links (portEast p.val)).records.filter (fun r => r.port ≠ p)))
    ∧ (x.state ≠ .training → exec (.portTrainingDone p r) s = .next s ∧ exec (.trainingTimeout p) s = .next s)
    ∧ (does (.eyeMarginReport p lane margin) fun t =>
        let m := mapSet (BitVec.allOnes 32) x.margins lane.val margin
        (sending x = false → port t = { x with margins := m }) ∧ port t = { x with margins := m, equaliser := (port t).equaliser }
          ∧ (∀ e ∈ m, dictGet t (portKey p.val 8) ≤ e.2.toNat) ∧ (m ≠ [] → ∃ e ∈ m, dictGet t (portKey p.val 8) = e.2.toNat))
    ∧ (lockstepMode s = false → dictGet s keyIdleEntry ≠ 0 → x.state = .up ∨ x.state = .elecIdle → x.idleTx = false → rest → does (.elecIdleEntry p) fun t =>
        port t = { x with idleTx := true, state := .elecIdle, slot := x.slot + 1 } ∧ t.out = s.out ++ List.replicate 32 (.askuaControl p.val (makeControl 0x55 0)))
    ∧ (lockstepMode s = true ∨ dictGet s keyIdleEntry = 0 ∨ x.idleTx = true ∨ ¬ rest → exec (.elecIdleEntry p) s = .next s)
    ∧ (x.state = .elecIdle → x.idleTx = true → ¬ rest → does (.elecIdleExit p) fun t => (port t).idleTx = false ∧ (port t).state = (if x.idleRx then .elecIdle else .up)
        ∧ .trainBurst p.val ∈ t.out)
    ∧ (x.state ≠ .elecIdle ∨ x.idleTx = false ∨ rest → exec (.elecIdleExit p) s = .next s)
    ∧ (present = true ∨ x.state = .disabled → only (.cblPrsntChange p present) { x with cable := present })
    ∧ (present = false → x.state ≠ .disabled → does (.cblPrsntChange p present) fun t => (port t).state = .down ∧ (port t).cable = false)
    ∧ only (.eqWindowClose p) { x with eqWindow := false }

/-- Frames, control blocks and states of Askua links. Where the spec leaves a point open, this rests on the model's choices: log entries 50, 51, 52, 53, 91. -/
def Obligations.AskuaLinks : Prop := Claims.LinkFrames ∧ Claims.LinkControlBlocks ∧ Claims.LinkStates

/-- R404 to R407, R409 to R411, R413, R414, R416, R417, R419, R421, R524: the messages of the lock-step controller: one that is not whole is
dropped and counted, one seen before is ignored, a flood goes on by every other UP torus port, and each has its effect; an agreement whose
tick has passed is counted and takes effect at once, unless a stall holds it. Where the spec leaves a point open, this rests on the model's choices: log entries 54, 55. -/
def Obligations.LockstepMessages : Prop :=
  ∀ (s : State) (p : PortId) (m : LsMsg) (me : Nat),
    let l := s.lockstep
    let orig := m.orig.toNat
    let f := msgField m
    let st := dictGet s keyLsState
    let does (i : Instr) (P : State → Prop) : Prop := ∃ t, exec i s = .next t ∧ P t
    let d := f 15 2
    let hop := withCoord orig d (coord orig d + 1)
    let parent := dictGet s keyLsParentPort
    (∀ row ∈ ([(false, .disc p m), (false, .discDone p m), (true, .shape p m), (false, .alignDone p m), (true, .arm p m), (false, .ready p m),
        (true, .launchMessage p m), (true, .agree p m), (false, .request p m), (true, .slip p m), (true, .fault p m), (true, .restart p m)] : List (Bool × Instr)),
        (m.whole = false → ∃ t, exec row.2 s = .next t ∧ changesOnly [.counters] s t ∧ t.counters = (portEvent s p.val 0x18 1 none).counters)
        ∧ (m.whole = true → portUp s p.val = false ∨ seqNew (mapGet none l.seen (seenKey row.1 p.val orig)) m.seq.toNat = false → exec row.2 s = .next s))
    ∧ (heard s p m false →
      (d = 3 → l.addressed = false → does (.disc p m) fun t => t.lockstep.checks = l.checks ++ [{ port := p.val, orig := orig }])
      ∧ (d = 3 → l.addressed = true → 6 ≤ p.val ∨ orig = neighbourOf (torusSize s) (ownOrig s) p.val → does (.disc p m) fun t => dictGet t (portKey p.val 3) = orig
          ∧ (getPort t.links p.val).partnerKnown = true)
      ∧ (d = 3 → l.addressed = true → p.val < 6 → orig ≠ neighbourOf (torusSize s) (ownOrig s) p.val → does (.disc p m) fun t => faultRaised s t 3)
      ∧ (d < 3 → p.val < 6 →
          (bit m.data.toNat 18 = true → isAnchor s = true → does (.disc p m) fun t => faultRaised s t 1)
          ∧ (bit m.data.toNat 18 = false ∨ isAnchor s = false →
            (bit m.data.toNat 17 ≠ l.mode → does (.disc p m) fun t => faultRaised s t 2)
            ∧ (bit m.data.toNat 17 = l.mode → p.val ≠ 2 * d + 1 → does (.disc p m) fun t => faultRaised s t 3)
            ∧ (bit m.data.toNat 17 = l.mode → p.val = 2 * d + 1 → l.coords = none → maxCoord d < coord orig d + 1 → does (.disc p m) fun t => faultRaised s t 4)
            ∧ (bit m.data.toNat 17 = l.mode → p.val = 2 * d + 1 → l.coords = none → coord orig d + 1 ≤ maxCoord d → portEnabled s (2 * d) = true → isAnchor s = false →
                does (.disc p m) fun t => t.lockstep.coords = some hop ∧ t.lockstep.walkParent = some p.val ∧ dictGet t keyLsState = 1
                  ∧ ((2 * d, d) ∈ t.lockstep.discWait ∨ messageSent s t (2 * d) 1 1 l.seq.toNat (hop + (d <<< 15 + (if l.mode then 1 <<< 17 else 0)))
                      ∨ (∃ e ∈ l.discWait, portUp s e.1 = true)))
            ∧ (bit m.data.toNat 17 = l.mode → p.val = 2 * d + 1 → l.coords = some me → coord me d = 0 → withCoord orig d 0 = me →
                does (.disc p m) fun t => messageSent s t p.val 2 2 l.seq.toNat me ∧ (mapGet 0 l.sizes d = 0 → mapGet 0 t.lockstep.sizes d = coord orig d + 1))))
      ∧ (l.discOut.contains p.val = true → does (.discDone p m) fun t => t.lockstep.discOut = l.discOut.filter (· ≠ p.val)
          ∧ t.lockstep.walkCount = l.walkCount + f 15 15 ∧ t.lockstep.walkLat = max l.walkLat (f 32 8))
      ∧ does (.alignDone p m) (fun t => mapGet (0, 0, 0) t.lockstep.alignDone p.val = (f 15 15, f 32 8, f 40 6))
      ∧ does (.ready p m) (fun t => mapGet 0 t.lockstep.readyCounts p.val = f 15 15
          ∧ (isAnchor s = false → messageSent s t parent 6 1 l.seq.toNat (ownOrig s + (readyTotal t) <<< 15)))
      ∧ does (.request p m) (fun t => mapGet none t.lockstep.wishes (16 * f 15 8 + p.val) = some (f 32 32)
          ∧ (isAnchor s = false → ∃ v, mergedWish t (f 15 8) = some v ∧ messageSent s t parent 9 2 l.seq.toNat (ownOrig s + ((f 15 8 % 256) <<< 15 + (v % 2 ^ 32) <<< 32)))))
    ∧ (heard s p m true →
      (l.coords = some me → does (.shape p m) fun t => floodPassed s t p m 3 2 ∧ t.lockstep.addressed = true ∧ t.lockstep.quantum = f 40 13
          ∧ dictGet t keySysAddr = me ∧ dictGet t keyTorusX = f 15 6 ∧ dictGet t keyTorusY = f 21 6 ∧ dictGet t keyTorusZ = f 27 5 ∧ dictGet t keySysLat = f 32 8
          ∧ dictGet t keyFloodBound = (f 15 6 / 2 + f 21 6 / 2 + f 27 5 / 2 + 1) * 96 ∧ dictGet t keySysModules = f 15 6 * f 21 6 * f 27 5)
      ∧ (does (.arm p m) fun t => floodPassed s t p m 5 1 ∧ dictGet t keyLsState = if st = 2 then 4 else st)
      ∧ (does (.launchMessage p m) fun t => floodPassed s t p m 7 3 ∧ (st ≠ 4 → t.lockstep.launch = l.launch)
          ∧ (st = 4 → dictGet t keyRun = f 15 17 ∧ dictGet t keyLaunchTick = (16 * f 32 60) % 2 ^ 64
              ∧ t.lockstep.launch = some { tick := f 32 60, floor := bit m.data.toNat 92, done := 0 }))
      ∧ (does (.agree p m) fun t => floodPassed s t p m 8 4 ∧ (st = 6 → t.lockstep.agreements = l.agreements)
          ∧ (st ≠ 6 → f 64 60 < tickOf s → l.stalled = none → t.lockstep.agreements = l.agreements ∧ agreedTaken s t (f 15 8) (f 32 32)
              ∧ dictGet t keyAgreeLate = sat32 (dictGet s keyAgreeLate + 1))
          ∧ (st ≠ 6 → tickOf s ≤ f 64 60 ∨ l.stalled ≠ none → { code := f 15 8, value := f 32 32, tick := f 64 60, seq := m.seq.toNat } ∈ t.lockstep.agreements
              ∧ (∀ a ∈ l.agreements, a ∈ t.lockstep.agreements) ∧ t.lockstep.agreements.length = l.agreements.length + 1
              ∧ (f 64 60 < tickOf s → dictGet t keyAgreeLate = sat32 (dictGet s keyAgreeLate + 1))))
      ∧ (does (.slip p m) fun t => floodPassed s t p m 0xA 3 ∧ (∃ a ∈ t.lockstep.slips, a.tick = f 32 60) ∧ ∀ a ∈ l.slips, a ∈ t.lockstep.slips)
      ∧ (does (.fault p m) fun t => floodPassed s t p m 0xB 1 ∧ dictGet t keyLsState = 6 ∧ dictGet t keyLsFaultCause = f 15 8 ∧ dictGet t keyLsFaultOrigin = orig)
      ∧ (canonicalCores s → isAnchor s = false → does (.restart p m) fun t => floodPassed s t p m 0xC 1 ∧ dictGet t keyLsState = 0 ∧ dictGet t keyLsFaultCause = 0
          ∧ t.lockstep.coords = none ∧ t.lockstep.addressed = false ∧ t.lockstep.aligned = false ∧ t.stacked.lowRate = false ∧ t.net.floor = false
          ∧ (∀ o : PortId, (getPort t.links o.val).partnerKnown = false) ∧ dictGet t keyReadyStatus = entryDefault keyReadyStatus
          ∧ (st = 5 → dictGet t keyModuleState = 1 ∧ ∀ c u, getThread t c u = {})))

/-- R394, R395, R397, R413, R414, R416: alignment starts from an aligned parent and moves the counter to the anchor's count without moving
calendar time; a lost parent is replaced, or the frequency held; the timeouts of the start-up raise their faults; and the check of the
image ends in its outcome. -/
def Sys2Proof.Claims.LockstepStart : Prop :=
  ∀ (s : State) (p : PortId) (newGtc : U64) (q : Nat) (header image : List Byte),
    let l := s.lockstep
    let x := getPort s.links p.val
    let st := dictGet s keyLsState
    let parent := dictGet s keyLsParentPort
    let does (i : Instr) (P : State → Prop) : Prop := ∃ t, exec i s = .next t ∧ P t
    let base := dictGet s keyCcImageBase
    let ready : Prop := l.addressed = true ∧ isAnchor s = false ∧ parent = p.val ∧ x.state = .up ∧ x.gtcAligned = true ∧ l.aligning = none
      ∧ (l.aligned = false ∨ dictGet s keyLsHops ≠ x.gtcHops + 1) ∧ st ≠ 0 ∧ st ≠ 1
    let lost : Prop := l.aligned = true ∧ isAnchor s = false ∧ ¬ (parent < 8 ∧ portUp s parent = true)
    let timeout (i : Instr) (cond : Prop) (cause : Nat) : Prop := (cond → does i fun t => faultRaised s t cause) ∧ (¬ cond → exec i s = .next s)
    (ready → exec (.gtcAlignmentStart p) s = .next { s with lockstep := { l with aligning := some p.val } })
    ∧ (¬ ready → exec (.gtcAlignmentStart p) s = .next s)
    ∧ (l.aligning = some q → does (.gtcAligned newGtc) fun t => t.gtc = newGtc ∧ calendar t = calendar s ∧ t.calendarValid = s.calendarValid
        ∧ t.lockstep.aligned = true ∧ t.lockstep.aligning = none ∧ t.lockstep.gtcMoved = l.gtcMoved + (newGtc - s.gtc)
        ∧ dictGet t keyLsHops = (getPort s.links q).gtcHops + 1 ∧ (l.mode = true → dictGet t keyClkSource = 1)
        ∧ (isAnchor s = false → logs s t 1 0x9001 0 0 (packData [(64, s.gtc.toNat), (64, newGtc.toNat)])))
    ∧ (l.aligning = none → exec (.gtcAligned newGtc) s = .next s)
    ∧ (lost → does .parentLoss fun t =>
        (∀ o, newParent s = some o → dictGet t keyLsParentPort = o ∧ t.lockstep.aligning = some o ∧ o < 6 ∧ portUp s o = true
          ∧ (getPort s.links o).gtcAligned = true ∧ (getPort s.links o).gtcHops ≤ dictGet s keyLsHops)
        ∧ (newParent s = none → dictGet t keyLsParentPort = 0xFF ∧ t.lockstep.aligning = none))
    ∧ (¬ lost → exec .parentLoss s = .next s)
    ∧ timeout .noReferenceTimeout (l.aligned = true ∧ isAnchor s = false ∧ parent = 0xFF) 8
    ∧ timeout (.portDownTimeout p) (p.val < 6 ∧ portEnabled s p.val = true ∧ portUp s p.val = false ∧ (st = 1 ∨ st = 2 ∨ st = 4)) 9
    ∧ timeout .lsStartTimeout (isAnchor s = true ∧ dictGet s keyLsStartTimeout ≠ 0 ∧ (st = 1 ∨ st = 2)) 0xB
    ∧ (dictGet s keyReadyStatus ≠ 1 → exec .readyCheckDone s = .next s)
    ∧ (dictGet s keyReadyStatus = 1 → imageBytes s (base + 0x03FFFF00) 64 = none → exec .readyCheckDone s = .next (dictSet s keyReadyStatus 3))
    ∧ (dictGet s keyReadyStatus = 1 → imageBytes s (base + 0x03FFFF00) 64 = some header →
        imageBytes s base (min 0x03FFFF00 (bits (leNat header) 160 32)) = some image →
        let code := readyOutcome s (leNat header) (sha256 image)
        does .readyCheckDone fun t => dictGet t keyReadyStatus = code
          ∧ (code = 2 ∨ code = 7 → t.lockstep.ready = true ∧ t.lockstep.imageHash = sha256 image ∧ dictGet t keyRunCm = (if code = 2 then 1 else 0)
              ∧ (isAnchor s = false → messageSent s t parent 6 1 l.seq.toNat (ownOrig s + (readyTotal t) <<< 15)))
          ∧ (code ≠ 2 → code ≠ 7 → t.lockstep = l))

/-- R414 to R417: LS_RESTART on the anchor floods RESTART and starts the module's discovery anew; LS_READY begins the image's check in
ARMED; LAUNCH on the anchor floods the launch at the tick its rule gives, and the anchor takes it. -/
def Sys2Proof.Claims.LockstepWrites : Prop :=
  ∀ (s : State) (f : Frame) (x : Session) (e : Entry) (key v : Nat), acceptedWrite s f x e key v → v ≠ 0 →
    let u := writeAnswered s f x
    let l := s.lockstep
    let st := dictGet s keyLsState
    let seq := l.seq.toNat
    let tick := s.gtc.toNat / 16
    let multiple (k n : Nat) : Nat := (k + n - 1) / n * n
    let floods (t : State) (msg parts data : Nat) : Prop := ∀ o, o < 6 → portUp s o = true → messageSent u t o msg parts seq (ownOrig s + data)
    (key = keyLsRestart → (∃ d, d < 3 ∧ portEnabled s (2 * d) = true) → canonicalCores s → ∃ t, exec (.lsRestart f) s = .next t ∧ floods t 0xC 1 0 ∧ dictGet t keyLsState = 1 ∧ t.lockstep.ready = false
        ∧ t.lockstep.launch = none ∧ t.lockstep.agreements = [] ∧ t.lockstep.mode = (dictGet s keyLsMode = 1 : Bool) ∧ dictGet t keyReadyStatus = 0
        ∧ dictGet t keyLsFaultCause = entryDefault keyLsFaultCause ∧ (st = 5 → dictGet t keyModuleState = 1 ∧ coresReset s t))
    ∧ (key = keyLsReady → exec (.lsReady f) s = .next (dictSet u keyReadyStatus (if st = 4 then 1 else 6)))
    ∧ (key = keyLaunch → 0 < dictGet s keyScrubEvery →
        let at_ := multiple (tick + dictGet s keyFloodBound) (242 * dictGet s keyScrubEvery)
        let run := (dictGet s keyRun + 1) % 2 ^ 17
        ∃ t, exec (.launch f) s = .next t ∧ floods t 7 3 (run <<< 15 + (at_ % 2 ^ 60) <<< 32 + (if l.buildFloor then 1 <<< 92 else 0))
          ∧ dictGet t keyRun = run ∧ dictGet t keyLaunchTick = (16 * at_) % 2 ^ 64
          ∧ t.lockstep.launch = some { tick := at_, floor := l.buildFloor, done := 0 } ∧ changesOnly [.out, .sessions, .dict, .lockstep, .links] s t)

/-- Alignment, readiness and launch in lock-step. Where the spec leaves a point open, this rests on the model's choices: log entries 55, 56, 76. -/
def Obligations.LockstepStart : Prop := Claims.LockstepStart ∧ Claims.LockstepWrites

/-- R226, R417 to R422, R513, R519: the launch prepares, precharges and starts the program at its ticks; an agreed change takes effect at its
tick, outside a stall; a slip stalls the schedule by the quantum, moves what is due after it, and breaks cycle match. Where the spec leaves a point open, this rests on the model's choices: log entries 10, 54. -/
def Obligations.LockstepRun : Prop :=
  ∀ (s : State) (plan : LaunchPlan) (a : Agreement) (later : List Agreement) (slip : Slip) (slips : List Slip) (e : Nat),
    let l := s.lockstep
    let now := tickOf s
    let does (i : Instr) (P : State → Prop) : Prop := ∃ t, exec i s = .next t ∧ P t
    let homes (x : Nat) : Prop := ∃ b ∈ (coreArrayReset s).banks, ∃ v ∈ b.2.onDie, x / 128 = contextHome v.val / 128
    let applies (P : State → Prop) : Prop := does .agreeApply fun t => t.lockstep.agreements = later ∧ P t
    (canonicalCores s → l.launch = some plan → plan.done = 0 → plan.tick ≤ now + 512 → does .launchPrepare fun t => t.lockstep.launch = some { plan with done := 1 }
      ∧ (∀ c u, getThread t c u = {}) ∧ t.caravans = [] ∧ t.banks = [] ∧ (∀ x, ¬ homes x → mapGet 0 t.stacked.bytes x = mapGet 0 s.stacked.bytes x) ∧ t.queues.ttCache = [] ∧ t.pcie.atsCache = [])
    ∧ (l.launch = some plan → plan.done = 1 → plan.tick ≤ now + 1 → does .launchPrecharge fun t => t.lockstep = { l with launch := some { plan with done := 2 } } ∧ t.net = { s.net with floor := plan.floor }
        ∧ (∀ w i, (getPc t.stacked w i).openRows = []) ∧ t.stacked.bytes = s.stacked.bytes)
    ∧ (l.launch = some plan → plan.done = 2 → plan.tick ≤ now → does .launchTick fun t => t.lockstep = { l with launch := none } ∧ dictGet t keyLsState = 5
        ∧ dictGet t keyModuleState = 2 ∧ dictGet t keySlips = 0 ∧ dictGet t keyLastSlipTick = 0
        ∧ ∀ c : CoreId, getThread t c 0 = if coreOff s c.val then getThread s c 0
            else { pc := BitVec.ofNat 64 (2 ^ 32 + dictGet s keyCcEntry), machine := true, state := .ready })
    ∧ (l.launch = none → exec .launchPrepare s = .next s ∧ exec .launchPrecharge s = .next s ∧ exec .launchTick s = .next s)
    ∧ (l.launch = some plan → (plan.done ≠ 0 ∨ now + 512 < plan.tick → exec .launchPrepare s = .next s) ∧ (plan.done ≠ 1 ∨ now + 1 < plan.tick → exec .launchPrecharge s = .next s)
        ∧ (plan.done ≠ 2 ∨ now < plan.tick → exec .launchTick s = .next s))
    ∧ (l.agreements = a :: later → a.tick ≤ now → l.stalled = none →
        applies fun t => agreedTaken s t a.code a.value
          ∧ (a.code = 1 → min a.value 7 ≠ s.power.step → logs s t 0 0x1004 0 0 (packData [(8, 1), (32, s.power.step), (32, min a.value 7)]))
          ∧ (a.code = 3 → a.value ≠ dictGet s keyTollRate → logs s t 0 0x1004 0 0 (packData [(8, 3), (32, dictGet s keyTollRate), (32, a.value)]))
          ∧ (a.code = 4 → a.value ≠ dictGet s keyScrubEvery → logs s t 0 0x1004 0 0 (packData [(8, 4), (32, dictGet s keyScrubEvery), (32, a.value)])))
    ∧ (l.agreements = [] ∨ (∃ b r, l.agreements = b :: r ∧ (now < b.tick ∨ l.stalled ≠ none)) → exec .agreeApply s = .next s)
    ∧ (l.slips = slip :: slips → slip.tick ≤ now → l.stalled = none → does .slipStallBegin fun t =>
        t.lockstep = { l with slips := slips, stalled := some (max slip.tick now + l.quantum) } ∧ dictGet t keySlips = sat32 (dictGet s keySlips + 1)
          ∧ dictGet t keyLastSlipTick = (16 * slip.tick) % 2 ^ 64 ∧ (dictGet s keyRunCm = 1 → dictGet t keyRunCm = 0 ∧ dictGet t keyRunCmCause = 1)
          ∧ logs s t 1 0x9004 0 0 (packData [(64, slip.tick), (8, slip.port)])
          ∧ ∀ p : PortId, ((getPort s.links p.val).moves.any fun m => m.1 = slip.tick) = false → (getPort t.links p.val).held =
              (getPort s.links p.val).held.map fun h => if slip.tick ≤ h.release then { h with release := h.release + l.quantum } else h)
    ∧ (l.slips = [] ∨ (∃ b r, l.slips = b :: r ∧ (now < b.tick ∨ l.stalled ≠ none)) → exec .slipStallBegin s = .next s)
    ∧ (l.stalled = some e → e ≤ now → exec .slipStallEnd s = .next { s with lockstep := { l with stalled := none } })
    ∧ (l.stalled = none ∨ (∃ e, l.stalled = some e ∧ now < e) → exec .slipStallEnd s = .next s)

/-- R418: LS_STOP on the anchor of a run floods an AGREE with code STOP; at its tick a module performs a core-array reset and returns to
ARMED, with READY_STATUS at NONE; on another module, or outside RUNNING, the write fails with WRONG_STATE. -/
def Obligations.LockstepStop : Prop :=
  ∀ (s : State) (f : Frame) (x : Session) (e : Entry) (a : Agreement) (later : List Agreement),
    let u := writeAnswered s f x
    let l := s.lockstep
    let seq := l.seq.toNat
    let tick := (s.gtc.toNat / 16 + dictGet s keyFloodBound + 63) / 64 * 64
    (acceptedWrite s f x e keyLsStop 1 → ∃ t, exec (.lsStop f) s = .next t ∧ changesOnly [.out, .dict, .lockstep, .links] u t
        ∧ (∀ o, o < 6 → portUp s o = true → messageSent u t o 8 4 seq (ownOrig s + (6 <<< 15 + (tick % 2 ^ 60) <<< 64)))
        ∧ { code := 6, value := 0, tick := tick, seq := seq } ∈ t.lockstep.agreements ∧ ∀ b ∈ l.agreements, b ∈ t.lockstep.agreements)
    ∧ (l.agreements = a :: later → a.code = 6 → a.tick ≤ s.gtc.toNat / 16 → l.stalled = none → dictGet s keyLsState = 5 → canonicalCores s →
        ∃ t, exec .agreeApply s = .next t ∧ coresReset s t ∧ (∀ c h, getThread t c h = {}) ∧ dictGet t keyLsState = 4
          ∧ dictGet t keyReadyStatus = 0 ∧ dictGet t keyModuleState = 1 ∧ t.lockstep.agreements = later)
    ∧ (isNext s 0x11 f x → frameKey f = keyLsStop → reaches s f x true e → leNat ((f.body.drop 3).take 1) = typeCode e.type →
        (f.body.drop 4).length = typeSize e.type → frameValue f = 1 → isAnchor s = false ∨ dictGet s keyLsState ≠ 5 →
        exec (.lsStop f) s = .next (answered s x 0x11 f 0x06 [] x.writing))

/-- R455: while a capture is armed each edge of TRACE_CLOCK takes a sample; the first that matches TRACE_VALUE under TRACE_MASK with
TRACE_PRE samples before it is the trigger, whose GTC is taken (within 2 counts, where the clock is not tick-locked in lock-step mode),
and the capture is done 65,535 − TRACE_PRE samples after it. -/
def Sys2Proof.Claims.TraceCaptures : Prop :=
  ∀ (s : State) (samples : List U32),
    let x := s.fabric.trace
    let pre := dictGet s keyTracePre
    let hits (i : Nat) (v : U32) : Prop :=
      pre ≤ x.count + i ∧ (v ^^^ BitVec.ofNat 32 (dictGet s keyTraceValue)) &&& BitVec.ofNat 32 (dictGet s keyTraceMask) = 0
    pre < 65536 →
    (x.code = .armed → (∀ i v, samples[i]? = some v → ¬ hits i v) → ∃ t, exec (.traceTrigger samples) s = .next t
        ∧ changesOnly [.fabric] s t ∧ traceOnly s t ∧ samplesTaken x t.fabric.trace samples samples.length ∧ t.fabric.trace.code = .armed)
    ∧ (∀ k v, x.code = .armed → samples[k]? = some v → hits k v → (∀ i u, i < k → samples[i]? = some u → ¬ hits i u) →
        ∃ t, exec (.traceTrigger samples) s = .next t ∧ changesOnly [.fabric, .dict, .free] s t ∧ traceOnly s t ∧ dictOnly [keyTrigGtc] s t
          ∧ samplesTaken x t.fabric.trace samples (min samples.length (k + 65536 - pre)) ∧ t.fabric.trace.trigger = x.count + k
          ∧ t.fabric.trace.code = (if k + 65536 - pre ≤ samples.length then .done else .triggered)
          ∧ (∃ d, d ≤ 4 ∧ dictGet t keyTrigGtc = (s.gtc.toNat + d + (2 ^ 64 - 2)) % 2 ^ 64)
          ∧ (lockstepMode s = true → (gclkTickLocked s).testBit (dictGet s keyTraceClock) = true → dictGet t keyTrigGtc = s.gtc.toNat))
    ∧ (x.code ≠ .armed → exec (.traceTrigger samples) s = .next s)
    ∧ (x.code = .triggered → x.trigger < x.count → x.count < x.trigger + 65536 - pre → ∃ t, exec (.traceDone samples) s = .next t
        ∧ changesOnly [.fabric] s t ∧ traceOnly s t ∧ t.fabric.trace.trigger = x.trigger
        ∧ samplesTaken x t.fabric.trace samples (min samples.length (x.trigger + 65536 - pre - x.count))
        ∧ t.fabric.trace.code = (if x.trigger + 65536 - pre - x.count ≤ samples.length then .done else .triggered))
    ∧ (x.code ≠ .triggered → exec (.traceDone samples) s = .next s)

/-- R447, R453: a fabric PLL's lock is reported and its loss logged; a bank measured out of its window holds each used pin of it high-Z,
counted and logged once, and a bank within its window only has its reading taken. -/
def Sys2Proof.Claims.FabricClocksAndBanks : Prop :=
  ∀ (s : State) (k : Fin 8) (bank : Fin 9) (millivolts : Nat) (reading : U32),
    let locked := dictGet s keyFpllLocked
    let level := mapGet 0 s.fabric.bankLevel bank.val
    let used (n : Nat) : Bool := if n < 320 then bits (pinWord s n) 0 2 ≠ 0 else dictGet s keyProbePinsEn = 1
    let pins := bankPins bank.val
    let cmd : Instr := .vccoCheck bank millivolts reading
    (locked.testBit k.val = true → ∃ t, exec (.fpllLossOfLock k) s = .next t ∧ changesOnly [.out, .dict, .bar0, .ledger] s t
        ∧ (∀ j, (dictGet t keyFpllLocked).testBit j = (locked.testBit j && j != k.val)) ∧ logs s t 2 0x5005 7 (16 + k.val) 0)
    ∧ (locked.testBit k.val = false → exec (.fpllLossOfLock k) s = .next s)
    ∧ (∃ t, exec (.fpllLock k) s = .next t ∧ changesOnly [.dict] s t ∧ dictOnly [keyFpllLocked] s t
        ∧ ∀ j, (dictGet t keyFpllLocked).testBit j = (locked.testBit j || j == k.val))
    ∧ (level ≠ 0 → vccoLevel millivolts ≠ level → ∃ t, exec cmd s = .next t
        ∧ changesOnly [.out, .dict, .bar0, .ledger, .fabric] s t ∧ dictGet t (keyBankVcco0 + bank.val) = reading.toNat
        ∧ t.fabric = { s.fabric with bankLevel := t.fabric.bankLevel, pinFault := t.fabric.pinFault }
        ∧ (∀ b, mapGet 0 t.fabric.bankLevel b = if b = bank.val then 0 else mapGet 0 s.fabric.bankLevel b)
        ∧ (∀ n, mapGet false t.fabric.pinFault n = if n ∈ pins then used n else mapGet false s.fabric.pinFault n)
        ∧ ((∃ n ∈ pins, used n = true) → dictGet t keyPinLevelFaults = sat32 (dictGet s keyPinLevelFaults + (pins.filter used).length)
            ∧ logs s t 2 0x5006 7 bank.val (packData [(32, reading.toNat), (8, (pins.filter used).length)])))
    ∧ (level = 0 ∨ vccoLevel millivolts = level → ∃ t, exec cmd s = .next t ∧ changesOnly [.dict] s t ∧ dictOnly [keyBankVcco0 + bank.val] s t
        ∧ dictGet t (keyBankVcco0 + bank.val) = reading.toNat)

/-- Trace captures, fabric PLLs and banks. Where the spec leaves a point open, this rests on the model's choices: log entry 62. -/
def Obligations.FabricTraceAndBanks : Prop := Claims.TraceCaptures ∧ Claims.FabricClocksAndBanks

/-- R444 to R446: an access of a block RAM whose region's clocks run reads and writes its word, and no bit outside it; ports on one clock
read the old word and port B's data stands; ports on other clocks act one by one, and only where their edges are near and a write meets
the other's word is what collides undefined. A word stored with check bits is read back whole. -/
def Sys2Proof.Claims.BlockRams : Prop :=
  ∀ (s : State) (r : RegionId) (ram : Fin 60) (a b : RamAccess) (same near : Bool) (v : Nat),
    let k := 60 * r.val + ram.val
    let x := mapGet {} s.fabric.rams k
    let reached (cmd : Instr) (p : Ram → Prop) : Prop :=
      ∃ y, exec cmd s = .next { s with fabric := { s.fabric with rams := mapSet {} s.fabric.rams k y }, free := s.free + 2 } ∧ p y
    let collide := near = true ∧ ramOverlap a b = true ∧ (ramWrites .a a = true ∨ ramWrites .b b = true)
    (regionClocked s r.val = true →
      reached (.bramAccess r ram (some a) none same near) (fun y => ramAlone x y .a a)
      ∧ reached (.bramAccess r ram none (some b) same near) (fun y => ramAlone x y .b b)
      ∧ reached (.bramAccess r ram (some a) (some b) true near) (fun y =>
          (∃ z, ramStored x z .a a ∧ ramStored z y .b b) ∧ ramDelivered x y .a a ∧ ramDelivered x y .b b)
      ∧ (¬ collide → reached (.bramAccess r ram (some a) (some b) false near) (fun y => ∃ z, ramAlone x z .a a ∧ ramAlone z y .b b))
      ∧ (collide → reached (.bramAccess r ram (some a) (some b) false near) (fun y =>
          (∀ i, (i < ramBit a ∨ ramBit a + ramWidth a.mode.val ≤ i) → (i < ramBit b ∨ ramBit b + ramWidth b.mode.val ≤ i) → ramRead y i 1 = ramRead x i 1)
          ∧ (ramWrites .b b = false → ramStored x y .a a) ∧ (ramWrites .a a = false → ramStored x y .b b))))
    ∧ (regionClocked s r.val = false → exec (.bramAccess r ram (some a) (some b) same near) s = .next s)
    ∧ (v < 2 ^ 64 → eccDecode (eccWord v) = { data := v, single := false, double := false })

/-- R435, R436, R438, R440, R441, R492: what a design's signals are and what an edge of its clocks does. A multiplexer gives 0 for a field of 0
or above the number of its inputs, and else the input of that number; a segment's register stands in its place where compatibility mode
enables it. O6 is the table at its inputs. A chain starts at 0, at 1 or at a routed bit, goes on from the cell before, and has nothing
before a column's southernmost cell. A flip-flop of a region whose clocks do not run stays; else a set-reset goes before D, an edge takes D
where the clock is enabled, and nothing else changes it. A blank region's flip-flops read 0. -/
def Sys2Proof.Claims.DesignSignals : Prop :=
  ∀ (s : State) (r : RegionId) (n k : Nat) (w : Wire) (y : Source) (c : Fin 30720) (second falling : Bool),
    let frames := logicFrames s r.val
    let v (x : Source) : Bool := signal s n r.val x
    let reads (x : Source) (b : Bool) : Prop := signal s (n + 1) r.val x = b
    let x := Config.cellDesign frames c.val
    let field := Config.muxField frames w
    let inputs := Config.muxInputs r.val w
    let index (m : Nat) : Nat := ((List.range m).map fun i => if v (.wire (.lutIn c.val i)) then 2 ^ i else 0).sum
    let t := fabricEdges s falling
    let f := flopDesign x second
    let own (u : State) : Bool := mapGet false u.fabric.flops (flopPlace r.val c.val second)
    let edge : Prop := clockEdge s r.val (Config.clusterClock frames (c.val / 16) f.clock) falling = true
    let resets : Prop := ∃ j, f.setReset = some j ∧ signalNow s r.val (.wire (.setReset (c.val / 16) j)) = true
    let enabled : Prop := ∀ j, f.enable = some j → signalNow s r.val (.wire (.enable (c.val / 16) j)) = true
    let segment (m : Nat) : SegmentDesign := Config.segmentDesign frames m
    ((∀ m, w = .l16 m → regionCompat s r.val = false ∨ (segment m).enabled = false) →
      (field = 0 ∨ inputs.length < field → reads (.wire w) false) ∧ (field = k + 1 → inputs[k]? = some y → reads (.wire w) (v y)))
    ∧ (regionCompat s r.val = true → (segment k).enabled = true →
        reads (.wire (.l16 k)) (regValue s r.val (segment k).init (mapGet false s.fabric.segs (segPlace r.val k))))
    ∧ reads (.o6 c.val) (x.table.getLsbD (if x.split then 32 + index 5 else index 6))
    ∧ (x.split = true → reads (.o5 c.val) (x.table.getLsbD (index 5)))
    ∧ (∀ cin, (x.start = some .zero → cin = false) → (x.start = some .one → cin = true) → (x.start = some .routing → cin = v (.wire (.carryIn c.val))) →
        (x.start = none → c.val % 16 ≠ 0 → cin = v (.carry (c.val - 1))) →
        (x.start = none → c.val % 16 = 0 → c.val / 16 % 120 ≠ 119 → cin = v (.carry (c.val + 31))) →
        (x.start = none → c.val % 16 = 0 → c.val / 16 % 120 = 119 → cin = false) →
        reads (.carry c.val) (Config.carryCell (v (.o6 c.val)) (v (.o5 c.val)) cin).2)
    ∧ ((getRegion s r.val).code = .blank ∨ (getRegion s r.val).code = .incomplete → reads (.flop c.val second) false)
    ∧ ((getRegion s r.val).code ≠ .blank → (getRegion s r.val).code ≠ .incomplete →
        reads (.flop c.val second) (if (getRegion s r.val).isolated then f.init else own s))
    ∧ (regionClocked s r.val = false → own t = own s)
    ∧ (regionClocked s r.val = true →
        (resets → edge ∨ f.async = true → own t = f.set)
        ∧ (¬ resets → edge → enabled → own t = flopData s r.val c.val second)
        ∧ (¬ edge → ¬ (resets ∧ f.async = true) → own t = own s) ∧ (¬ resets → ¬ enabled → own t = own s))
    ∧ t.fabric = { s.fabric with flops := t.fabric.flops, segs := t.fabric.segs, keepers := t.fabric.keepers }

/-- Block RAM accesses, and the signals and clock edges of a loaded design. Where the spec leaves a point open, this rests on the model's choices: log entries 14, 15, 16, 60, 61. -/
def Obligations.BlockRams : Prop := Claims.BlockRams ∧ Claims.DesignSignals

/-- R478, R532: a SLOT_WRITE ends. Every frame of an image is checked, and the first that fails is the outcome, which leaves the slot
empty; frames that pass are stored, with the image's record. A firmware image is stored where its header, body and build pass. -/
def Sys2Proof.Claims.SlotWrites : Prop :=
  ∀ (s : State) (j : SlotJob) (first : List Byte) (mark : Bool),
    let addr := j.addr.toNat
    let declared : Option Nat := if j.target < 4 then none else some (trailerField first 16 7)
    let id := trailerField first 32 32
    let n := imageFrames declared
    let checked (p : Nat) (f : List Byte) : Nat := (assay s declared p id [] f).1
    let ok (p : Nat) : Prop := ∃ f, stackedFrame s (addr + 544 * p) = some (f, false) ∧ (checked p f = 0 ∨ checked p f = 8)
    let ends (status : Nat) (t : State) : Prop := exec .slotWriteDone s = .next t ∧ changesOnly [.dict, .fabric] s t
      ∧ t.fabric.store.job = none ∧ dictGet t keySlotWriteStatus = status
    let kept (t : State) : Prop := t.fabric = { s.fabric with store := { s.fabric.store with job := none } } ∧ dictOnly [keySlotWriteStatus] s t
    (s.fabric.store.job = none → exec .slotWriteDone s = .next s)
    ∧ (s.fabric.store.job = some j → j.target < 4 ∨ (0x80 ≤ j.target ∧ j.target < 0x100) →
      (stackedFrame s addr = none → ∃ t, ends 0x903 t ∧ kept t)
      ∧ (stackedFrame s addr = some (first, mark) →
        ((4 ≤ j.target → trailerField first 16 7 < 64) → (∀ p, p < n → ok p) → ∃ t, ends 2 t
          ∧ (∃ i, storeImage t j.target = some i ∧ i.imageId = id
              ∧ ∀ p, p < n → stackedFrame s (addr + 544 * p) = some (mapGet [] i.frames p, false))
          ∧ (j.target < 4 → dictGet t (keySlotImageId0 + j.target) = id)
          ∧ (4 ≤ j.target → dictGet t (keyLibRegion0 + (j.target - 0x80)) = trailerField first 16 7)
          ∧ t.fabric.cells = s.fabric.cells)
        ∧ (4 ≤ j.target → 64 ≤ trailerField first 16 7 → ∃ t, ends 0x303 t ∧ kept t)
        ∧ (∀ p, (4 ≤ j.target → trailerField first 16 7 < 64) → p < n → (∀ q, q < p → ok q) →
            (stackedFrame s (addr + 544 * p) = none → ∃ t, ends 0x903 t ∧ kept t)
            ∧ (∀ f m, stackedFrame s (addr + 544 * p) = some (f, m) →
                (checked p f ≠ 0 → checked p f ≠ 8 → ∃ t, ends (3 + 256 * checked p f) t ∧ kept t)
                ∧ (checked p f = 0 ∨ checked p f = 8 → m = true → ∃ t, ends 0x903 t ∧ kept t)))))
    ∧ (∀ head all, s.fabric.store.job = some j → j.target = 0x10 ∨ j.target = 0x11 →
        let size := min (bits (leNat (head.flatMap (·.1))) 64 32) 8388352
        let image := (all.flatMap fun (x : List Byte × Bool) => x.1).take (256 + size)
        let build := bits (leNat (image.take 256)) 32 32
        (readPieces s addr 8 = none → ∃ t, ends 0x903 t ∧ kept t)
        ∧ (readPieces s addr 8 = some head → readPieces s addr (ceilDiv (256 + size) 32) = none → ∃ t, ends 0x903 t ∧ kept t)
        ∧ (readPieces s addr 8 = some head → readPieces s addr (ceilDiv (256 + size) 32) = some all →
          ((∃ x ∈ all, x.2 = true) → ∃ t, ends 0x903 t ∧ kept t)
          ∧ ((∀ x ∈ all, x.2 = false) → firmwarePasses s.fuses (dictGet s keyFwMinBuild) image = false → ∃ t, ends 0x703 t ∧ kept t)
          ∧ ((∀ x ∈ all, x.2 = false) → firmwarePasses s.fuses (dictGet s keyFwMinBuild) image = true → ∃ t, ends 2 t
              ∧ mapGet none t.fabric.store.firmware j.target = some { image := image, build := BitVec.ofNat 32 build }
              ∧ dictGet t (if j.target = 0x10 then keyFwSlot0Build else keyFwSlot1Build) = build)))

/-- R485, R489, R494, R495: the next frame of a load commits its data bits to its own place, and to no other, when it passes every row of
the assay; the first row it fails is its outcome. A partial load that fails scrubs its region, left INCOMPLETE; a full load that fails
leaves every region blank and isolated, and tries CFG_FALLBACK_SLOT once where its slot was CFG_BOOT_SLOT. -/
def Sys2Proof.Claims.FramesAssayed : Prop :=
  ∀ (s : State) (l : Load) (answer : ReadAnswer) (frame : List Byte) (poison : Bool),
    let cmd : Instr := .frameAssay answer
    let region : Option Nat := match l.kind with
      | .full _ _ => none
      | .region r _ _ _ => some r
    let place := match region with
      | none => l.next
      | some r => framePlace r l.next
    let sites := if (frameAt region l.next).2 = 0 then [] else l.sites
    let verdict := assay s region l.next l.imageId sites frame
    let outcome : Nat := if verdict.1 ≠ 0 then verdict.1 else if poison then 9 else 0
    let fails (code : Nat) : Prop := ∃ t, exec cmd s = .next t ∧ match l.kind with
      | .region r _ _ _ => t.fabric.load = none ∧ scrubBegun t r .incomplete (some (code, l.next)) ∧ t.fabric.cells = s.fabric.cells
          ∧ (∀ q, q ≠ r → getRegion t q = getRegion s q)
      | .full slot fallback => fullLoadFailed s t code l.next ∧
          let next := dictGet s keyCfgFallbackSlot
          (¬ fallback ∧ slot = dictGet s keyCfgBootSlot ∧ next < 4 ∧ next ≠ slot ∧ (storeImage s next).isSome →
            t.fabric.load = some { kind := .full next true } ∧ dictGet t keyFabricState = 1 ∧ ∀ r, r < 64 → (getRegion t r).code = .loading)
          ∧ (fallback ∨ slot ≠ dictGet s keyCfgBootSlot ∨ 4 ≤ next ∨ next = slot ∨ (storeImage s next).isNone →
            t.fabric.load = none ∧ dictGet t keyFabricState = 3 ∧ ∀ r, r < 64 → (getRegion t r).code = .incomplete)
    (s.fabric.load = none → exec cmd s = .next s)
    ∧ (s.fabric.load = some l → (l.draining = true ∨ imageFrames region ≤ l.next → exec cmd s = .next s)
      ∧ (l.draining = false → l.next < imageFrames region →
        (sourceFrame s l answer = none → fails 9)
        ∧ (sourceFrame s l answer = some (frame, poison) →
          (outcome ≠ 0 → fails outcome)
          ∧ (outcome = 0 → verdict.2.length = 512 → ∃ t, exec cmd s = .next t ∧ changesOnly [.fabric] s t
              ∧ cellBytes t place = verdict.2 ∧ (∀ q, q ≠ place → cellBytes t q = cellBytes s q)
              ∧ ∃ z, t.fabric = { s.fabric with cells := t.fabric.cells, load := some z } ∧ z.kind = l.kind ∧ z.next = l.next + 1
                  ∧ z.draining = false ∧ z.imageId = if l.next = 0 then trailerField frame 32 32 else l.imageId))))

/-- Slot writes, and the assay of the frames of a load. Where the spec leaves a point open, this rests on the model's choices: log entries 14, 63, 64. -/
def Obligations.Configuration : Prop := Claims.SlotWrites ∧ Claims.FramesAssayed

/-- R488, R491, R492, R494 to R497: the global start, a drain's end, a region's start after its load or its reset, and the end of a
scrub to blank. -/
def Sys2Proof.Claims.RegionsStart : Prop :=
  ∀ (s : State) (r : RegionId) (milli : Nat) (millivolts : List Nat) (l : Load),
    let x := getRegion s r.val
    let bank := pinBank ((regionPins r.val).headD 0)
    let others (t : State) : Prop := ∀ q, q ≠ r.val → getRegion t q = getRegion s q
    (s.fabric.load = some l → (∃ slot fb, l.kind = .full slot fb) → l.next = 300032 →
      ∃ t, exec (.fabricGlobalStart millivolts) s = .next t ∧ changesOnly [.out, .dict, .bar0, .ledger, .fabric] s t
        ∧ t.fabric.load = none ∧ dictGet t keyFabricState = 2 ∧ dictGet t keyCfgLoadStatus = 0
        ∧ (∀ q, q < 64 → regionBegun s t q true ∧ (dictGet t keyContentionRegions).testBit q = false)
        ∧ ∀ b, b < 9 → dictGet t (keyBankVcco0 + b) = f32Milli (millivolts.getD b 0) ∧ mapGet 0 t.fabric.bankLevel b = vccoLevel (millivolts.getD b 0))
    ∧ (s.fabric.load = none ∨ (∃ z, s.fabric.load = some z ∧ z.next ≠ 300032) ∨ (∃ z q src e a, s.fabric.load = some z ∧ z.kind = .region q src e a) →
        exec (.fabricGlobalStart millivolts) s = .next s)
    ∧ (∀ src entry addr, s.fabric.load = some l → l.kind = .region r.val src entry addr → l.draining = true →
        (src = 3 → ∃ t, exec (.plDrainEnd r) s = .next t ∧ t.fabric.load = none ∧ scrubBegun t r.val .blank none ∧ others t)
        ∧ (src = 0 → storeImage s (0x80 + entry) = none → ∃ t, exec (.plDrainEnd r) s = .next t ∧ t.fabric.load = none
            ∧ scrubBegun t r.val .incomplete (some (0x0B, 0)) ∧ others t)
        ∧ (src = 0 → storeImage s (0x80 + entry) ≠ none → ∃ t, exec (.plDrainEnd r) s = .next t
            ∧ t.fabric.load = some { kind := l.kind } ∧ (getRegion t r.val).code = .loading ∧ (getRegion t r.val).isolated = true ∧ others t)
        ∧ (src = 1 ∨ src = 2 → ∃ t, exec (.plDrainEnd r) s = .next t
            ∧ t.fabric.load = some { kind := l.kind } ∧ (getRegion t r.val).code = .loading ∧ (getRegion t r.val).isolated = true ∧ others t))
    ∧ (s.fabric.load = none → exec (.plDrainEnd r) s = .next s)
    ∧ (∀ src entry addr, s.fabric.load = some l → l.kind = .region r.val src entry addr → l.next = 4608 →
        ∃ t, exec (.regionStart r milli) s = .next t ∧ changesOnly [.out, .dict, .bar0, .ledger, .fabric] s t ∧ others t
          ∧ t.fabric.load = none ∧ regionBegun s t r.val true ∧ dictGet t keyCfgLoadStatus = 0
          ∧ (dictGet t keyContentionRegions).testBit r.val = false
          ∧ (regionPins r.val ≠ [] → dictGet t (keyBankVcco0 + bank) = f32Milli milli ∧ mapGet 0 t.fabric.bankLevel bank = vccoLevel milli))
    ∧ (s.fabric.load = none → x.code = .resetting →
        (∃ t, exec (.regionStart r milli) s = .next t ∧ changesOnly [.fabric] s t ∧ others t ∧ regionBegun s t r.val false)
        ∧ ∃ t, exec (.regionResetEnd r) s = .next t ∧ changesOnly [.fabric] s t ∧ others t ∧ regionBegun s t r.val false)
    ∧ (x.code ≠ .resetting → exec (.regionResetEnd r) s = .next s ∧ (s.fabric.load = none → exec (.regionStart r milli) s = .next s))
    ∧ (x.code = .scrubbing → ∃ t, exec (.scrubToBlankDone r) s = .next t ∧ changesOnly [.out, .dict, .bar0, .ledger, .fabric] s t ∧ others t
        ∧ (getRegion t r.val).code = x.scrubTo ∧ (getRegion t r.val).isolated = x.isolated
        ∧ (∀ f, f < 4608 → cellBytes t (framePlace r.val f) = List.replicate 512 0)
        ∧ (∀ p, p < framePlace r.val 0 ∨ framePlace r.val 4608 ≤ p → cellBytes t p = cellBytes s p)
        ∧ (∀ b, b < 60 → mapGet {} t.fabric.rams (60 * r.val + b) = {}) ∧ (∀ e, e < 24 → (getSe t (24 * r.val + e)).cause = .notStarted)
        ∧ (∀ c k, c < 30720 → mapGet false t.fabric.flops (flopPlace r.val c k) = false) ∧ (∀ n, n < 2 ^ 20 → mapGet false t.fabric.segs (segPlace r.val n) = false)
        ∧ (dictGet t keyContentionRegions).testBit r.val = false
        ∧ (x.failed = none → dictOnly [keyContentionRegions] s t ∧ t.ledger = s.ledger)
        ∧ ∀ outcome place, x.failed = some (outcome, place) → dictGet t keyCfgLoadStatus = outcome ∧ dictGet t keyCfgLoadFrame = place
            ∧ dictGet t keyCfgLoadsFailed = sat32 (dictGet s keyCfgLoadsFailed + 1)
            ∧ logs s t 2 0x5002 4 r.val (packData [(8, outcome), (32, place)]))
    ∧ (x.code ≠ .scrubbing → exec (.scrubToBlankDone r) s = .next s)

/-- R500: the configuration scrubber checks the frames of the full image in their order, round and round, and passes over one that is
being written; corrected words are counted and noted for the pass, and an uncorrectable word is counted, logged, and acted on as CFG_UE_ACTION says, or fails
the fabric where it lies in the static area. -/
def Sys2Proof.Claims.ConfigurationScrub : Prop :=
  ∀ (s : State) (found : ScrubFinding),
    let place := s.fabric.scrubNext
    let r := (place - 5120) / 4608
    let f := (place - 5120) % 4608
    let waits := if place < 5120 then dictGet s keyFabricState = 1 else (getRegion s r).code = .loading ∨ (getRegion s r).code = .scrubbing
    let action := dictGet s keyCfgUeAction
    let turned (t : State) : Prop := t.fabric.scrubNext = (if place = 300031 then 0 else place + 1)
      ∧ dictGet t keyCfgScrubPasses = if place = 300031 then sat32 (dictGet s keyCfgScrubPasses + 1) else dictGet s keyCfgScrubPasses
    let quiet (t : State) : Prop := changesOnly [.dict, .fabric] s t ∧ turned t
      ∧ t.fabric = { s.fabric with scrubNext := t.fabric.scrubNext, scrubFound := t.fabric.scrubFound, scrubEnded := t.fabric.scrubEnded }
    (waits ∨ found = .clean → ∃ t, exec (.cfgScrubFrame found) s = .next t ∧ quiet t ∧ dictOnly [keyCfgScrubPasses] s t
        ∧ (place = 300031 → t.fabric.scrubEnded = some s.fabric.scrubFound ∧ t.fabric.scrubFound = false))
    ∧ (∀ n, ¬ waits → found = .corrected n → ∃ t, exec (.cfgScrubFrame found) s = .next t ∧ quiet t ∧ dictOnly [keyCfgScrubPasses, keyCfgSeuCorrected] s t
        ∧ dictGet t keyCfgSeuCorrected = (dictGet s keyCfgSeuCorrected + n) % 2 ^ 64
        ∧ (place = 300031 → t.fabric.scrubEnded = some true) ∧ (place ≠ 300031 → t.fabric.scrubFound = true))
    ∧ (¬ waits → found = .uncorrectable → ∃ t, exec (.cfgScrubFrame found) s = .next t ∧ turned t
        ∧ dictGet t keyCfgSeuUncorrected = sat32 (dictGet s keyCfgSeuUncorrected + 1)
        ∧ (place < 5120 → dictGet t keyFabricState = 3 ∧ ∀ q, q < 64 → (getRegion t q).isolated = true)
        ∧ (5120 ≤ place → (∀ q, q ≠ r → getRegion t q = getRegion s q)
          ∧ (action = 1 ∧ (getRegion s r).code = .running → (getRegion t r).code = .resetting ∧ (getRegion t r).isolated = true)
          ∧ (action = 2 ∧ (getRegion s r).code = .running → scrubBegun t r .incomplete none)
          ∧ (action ≠ 1 ∧ action ≠ 2 ∨ (getRegion s r).code ≠ .running → getRegion t r = getRegion s r
              ∧ logs s t 3 0x5003 4 r (packData [(16, f), (8, action)]))))

/-- R443, R455, R478, R488 to R497: what a write of TRACE_ARM, SLOT_WRITE, CFG_FULL_LOAD, PL_START and REGION_RESET starts. -/
def Sys2Proof.Claims.FabricWrites : Prop :=
  ∀ (s : State) (f : Frame) (x : Session) (e : Entry) (key v : Nat), acceptedWrite s f x e key v →
    let u := writeAnswered s f x
    let z := s.fabric.trace
    let r := dictGet s keyPlRegion
    let source := dictGet s keyPlSource
    let entry := dictGet s keyPlLibEntry
    let kind : LoadKind := .region r source entry (BitVec.ofNat 64 (dictGet s keyPlAddr))
    let others (t : State) (r : Nat) : Prop := ∀ q, q ≠ r → getRegion t q = getRegion s q
    (key = keyTraceArm → v = 1 → exec (.traceArm f) s
        = .next { u with fabric := { s.fabric with trace := { z with code := .armed, count := 0, trigger := 0 } } })
    ∧ (key = keyTraceArm → v = 0 → exec (.traceStop f) s
        = .next { u with fabric := { s.fabric with trace := { z with code := if z.code = .armed ∨ z.code = .triggered then .idle else z.code } } })
    ∧ (key = keySlotWrite → ∃ t, exec (.slotWrite f) s = .next t ∧ changesOnly [.dict, .fabric] u t ∧ dictGet t keySlotWriteStatus = 1
        ∧ t.fabric = { s.fabric with store := t.fabric.store }
        ∧ t.fabric.store.job = some { target := v, addr := BitVec.ofNat 64 (dictGet s keySlotWriteSrc) }
        ∧ (v = 0x10 ∨ v = 0x11 → mapGet none t.fabric.store.firmware v = none ∧ t.fabric.store.images = s.fabric.store.images
            ∧ dictGet t (if v = 0x10 then keyFwSlot0Build else keyFwSlot1Build) = 0)
        ∧ (v ≠ 0x10 → v ≠ 0x11 → t.fabric.store.firmware = s.fabric.store.firmware
            ∧ (∀ i, storeImage t i = if i = v then none else storeImage s i)
            ∧ (v < 4 → dictGet t (keySlotImageId0 + v) = 0) ∧ (0x80 ≤ v → dictGet t (keyLibRegion0 + (v - 0x80)) = 0xFF)))
    ∧ (key = keyCfgFullLoad →
        (storeImage s v ≠ none → ∃ t, exec (.cfgFullLoad f) s = .next t ∧ t.fabric.load = some { kind := .full v false }
          ∧ dictGet t keyFabricState = 1 ∧ ∀ q, q < 64 → (getRegion t q).code = .loading ∧ (getRegion t q).isolated = true)
        ∧ (storeImage s v = none → ∃ t, exec (.cfgFullLoad f) s = .next t ∧ fullLoadFailed s t 0x0B 0))
    ∧ (key = keyPlStart → v ≠ 0 →
        (dictGet s keyPlDrain = 1 → exec (.plStart f) s
          = .next { u with fabric := { s.fabric with load := some { kind := kind, draining := true },
                                                     regions := mapMod {} s.fabric.regions r fun y => { y with code := .draining } } })
        ∧ (dictGet s keyPlDrain ≠ 1 → source = 3 → ∃ t, exec (.plStart f) s = .next t ∧ t.fabric.load = none ∧ scrubBegun t r .blank none ∧ others t r)
        ∧ (dictGet s keyPlDrain ≠ 1 → source = 0 → storeImage s (0x80 + entry) = none → ∃ t, exec (.plStart f) s = .next t
            ∧ t.fabric.load = none ∧ scrubBegun t r .incomplete (some (0x0B, 0)) ∧ others t r)
        ∧ (dictGet s keyPlDrain ≠ 1 → source ≠ 3 → (source = 0 → storeImage s (0x80 + entry) ≠ none) → ∃ t, exec (.plStart f) s = .next t
            ∧ t.fabric.load = some { kind := kind } ∧ (getRegion t r).code = .loading ∧ (getRegion t r).isolated = true ∧ others t r))
    ∧ (key = keyRegionReset → ∃ t, exec (.regionReset f) s = .next t ∧ (getRegion t v).code = .resetting ∧ (getRegion t v).isolated = true
        ∧ others t v ∧ t.fabric.cells = s.fabric.cells ∧ t.fabric.rams = s.fabric.rams
        ∧ ((getRegion s v).isolated = false → (getRegion t v).held = crossingsHigh u v))

/-- Regions started, scrubbed and reset, and the configuration scrubber. Where the spec leaves a point open, this rests on the model's choices: log entries 60, 63, 81. -/
def Obligations.RegionsRun : Prop := Claims.RegionsStart ∧ Claims.ConfigurationScrub ∧ Claims.FabricWrites

/-- R502, R503, R505, R513, R515: the module starts at input power good and when an overvoltage is released, through a power-on reset that
keeps what is stored; a lockout takes every rail off with its cause, an undervoltage after the CRITICAL entries not yet copied have
gone to the critical ring. -/
def Sys2Proof.Claims.PowerSequence : Prop :=
  ∀ (s : State), (∀ i ∈ ([.inputPowerGood, .overvoltageRelease, .powerOnReset] : List Instr),
      (s.power.mode = .off → ∃ t, exec i s = .next t ∧ poweredOn s t .on ∧ t.ledger.critRing = s.ledger.critRing
        ∧ (dictGet s keyDebugState = 1 → t.security.step = 1))
      ∧ (s.power.mode ≠ .off → exec i s = .next s))
    ∧ (s.power.mode = .off → exec .undervoltageLockout s = .next s ∧ exec .overvoltageLockout s = .next s)
    ∧ (s.power.mode ≠ .off →
        (s.ledger.critRing.length ≤ 4096 → ∃ t, exec .undervoltageLockout s = .next t ∧ poweredOn (dictSet s keyPowerOnCause 1) t .off
          ∧ let ring := s.ledger.critRing ++ s.ledger.uncopied
            t.ledger.critRing = ring.drop (ring.length - 4096))
        ∧ ∃ t, exec .overvoltageLockout s = .next t ∧ poweredOn (dictSet s keyPowerOnCause 4) t .off ∧ t.ledger.critRing = s.ledger.critRing)

/-- R505, R507 to R509, R511: the end of the boot, the gating of S1, the domains of S2 as they switch off and come on again, and the wakes
from S3 and S4. -/
def Sys2Proof.Claims.PowerStates : Prop :=
  ∀ (s : State) (ms : U32) (d : DomainId),
    let on := s.power.mode = .on
    let booted := on ∧ dictGet s keyModuleState = 0 ∧ (∀ t, t < 8 → (getTower s.stacked t).state = .ready ∨ (getTower s.stacked t).state = .failed)
      ∧ (dictGet s keyFabricState = 2 ∨ dictGet s keyFabricState = 3 ∨ dictGet s keyCfgBootSlot = 0xFF)
      ∧ ∀ k, k < 8 → s.power.off.getLsbD k = false
    let idle := on ∧ dictGet s keyPowerReq = 1 ∧ moduleIdle s = true
    let goes := (dictGet s keyDomainOff).testBit d.val = true ∧ s.power.off.getLsbD d.val = false ∧ on ∧ mayTurnOff s d.val = true
    let refreshing (t : Nat) : Prop := (getTower s.stacked t).state = .selfRefresh
    let comes := s.power.waking.getLsbD d.val = true
      ∧ ∀ g, g < 4 → d.val = 13 + g → ¬ refreshing (2 * g) ∧ ¬ refreshing (2 * g + 1)
    let timed := s.power.wakeAt ≠ 0 ∧ s.power.wakeAt ≤ calendar s ∧ s.power.tripped = false
    let cause := dictGet s keyWakeCause
    (booted → ∃ t, exec (.moduleStateStopped ms) s = .next t ∧ changesOnly [.dict] s t ∧ dictOnly [keyModuleState, keyBootTime] s t
        ∧ dictGet t keyModuleState = 1 ∧ dictGet t keyBootTime = if dictGet s keyLastReset = 0 then ms.toNat else dictGet s keyBootTime)
    ∧ (¬ booted → exec (.moduleStateStopped ms) s = .next s)
    ∧ (idle → exec .s1Entry s = .next { s with power := { s.power with gated := true } })
    ∧ (¬ idle → exec .s1Entry s = .next s)
    ∧ exec .s1Exit s = .next { s with power := { s.power with gated := false } }
    ∧ (goes → ∃ t, exec (.domainSwitchOff d) s = .next t ∧ domainTurned s t d true
        ∧ (d.val < 8 → (∀ c : CoreId, getCore t c = if c.val / 12 = d.val then {} else getCore s c)
            ∧ (∀ v : CaravanId, (getCv t v.val).state = (getCv s v.val).state ∧ (getCv t v.val).desc = (getCv s v.val).desc
                ∧ ∀ r ∈ (getCv t v.val).receivers, r.core / 12 = d.val → r.core < 96 → r.holdGranted = false)
            ∧ ∀ r : RingId, (getRing t r.val).claims = (getRing s r.val).claims.filter fun q => q.core.val / 12 ≠ d.val)
        ∧ (8 ≤ d.val → d.val < 12 → (∀ r, getRegion t r = if r / 16 = d.val - 8 then {} else getRegion s r)
            ∧ (∀ q, q < 8 → (dictGet t keyFpllLocked).testBit q = ((dictGet s keyFpllLocked).testBit q && q / 2 != d.val - 8)))
        ∧ (17 ≤ d.val → ∀ p : PortId, p.val / 4 = d.val - 17 → (getPort t.links p.val).state = .down ∨ (getPort t.links p.val).state = .disabled))
    ∧ (¬ goes → exec (.domainSwitchOff d) s = .next s)
    ∧ (comes → ∃ t, exec (.domainPowerUpDone d) s = .next t ∧ changesOnly [.power] s t ∧ domainTurned s t d false
        ∧ t.power = { s.power with off := t.power.off, waking := t.power.waking } ∧ t.power.waking.getLsbD d.val = false)
    ∧ (¬ comes → exec (.domainPowerUpDone d) s = .next s)
    ∧ (timed → s.power.mode = .s4 → ∃ t, exec .wakeAtExpire s = .next t ∧ sessionsGone t ∧ dictGet t keyWakeCause = 2 ∧ t.mgmt = .standby
        ∧ t.power.mode = .on ∧ t.power.off = 0 ∧ t.gtc = s.gtc ∧ (∀ k, k < 8 → (getTower t.stacked k).state = .training) ∧ dictGet t keyLaneRepairs = 0)
    ∧ (timed → s.power.mode = .s3 → ∃ t, exec .wakeAtExpire s = .next t ∧ sessionsGone t ∧ dictGet t keyWakeCause = 2 ∧ t.power = s.power)
    ∧ (¬ timed ∨ s.power.mode = .on ∨ s.power.mode = .off → exec .wakeAtExpire s = .next s)
    ∧ (s.power.mode = .s3 → cause ≠ 0 → ∃ t, exec .s3Wake s = .next t ∧ sessionsGone t ∧ t.power.mode = .on ∧ t.power.off = 0
        ∧ dictGet t keyWakeCause = cause ∧ t.gtc = s.gtc
        ∧ (retainedOk s = true → t.mgmt = .serving ∧ dictGet t keyModuleState = 1 ∧ t.complex = { s.complex with running := true }
            ∧ (∀ k, keyOfSlot t k = keyOfSlot s k ∨ keyOfSlot t k = none) ∧ t.security.standbyKeys = [] ∧ (∀ v : CaravanId, getCv t v.val = getCv s v.val)
            ∧ (∀ k, refreshing k → (getTower t.stacked k).state = .ready)
            ∧ (∀ r, r < 64 → (getRegion s r).code = .running → regionBegun s t r false))
        ∧ (retainedOk s = false → t.mgmt = .standby ∧ dictGet t keyModuleState = 0 ∧ dictGet t keyFabricState = 0 ∧ t.complex = {}
            ∧ t.cores = [] ∧ t.caravans = [] ∧ t.stacked.bytes = [] ∧ ∀ k, k < 8 → (getTower t.stacked k).state = .training))
    ∧ (s.power.mode ≠ .s3 ∨ cause = 0 → exec .s3Wake s = .next s)

/-- R517, R520, R521, R583: a reference lost is reported, with a WARNING entry, and its clocks move; a rail that has risen is followed by
the frequency; a throttle holds step 4 at least until its release, when the governor's step comes again; a trip enters S4. -/
def Sys2Proof.Claims.ClocksAndLimits : Prop :=
  ∀ (s : State) (l : LimitReading) (step : Nat),
    let on := s.power.mode = .on
    let now := dictGet s keyClkStep
    let lost := isAnchor s = true ∧ dictGet s keyLsRefSource = 1 ∧ s.power.gtcRefLost = false
    let hot := dictGet s keyThrottleActive = 1
    (s.power.sysrefLost = false → ∃ t, exec .sysrefLoss s = .next t ∧ changesOnly [.out, .dict, .bar0, .ledger, .power] s t
        ∧ t.power = { s.power with sysrefLost := true } ∧ dictGet t keySysrefOk = 0
        ∧ dictGet t keyClkSource = (if lockstepMode s then dictGet s keyClkSource else 2) ∧ logs s t 2 0x1003 0 0 0)
    ∧ (s.power.sysrefLost = true → exec .sysrefLoss s = .next s)
    ∧ (∃ t, exec .sysrefReturn s = .next t ∧ changesOnly [.dict, .power] s t ∧ t.power = { s.power with sysrefLost := false } ∧ dictGet t keySysrefOk = 1
        ∧ dictOnly [keySysrefOk, keyClkSource] s t ∧ dictGet t keyClkSource = if lockstepMode s then dictGet s keyClkSource else 0)
    ∧ (lost → ∃ t, exec .gtcRefInLoss s = .next t ∧ changesOnly [.out, .dict, .bar0, .ledger, .power] s t
        ∧ t.power = { s.power with gtcRefLost := true } ∧ logs s t 2 0x1003 0 0 0)
    ∧ (¬ lost → exec .gtcRefInLoss s = .next s)
    ∧ exec .gtcRefInReturn s = .next { s with power := { s.power with gtcRefLost := false } }
    ∧ (s.power.railTo = some step → ∃ t, exec .stepUpRailSettled s = .next t ∧ changesOnly [.dict, .power] s t ∧ dictOnly [keyClkStep] s t
        ∧ t.power = { s.power with step := step, railTo := none } ∧ dictGet t keyClkStep = if hot then max step 4 else step)
    ∧ (s.power.railTo = none → exec .stepUpRailSettled s = .next s)
    ∧ (on → ¬ hot → ∃ t, exec (.throttle l) s = .next t ∧ changesOnly [.out, .dict, .bar0, .ledger, .power] s t
        ∧ dictGet t keyThrottleActive = 1 ∧ dictGet t keyThrottleEvents = sat32 (dictGet s keyThrottleEvents + 1) ∧ dictGet t keyClkStep = max now 4
        ∧ logs s t 2 0x1001 0 0 (packData [(8, l.cause.val), (8, l.sensor.toNat), (32, l.reading.toNat)])
        ∧ (dictGet s keyLsState = 5 → dictGet s keyRunCm = 1 → dictGet t keyRunCm = 0 ∧ dictGet t keyRunCmCause = 3)
        ∧ (dictGet s keyLsState ≠ 5 → dictGet t keyRunCm = dictGet s keyRunCm))
    ∧ (¬ on ∨ hot → exec (.throttle l) s = .next s)
    ∧ (hot → ∃ t, exec .throttleRelease s = .next t ∧ changesOnly [.dict, .power] s t ∧ dictOnly [keyThrottleActive] s t ∧ dictGet t keyThrottleActive = 0
        ∧ t.power = { s.power with railTo := if s.power.step < now then some s.power.step else s.power.railTo })
    ∧ (¬ hot → exec .throttleRelease s = .next s)
    ∧ (on → ∃ t, exec (.trip l) s = .next t ∧ t.power.mode = .s4 ∧ t.power.off = BitVec.allOnes 24 ∧ t.power.tripped = true
        ∧ dictGet t keyTrips = sat32 (dictGet s keyTrips + 1) ∧ dictGet t keyPowerOnCause = 3 ∧ dictGet t keyModuleState = 0
        ∧ sessionsGone t ∧ t.cores = [] ∧ t.stacked = {} ∧ t.caravans = [] ∧ t.security.step = 0 ∧ t.security.keys = s.security.keys
        ∧ (dictGet s keyLedgerMinSev ≤ 3 → s.ledger.freeze = none → s.ledger.queue.length < 256 →
            ∃ e ∈ t.ledger.queue, e.code = 0x1002 ∧ e.sev = 3 ∧ e.data = packData [(8, l.sensor.toNat), (32, l.reading.toNat)]))
    ∧ (¬ on → exec (.trip l) s = .next s)
    ∧ exec .tripRelease s = .next { s with power := { s.power with tripped := false } }

/-- R522 to R525: at each period the governor reports its readings and decides its step, TOLL_RATE, SCRUB_EVERY and CFG_SCRUB_INTERVAL
within their owner bounds; in elastic mode they apply, the step by the procedure of R520; in lock-step mode they become wishes. The
input current limit of R502 counts as an over-limit period, the model's reading of it. -/
def Sys2Proof.Claims.Governor : Prop :=
  ∀ (s : State) (g : GovReadings),
    let d := dictGet s
    let temp := g.towers.foldl max g.dieMax
    let target := d keyThermalTarget
    let limit := d keyPowerLimit
    let hot := target * 1000000 < temp ∨ limit * 1000000 < g.power ∨ overCurrent g = true
    let cool := ¬ hot ∧ temp + 5000000 < target * 1000000 ∧ g.power * 100 < 95 * (limit * 1000000)
    let step := s.power.step
    let clamp (lo hi v : Nat) : Nat := min (max v lo) hi
    let toll := d keyTollRate
    let scrub := d keyScrubEvery
    let cfg := d keyCfgScrubInterval
    let wantedToll := clamp (d keyTollRateFloor) 1024 (if 50000 < g.queueFull then toll - toll / 4 else if g.queueFull < 10000 then toll + 32 else toll)
    let wantedScrub := clamp (d keyScrubEveryMin) (d keyScrubEveryMax)
      (if 1000 < g.eccRoseLastHour then scrub / 2 else if 24 ≤ g.eccHoursSinceRise then 2 * scrub else scrub)
    ∀ wanted calm, (hot → wanted = clamp (d keyStepMin) (d keyStepMax) (step + 1) ∧ calm = 0) →
      (cool → s.power.calm = 9 → wanted = clamp (d keyStepMin) (d keyStepMax) (step - 1) ∧ calm = 0) →
      (cool → s.power.calm ≠ 9 → wanted = clamp (d keyStepMin) (d keyStepMax) step ∧ calm = s.power.calm + 1) →
      (¬ hot → ¬ cool → wanted = clamp (d keyStepMin) (d keyStepMax) step ∧ calm = 0) →
      (s.power.mode = .on → s.mgmt = .serving → ∃ t, exec (.governorPeriod g) s = .next t ∧ t.power.calm = calm
        ∧ dictGet t keyInputVoltage = g.inputVoltage.toNat ∧ dictGet t keyInputCurrent = g.inputCurrent.toNat ∧ dictGet t keyInputPower = g.inputPower.toNat
        ∧ (∀ n v, n < 64 → g.dieSensors[n]? = some v → dictGet t (keyTj0 + n) = v.toNat)
        ∧ (∀ corrected, s.fabric.scrubEnded = some corrected → dictGet t keyCfgScrubInterval
            = if corrected then 1 else min (max (2 * cfg) 1) (d keyCfgScrubIntervalMax))
        ∧ (s.fabric.scrubEnded = none → dictGet t keyCfgScrubInterval = cfg)
        ∧ t.fabric = { s.fabric with scrubEnded := none }
        ∧ (lockstepMode s = false → dictGet t keyTollRate = wantedToll ∧ dictGet t keyScrubEvery = wantedScrub ∧ t.power.step = wanted
            ∧ (d keyClkStep < wanted → t.power.railTo = none
                ∧ dictGet t keyClkStep = if d keyThrottleActive = 1 then max wanted 4 else wanted)
            ∧ (wanted ≤ d keyClkStep → dictGet t keyClkStep = d keyClkStep ∧ (wanted < d keyClkStep → t.power.railTo = some wanted))
            ∧ ∀ p, p < 8 → portUp s p = true → d (portKey p 8) < d keyEqMarginMin → (getPort t.links p).eqWindow = true)
        ∧ (lockstepMode s = true → t.power.step = step ∧ dictGet t keyTollRate = toll ∧ dictGet t keyScrubEvery = scrub ∧ dictGet t keyClkStep = d keyClkStep
            ∧ mapGet none t.lockstep.wishes (16 + 8) = some wanted ∧ mapGet none t.lockstep.wishes (48 + 8) = some wantedToll
            ∧ mapGet none t.lockstep.wishes (64 + 8) = some wantedScrub))
      ∧ (s.power.mode ≠ .on ∨ s.mgmt ≠ .serving → exec (.governorPeriod g) s = .next s)

/-- Power-up, power states, domains, references, limits and the governor. Where the spec leaves a point open, this rests on the model's choices: log entries 65, 66, 67, 70, 75. -/
def Obligations.PowerAndClocks : Prop := Claims.PowerSequence ∧ Claims.PowerStates ∧ Claims.ClocksAndLimits ∧ Claims.Governor

/-- R506 to R513: MODULE_CMD starts and stops the program; CORE_RESET, WARM_RESET and POWER_CYCLE reset; POWER_REQ wakes the module or
takes it to S1, to S3, which keeps the contexts of the caravans and the firmware's memory, or to S4; DOMAIN_OFF names the domains to switch off, and powers up the others.
While the module unseals, a reset or a power request waits (R538). -/
def Sys2Proof.Claims.PowerWrites : Prop :=
  ∀ (s : State) (f : Frame) (x : Session) (e : Entry) (key v : Nat), acceptedWrite s f x e key v → canonicalCores s →
    let u := writeAnswered s f x
    let does (i : Instr) (P : State → Prop) : Prop := ∃ t, exec i s = .next t ∧ P t
    let mode := s.power.mode
    let blank (t : State) : Prop := ∀ c h, getThread t c h = {}
    let stops (t : State) : Prop := coresReset s t ∧ blank t ∧ dictGet t keyModuleState = 1 ∧ dictGet t keyLastReset = 3
    let standby (t : State) (m : PowerMode) : Prop := t.power.mode = m ∧ t.power.off = BitVec.allOnes 24 ∧ t.power.wakeAt = BitVec.ofNat 64 (dictGet s keyWakeAt)
      ∧ sessionsGone t ∧ t.mgmt = .standby ∧ t.gtc = s.gtc ∧ dictGet t keyModuleState = 0 ∧ dictGet t keyWakeCause = 0
      ∧ (∀ k, k < 4 → mapGet none t.security.standbyKeys k = keyOfSlot s k) ∧ blank t
    (key = keyModuleCmd → v = 1 → blank s → does (.moduleCmdStart f) fun t => programBegun s t ∧ dictGet t keyModuleState = 2 ∧ changesOnly [.cores, .dict] u t)
    ∧ (key = keyModuleCmd → v = 2 → does (.moduleCmdStop f) fun t => stops t ∧ (dictGet s keyLsState = 5 → dictGet t keyLsState = 4 ∧ dictGet t keyReadyStatus = 0))
    ∧ (isUnsealing s = true → [keyCoreReset, keyWarmReset].contains key = true → v ≠ 0 → ∀ i : Instr, i = (if key = keyCoreReset then .coreReset f else .warmReset f) →
        exec i s = .next { u with security := { s.security with asked := s.security.asked ++ [(key, v)] } })
    ∧ (isUnsealing s = true → key = keyPowerReq → ∀ i : Instr, (v = 0 → i = .powerReqWake f) → (v = 1 → i = .powerReqS1 f) → (v = 3 → i = .powerReqS3 f)
        → (v = 4 → i = .powerReqS4 f) → exec i s = .next { u with security := { s.security with asked := s.security.asked ++ [(key, v)] } })
    ∧ (isUnsealing s = false → key = keyCoreReset → v ≠ 0 → does (.coreReset f) fun t => coresReset s t ∧ dictGet t keyLastReset = 3
        ∧ dictGet t keyModuleState = dictGet s keyModuleState ∧ (dictGet s keyModuleState = 2 → programBegun s t) ∧ (dictGet s keyModuleState ≠ 2 → blank t))
    ∧ (isUnsealing s = false → key = keyWarmReset → v ≠ 0 → mode = .on → does (.warmReset f) fun t => coresReset s t ∧ blank t ∧ sessionsGone t ∧ t.mgmt = .reloading ∧ t.queues = {}
        ∧ t.counters.values = [] ∧ t.net.flits = [] ∧ t.complex = { s.complex with running := false }
        ∧ t.lockstep = s.lockstep ∧ (∀ k, k / 256 / 4096 = 9 → k ≠ keyRunCm → k ≠ keyRunCmCause → dictGet t k = dictGet s k) ∧ t.gtc = s.gtc ∧ dictGet t keyLastReset = 2 ∧ dictGet t keyModuleState = 0 ∧ dictGet t keyDomainOff = 0
        ∧ (∀ p : PortId, (getPort t.links p.val).state = .down ∨ (getPort t.links p.val).state = .disabled) ∧ (∀ k, keyOfSlot t k = keyOfSlot s k)
        ∧ (s.fabric.load = none → t.fabric.cells = s.fabric.cells ∧ ∀ r, getRegion t r = getRegion s r))
    ∧ (key = keyPowerCycle → v ≠ 0 → does (.powerCycle f) fun t => poweredOn (dictSet u keyPowerOnCause 2) t .off ∧ t.ledger.critRing = s.ledger.critRing)
    ∧ (isUnsealing s = false → key = keyPowerReq → v = 0 → mode = .on → exec (.powerReqWake f) s
        = .next { dictSet u keyPowerReq 0 with power := { s.power with gated := false } })
    ∧ (isUnsealing s = false → key = keyPowerReq → v = 0 → mode = .s3 → does (.powerReqWake f) fun t => sessionsGone t ∧ dictGet t keyWakeCause = 1 ∧ t.power = s.power)
    ∧ (isUnsealing s = false → key = keyPowerReq → v = 0 → mode = .s4 → does (.powerReqWake f) fun t => sessionsGone t ∧ dictGet t keyWakeCause = 1 ∧ t.power.mode = .on
        ∧ t.power.off = 0 ∧ t.mgmt = .standby ∧ ∀ k, k < 8 → (getTower t.stacked k).state = .training)
    ∧ (isUnsealing s = false → key = keyPowerReq → v = 1 → exec (.powerReqS1 f) s = .next (dictSet u keyPowerReq 1))
    ∧ (isUnsealing s = false → key = keyPowerReq → v = 3 → does (.powerReqS3 f) fun t => standby t .s3
        ∧ (∀ k, k < 8 → (getTower t.stacked k).state = if (getTower s.stacked k).state = .failed then .failed else .selfRefresh)
        ∧ (∀ (c : CoreId) a, mapGet 0 (getCore t c).mem.bytes a
            = if (dictGet s keyCmRetainSegments).testBit (a / 131072) then mapGet 0 (getCore s c).mem.bytes a else 0)
        ∧ (∀ c : CaravanId, (getCv t c.val).state = (getCv s c.val).state ∧ (getCv t c.val).desc = (getCv s c.val).desc
            ∧ ∀ r ∈ (getCv t c.val).receivers, r.core < 96 → r.holdGranted = false)
        ∧ t.complex.memory = s.complex.memory ∧ t.complex.running = false ∧ t.fabric.cells = s.fabric.cells)
    ∧ (isUnsealing s = false → key = keyPowerReq → v = 4 → does (.powerReqS4 f) fun t => standby t .s4 ∧ t.cores = [] ∧ t.stacked = {} ∧ t.caravans = [] ∧ t.complex = {} ∧ t.fabric.cells = []
        ∧ t.fabric.store.images = s.fabric.store.images ∧ dictGet t keyFabricState = 0)
    ∧ (key = keyDomainOff → does (.domainOff f) fun t => changesOnly [.dict, .power] u t ∧ dictGet t keyDomainOff = v % 2 ^ 24
        ∧ t.power = { s.power with waking := t.power.waking, toSelfRefresh := t.power.toSelfRefresh }
        ∧ (∀ d : DomainId, t.power.waking.getLsbD d.val = (s.power.waking.getLsbD d.val
            || (!v.testBit d.val && (s.power.off.getLsbD d.val
                || (13 ≤ d.val && d.val < 17 && ((getTower s.stacked (2 * (d.val - 13))).state = .selfRefresh
                      || (getTower s.stacked (2 * (d.val - 13) + 1)).state = .selfRefresh)))))))

/-- R376, R385, R387: a port disabled falls and stays down until it is enabled; a port reset trains again from an empty state. -/
def Sys2Proof.Claims.PortWrites : Prop :=
  ∀ (s : State) (f : Frame) (x : Session) (e : Entry) (key v : Nat) (p : PortId), acceptedWrite s f x e key v →
    let u := writeAnswered s f x
    let now := getPort s.links p.val
    (key = portKey p.val 0xC →
        (v = 0 → ∃ t, exec (.portEnable f) s = .next t ∧ (getPort t.links p.val).state = .disabled ∧ dictGet t key = 0)
        ∧ (v ≠ 0 → ∃ t, exec (.portEnable f) s = .next t ∧ changesOnly [.dict, .links] u t ∧ dictGet t key = v
            ∧ getPort t.links p.val = { now with state := if now.state = .disabled then .down else now.state }
            ∧ ∀ q, q ≠ p.val → getPort t.links q = getPort s.links q))
    ∧ (key = portKey p.val 0xD → v ≠ 0 → ∃ t, exec (.portReset f) s = .next t ∧
        let z := getPort t.links p.val
        z.state = (if now.state = .disabled then .disabled else .down) ∧ z.trainStep = 0 ∧ z.unacked = [] ∧ z.txSeq = 0 ∧ z.expect = 0
          ∧ z.latExceeded = false ∧ z.messages = [] ∧ (∀ k, k / 256 = 0x4100 + p.val → entryPersist k = some .volatile → dictGet t k = entryDefault k)
          ∧ ∀ q, q ≠ p.val → (getPort t.links q).state = (getPort s.links q).state)

/-- The writes that reset, power, start and stop the module and its ports. Where the spec leaves a point open, this rests on the model's choices: log entries 66, 69, 77. -/
def Obligations.PowerAndPortWrites : Prop := Claims.PowerWrites ∧ Claims.PortWrites

/-- R533, R537 to R539: the steps of the unseal sequence erase the keys, the fabric, the tile array and all of stacked memory in their
order, and its end puts the new OWNER key alone in the key store, or reports an interruption; the resets and the power request that waited run then. -/
def Sys2Proof.Claims.UnsealSequence : Prop :=
  ∀ (s : State) (asserted : Bool),
    let x := s.security
    let runs := s.power.mode = .on ∧ (x.interrupted = true → ∀ t, t < 8 → (getTower s.stacked t).state = .ready ∨ (getTower s.stacked t).state = .failed)
    let step (n : Nat) (P : State → Prop) : Prop := runs → x.step = n → ∃ t, exec .unsealStepDone s = .next t ∧ P t
    let count := sat32 (dictGet s keyUnsealCount + 1)
    step 1 (fun t => t.security = { x with keys := [], standbyKeys := [], step := 2 } ∧ sessionsGone t)
    ∧ step 2 (fun t => t.security.step = 3 ∧ (∀ r, r < 64 → getRegion t r = {}) ∧ t.fabric.cells = [] ∧ t.fabric.rams = [] ∧ t.fabric.engines = []
        ∧ t.fabric.flops = [] ∧ t.fabric.segs = [] ∧ t.fabric.keepers = []
        ∧ t.fabric.trace = {} ∧ t.fabric.load = none ∧ dictGet t keyFabricState = 0 ∧ t.fabric.store = s.fabric.store)
    ∧ (canonicalCores s → step 3 fun t => t.security.step = 4 ∧ (∀ c u, getThread t c u = {} ∧ (getCore t c).mem = {}) ∧ t.caravans = [] ∧ t.banks = []
        ∧ t.queues.ttCache = [] ∧ t.pcie.atsCache = [] ∧ ∀ r : RingId, (getRing t r.val).pool = [] ∧ (getRing t r.val).claims = [])
    ∧ step 4 (fun t => t.security.step = 5 ∧ t.stacked.bytes = [] ∧ t.stacked.poison = [])
    ∧ (x.asked = [] → step 5 fun t => dictGet t keyDebugState = 2 ∧ dictGet t keyUnsealCount = count ∧ t.security.step = 0 ∧ t.security.holding = none
        ∧ (∀ k, keyOfSlot t k = if k = 3 then x.holding else none)
        ∧ (x.deferred = none → (x.holding ≠ none → logs s t 2 0x7003 0 0 (packData [(32, count)])) ∧ (x.holding = none → logs s t 3 0x7004 0 0 0))
        ∧ (x.deferred ≠ none → dictGet t keyLastReset = 1 ∧ t.security.deferred = none))
    ∧ (runs → x.step = 5 → ∀ v, exec .unsealStepDone { s with security := { x with asked := [], deferred := none } } = .next v →
        exec .unsealStepDone s = .next (match x.deferred with
          | some r => moduleReset (x.asked.foldl runAsked v) r
          | none => x.asked.foldl runAsked v))
    ∧ (¬ runs ∨ x.step = 0 → exec .unsealStepDone s = .next s)
    ∧ exec (.dbgStrapChange asserted) s
      = .next { s with straps := { s.straps with debug := asserted }, security := { x with extest := x.extest && asserted } }

/-- R526, R529, R530, R536, R541: KEY_CLEAR empties a slot, and closes its role's sessions; SEAL seals the module; a key blob written whole
that its session's key opens puts its key into its slot, or, for UNSEAL, begins the unseal sequence; a blob that does not open, and a key
that the store fails to commit, changes nothing. -/
def Sys2Proof.Claims.SecurityWrites : Prop :=
  ∀ (s : State) (f : Frame) (x : Session) (e : Entry) (key v : Nat) (blob : List Byte) (b : KeyBlob),
    let u := writeAnswered s f x
    let w := answered s x 0x13 f 0 (f.body.take 8) none
    let refused (i : Instr) (status : Nat) : Prop := exec i s = .next (answered s x 0x13 f status [] none)
    let gone (t u : State) (role : Nat) : Prop := t.sessions.sessions.map (·.sid) = (u.sessions.sessions.filter fun y => y.role ≠ role).map (·.sid)
    (acceptedWrite s f x e key v → key = keyKeyClear → ∃ t, exec (.keyClear f) s = .next t ∧ gone t u v
        ∧ ∀ k, keyOfSlot t k = if k = v then none else keyOfSlot s k)
    ∧ (acceptedWrite s f x e key v → key = keySeal → v ≠ 0 → ∃ t, exec (.seal f) s = .next t ∧ dictGet t keyDebugState = 0
        ∧ t.security = { s.security with extest := false } ∧ changesOnly [.out, .dict, .bar0, .ledger, .security] u t ∧ logs s t 1 0x7005 0 0 0)
    ∧ (wholeDomain s f x e keyKeyLoad blob → blob.length ≤ 64 →
        (openBlob s x blob = none → refused (.keyLoad f) 0x08)
        ∧ (openBlob s x blob = some b → imageSlotBarred s b.slot = true → refused (.keyLoad f) 0x06)
        ∧ (openBlob s x blob = some b → imageSlotBarred s b.slot = false → f.storeFails = true → refused (.keyLoad f) 0x14)
        ∧ (openBlob s x blob = some b → imageSlotBarred s b.slot = false → f.storeFails = false → ∃ t, exec (.keyLoad f) s = .next t ∧ gone t w b.slot
            ∧ (∀ k, keyOfSlot t k = if k = b.slot then some b.key else keyOfSlot s k)
            ∧ (∀ y ∈ t.sessions.sessions, y.sid = x.sid → y.lastNonce = some b.nonce)))
    ∧ (wholeDomain s f x e keyUnseal blob → blob.length ≤ 64 →
        (openBlob s x blob = none → refused (.unseal f) 0x08)
        ∧ (openBlob s x blob = some b → b.slot ≠ 3 → refused (.unseal f) 0x08)
        ∧ (openBlob s x blob = some b → b.slot = 3 → mayUnseal s = false → refused (.unseal f) 0x06)
        ∧ (openBlob s x blob = some b → b.slot = 3 → mayUnseal s = true → ∃ t, exec (.unseal f) s = .next t ∧ sessionsGone t
            ∧ dictGet t keyDebugState = 1 ∧ t.security = { s.security with holding := some b.key, step := 1, interrupted := false }
            ∧ (∀ k, keyOfSlot t k = keyOfSlot s k) ∧ w.out <+: t.out ∧ logs s t 2 0x7002 0 0 0))

/-- R443, R533 to R535, R539: the TAP's instructions. In a module that is not unsealed, or without the strap, each but IDCODE shifts out
one 0; in an unsealed one they capture and drive the pins, write a raw frame, read and write a core's and stacked memory, halt, step
and change a thread, tell the status, and restore an OWNER key; an access of a core without power is logged. -/
def Sys2Proof.Claims.DebugPort : Prop :=
  ∀ (s : State) (tdi w : Bool) (pins drive : BitVec 352) (frame : List Byte) (addr data : U64) (c : CoreId) (h : ThreadId) (op : DebugOp)
    (key : BitVec 256) (check : U32) (r : Fin 32) (v : U64),
    let enabled := dictGet s keyDebugState = 2 ∧ s.straps.debug = true ∧ s.power.mode = .on
    let u := tapEntered s
    let plain := { s with security := { s.security with extest := false } }
    let shifts (t : State) (n : Nat) (bits : Nat) : State := { t with out := s.out ++ [.tdo n bits] }
    let place : Option Nat :=
      let area := bits (leNat (frame.drop 512)) 16 7
      let f := bits (leNat (frame.drop 512)) 0 16
      if area = 0x7F ∧ f < 5120 then some f else if area < 64 ∧ f < 4608 then some (5120 + 4608 * area + f) else none
    let x := getThread s c h
    (exec (.bypass tdi) s = .next (shifts { s with security := { s.security with bypass := tdi, extest := false } } 1 (if s.security.bypass then 1 else 0)))
    ∧ exec .idcode s = .next (shifts plain 32 0x0B96035F)
    ∧ (¬ enabled → ∀ i ∈ ([.samplePreload pins, .extest drive pins, .bdStatus, .bdFrame frame, .bdMem w addr data, .bdCore c h op,
          .bdOwnerKey key check] : List Instr), ∃ t, exec i s = .next t ∧ tapSilent s t)
    ∧ (enabled →
        exec (.samplePreload pins) s = .next (shifts { s with security := { s.security with boundary := pins, captured := pins, extest := false } } 352 pins.toNat)
        ∧ exec (.extest drive pins) s = .next (shifts { s with security := { s.security with boundary := drive, captured := pins, extest := true } } 352 pins.toNat)
        ∧ exec .bdStatus s = .next (shifts u 5 (2 + 4 + 8 * (s.security.ownerResult % 4)))
        ∧ (place = none → exec (.bdFrame frame) s = .next u)
        ∧ (∀ p, place = some p → 512 ≤ frame.length → ∃ t, exec (.bdFrame frame) s = .next t ∧ changesOnly [.out, .dict, .bar0, .ledger, .fabric, .security] s t
            ∧ cellBytes t p = frame.take 512 ∧ ∀ q, q ≠ p → cellBytes t q = cellBytes s q)
        ∧ (spaceOf addr.toNat = 1 → spaceOk addr.toNat = true → cmCore addr.toNat = c.val → coreOff s c.val = false →
            spaceAddr addr.toNat % coreBytes + 8 ≤ coreBytes →
            let b := spaceAddr addr.toNat % coreBytes
            exec (.bdMem false addr data) s = .next (shifts u 64 (leNat (coreRead (getCore s c).mem b 8)))
            ∧ ∃ t, exec (.bdMem true addr data) s = .next t ∧ coreOnly c s t ∧ coreRead (getCore t c).mem b 8 = natBytes 8 data.toNat
              ∧ ∀ q n, q + n ≤ b ∨ b + 8 ≤ q → coreRead (getCore t c).mem q n = coreRead (getCore s c).mem q n)
        ∧ (coreOff s c.val = false →
            (∃ t, exec (.bdCore c h .halt) s = .next t ∧ coreOnly c s t ∧ getThread t c h = { x with debugHalted := true, debugStep := false })
            ∧ (∃ t, exec (.bdCore c h .resume) s = .next t ∧ coreOnly c s t ∧ getThread t c h = { x with debugHalted := false, debugStep := false })
            ∧ (∃ t, exec (.bdCore c h .step) s = .next t ∧ coreOnly c s t ∧ getThread t c h = { x with debugHalted := false, debugStep := true })
            ∧ exec (.bdCore c h (.readReg r)) s = .next (shifts u 64 (regGet x r.val).toNat)
            ∧ (∃ t, exec (.bdCore c h (.writeReg r v)) s = .next t ∧ coreOnly c s t
                ∧ (∀ q, regGet (getThread t c h) q = if q = r.val ∧ q ≠ 0 then v else regGet x q))
            ∧ exec (.bdCore c h .readPc) s = .next (shifts u 64 x.pc.toNat)
            ∧ (∃ t, exec (.bdCore c h (.writePc v)) s = .next t ∧ coreOnly c s t ∧ getThread t c h = { x with pc := v }))
        ∧ (coreOff s c.val = true → (∃ t, exec (.bdCore c h op) s = .next t ∧ changesOnly [.out, .dict, .bar0, .ledger, .security, .free] s t
              ∧ logs u t 2 0x6001 1 c.val (packData [(8, 2)]))
            ∧ (spaceOf addr.toNat = 1 → spaceOk addr.toNat = true → cmCore addr.toNat = c.val → spaceAddr addr.toNat % coreBytes + 8 ≤ coreBytes →
                ∃ t, exec (.bdMem w addr data) s = .next t ∧ changesOnly [.out, .dict, .bar0, .ledger, .security, .free] s t
                  ∧ logs u t 2 0x6001 1 c.val (packData [(8, 2)])))
        ∧ (keyOfSlot s 3 = none → leNat ((sha256 (natBytes 32 key.toNat)).take 4) = check.toNat → ∃ t, exec (.bdOwnerKey key check) s = .next t
            ∧ t.security.ownerResult = 1 ∧ (∀ k, keyOfSlot t k = if k = 3 then some (natBytes 32 key.toNat) else keyOfSlot s k) ∧ logs s t 2 0x7006 0 0 0)
        ∧ (keyOfSlot s 3 ≠ none ∨ leNat ((sha256 (natBytes 32 key.toNat)).take 4) ≠ check.toNat →
            exec (.bdOwnerKey key check) s = .next { u with security := { u.security with ownerResult := 2 } }))

/-- Keys, unsealing and the debug port. Where the spec leaves a point open, this rests on the model's choices: log entries 69, 70, 72, 73. -/
def Obligations.SecurityAndDebug : Prop := Claims.UnsealSequence ∧ Claims.SecurityWrites ∧ Claims.DebugPort

/-- R546, R549, R553, R561 to R565: a select or window takes effect when its tick has come, and a select word clears its counter; a clear
clears every counter of every powered block; the ledger records the oldest entry that waits, over the oldest of its severity or lower
where it is full; a CRITICAL entry is copied to the critical ring; a freeze ends at its limit. -/
def Sys2Proof.Claims.CountersAndLedger : Prop :=
  ∀ (s : State) (q : PendingSelect) (before later : List PendingSelect) (e d : LedgerEntry) (rest older newer : List LedgerEntry) (sid : U32),
    let x := s.counters
    let y := s.ledger
    let now := s.gtc.toNat / 16
    (x.pending = before ++ q :: later → (∀ p ∈ before, now < p.tick) → q.tick ≤ now → ∃ t, exec .cntSelectApply s = .next t ∧ changesOnly [.counters] s t
        ∧ t.counters = { x with pending := before ++ later, selects := t.counters.selects, values := t.counters.values }
        ∧ (∀ k, mapGet 0 t.counters.selects k = if k = keyOf q.index q.sub then q.value else mapGet 0 x.selects k)
        ∧ ∀ k, mapGet {} t.counters.values k = (match selectSet q.index with
            | some (set, block) => if q.sub ≤ counterCount set ∧ k = counterNumber set block (q.sub - 1) then {} else mapGet {} x.values k
            | none => mapGet {} x.values k))
    ∧ ((∀ p ∈ x.pending, now < p.tick) → exec .cntSelectApply s = .next s)
    ∧ (∀ k, x.clearAt = some k → k ≤ now → ∃ t, exec .cntClearApply s = .next t ∧ changesOnly [.counters] s t
        ∧ t.counters = { x with clearAt := none, values := t.counters.values }
        ∧ ∀ set block i, block ∈ setBlocks set → i < counterCount set → mapGet {} t.counters.values (counterNumber set block i)
            = if blockOff s set block then mapGet {} x.values (counterNumber set block i) else {})
    ∧ ((∀ k, x.clearAt = some k → now < k) → exec .cntClearApply s = .next s)
    ∧ (y.freeze = none → y.queue = e :: rest →
        (y.held.length < 65536 → exec .ledgerRecord s = .next { s with ledger := { y with queue := rest, held := y.held ++ [e] } })
        ∧ (65536 ≤ y.held.length → y.held = older ++ d :: newer → d.sev ≤ e.sev → (∀ o ∈ older, e.sev < o.sev) →
            exec .ledgerRecord s = .next { s with ledger := { y with queue := rest, held := older ++ newer ++ [e] } })
        ∧ (65536 ≤ y.held.length → (∀ o ∈ y.held, e.sev < o.sev) → ∃ t, exec .ledgerRecord s = .next t ∧ changesOnly [.dict, .ledger] s t
            ∧ t.ledger = { y with queue := rest } ∧ dictOnly [keyLedgerDropped] s t ∧ dictGet t keyLedgerDropped = sat32 (dictGet s keyLedgerDropped + 1)))
    ∧ (y.freeze ≠ none ∨ y.queue = [] → exec .ledgerRecord s = .next s)
    ∧ (s.mgmt = .serving → y.uncopied = e :: rest → (∀ o ∈ rest, o.seq ≠ e.seq) → ∃ t, exec .criticalCopy s = .next t ∧ changesOnly [.ledger] s t
        ∧ t.ledger.critRing = (y.critRing ++ [e]).drop (y.critRing.length + 1 - 4096) ∧ t.ledger.critTotal = sat32 (y.critTotal + 1)
        ∧ t.ledger.uncopied = rest ∧ t.ledger.held = y.held.map fun o => if o.seq = e.seq then { o with copied := true } else o)
    ∧ (s.mgmt ≠ .serving ∨ y.uncopied = [] → exec .criticalCopy s = .next s)
    ∧ (y.freeze = some sid → ∃ t, exec .ledgerFreezeLimit s = .next t ∧ changesOnly [.out, .dict, .bar0, .ledger] s t ∧ t.ledger.freeze = none
        ∧ t.ledger.held = y.held
        ∧ logs { s with ledger := { y with freeze := none } } t 1 0x8002 6 sid.toNat (packData [(32, dictGet s keyLedgerMissed), (8, 2)]))
    ∧ (y.freeze = none → exec .ledgerFreezeLimit s = .next s)

/-- R546, R549, R553, R558, R560, R564: select words and windows take effect 4 ticks later, and so does a clear; SAMPLE_CLEAR empties every
sample buffer; the ledger freezes for the session that asks, after what waits is recorded, until it ends the freeze, and is cleared; a
CALENDAR_SET makes calendar time read what it carries. -/
def Sys2Proof.Claims.CounterAndLedgerWrites : Prop :=
  ∀ (s : State) (f : Frame) (x : Session) (e : Entry) (key v : Nat), acceptedWrite s f x e key v →
    let u := writeAnswered s f x
    let y := s.ledger
    let due := s.gtc.toNat / 16 + 4
    (selectSet (key / 256) ≠ none → ∃ t, exec (.cntSelWrite f) s = .next t ∧ changesOnly [.dict, .counters] u t ∧ dictOnly [key] u t ∧ dictGet t key = v
        ∧ t.counters = { s.counters with pending := s.counters.pending ++ [{ index := key / 256, sub := key % 256, value := v, tick := due }] })
    ∧ (key = keyCntClear → v ≠ 0 → exec (.cntClear f) s = .next { u with counters := { s.counters with clearAt := some due } })
    ∧ (key = keySampleClear → v ≠ 0 → canonicalCores s → ∃ t, exec (.sampleClear f) s = .next t ∧ changesOnly [.cores, .sampleInit] u t
        ∧ t.sampleInit = { seed := BitVec.ofNat 16 (dictGet s keySampleSeed), period := dictGet s keySamplePeriod, jitter := dictGet s keySampleJitter }
        ∧ ∀ c : CoreId, getCore t c = { getCore s c with sampling := none })
    ∧ (key = keyLedgerFreeze → v = 1 → y.freeze = none → y.held.length + y.queue.length ≤ 65536 → ∃ t, exec (.ledgerFreeze f) s = .next t
        ∧ changesOnly [.dict, .ledger] u t ∧ t.ledger = { y with queue := [], held := y.held ++ y.queue, freeze := some x.sid } ∧ dictGet t keyLedgerMissed = 0)
    ∧ (key = keyLedgerFreeze → v = 1 → y.freeze ≠ none → exec (.ledgerFreeze f) s = .next u)
    ∧ (key = keyLedgerFreeze → v = 0 → y.freeze ≠ none → ∃ t, exec (.ledgerUnfreeze f) s = .next t ∧ t.ledger.freeze = none ∧ t.ledger.held = y.held
        ∧ changesOnly [.out, .dict, .bar0, .ledger] u t
        ∧ logs { s with ledger := { y with freeze := none } } t 1 0x8002 6 x.sid.toNat (packData [(32, dictGet s keyLedgerMissed), (8, 0)]))
    ∧ (key = keyLedgerFreeze → v = 0 → y.freeze = none → exec (.ledgerUnfreeze f) s = .next u)
    ∧ (key = keyLedgerClear → v ≠ 0 → ∃ t, exec (.ledgerClear f) s = .next t ∧ t.ledger.held = [] ∧ changesOnly [.out, .dict, .bar0, .ledger] u t
        ∧ logs s t 1 0x8001 6 x.sid.toNat (packData [(32, y.held.length)]))
    ∧ (key = keyCalendarSet → ∃ t, exec (.calendarSet f) s = .next t ∧ calendar t = BitVec.ofNat 64 v ∧ t.calendarValid = true
        ∧ changesOnly [.epoch, .calendarValid] u t)

/-- Counters, sampling, the ledger and calendar time. Where the spec leaves a point open, this rests on the model's choices: log entries 7, 22, 23, 24, 25, 26. -/
def Obligations.CountersAndLedger : Prop := Claims.CountersAndLedger ∧ Claims.CounterAndLedgerWrites
end

