-- ==== Sys2Proof/Laws/Word.lean ====
section
/-! SUPPORT. Laws of numbers as little-endian bytes (R7). -/

namespace Sys2Proof

@[simp] theorem natBytes_length (k n : Nat) : (natBytes k n).length = k := by
  induction k generalizing n with
  | zero => rfl
  | succ k ih => simp [natBytes, ih]

/-- A number of `n` bytes is less than 256 to the power `n`. -/
theorem leNat_lt (l : List Byte) : leNat l < 2 ^ (8 * l.length) := by
  induction l with
  | nil => decide
  | cons b t ih =>
    have hb : b.toNat < 256 := b.isLt
    have e : 2 ^ (8 * (b :: t).length) = 256 * 2 ^ (8 * t.length) := by
      rw [List.length_cons, Nat.mul_succ, Nat.pow_add, Nat.mul_comm]
    simp only [leNat, e]
    omega

/-- The bytes of a number give the number back, but for what they cannot hold. -/
theorem leNat_natBytes (k n : Nat) : leNat (natBytes k n) = n % 2 ^ (8 * k) := by
  induction k generalizing n with
  | zero => simp [natBytes, leNat, Nat.mod_one]
  | succ k ih =>
    have e : 2 ^ (8 * (k + 1)) = 256 * 2 ^ (8 * k) := by rw [Nat.mul_succ, Nat.pow_add, Nat.mul_comm]
    simp only [natBytes, leNat, ih, e, Nat.mod_mul, BitVec.toNat_ofNat]

/-- A list of bytes is the bytes of its number. -/
theorem natBytes_leNat (l : List Byte) : natBytes l.length (leNat l) = l := by
  induction l with
  | nil => rfl
  | cons b t ih =>
    have hb : b.toNat < 256 := b.isLt
    have h1 : (b.toNat + 256 * leNat t) / 256 = leNat t := by omega
    have h2 : BitVec.ofNat 8 (b.toNat + 256 * leNat t) = b := by
      apply BitVec.eq_of_toNat_eq
      rw [BitVec.toNat_ofNat]
      omega
    simp only [List.length_cons, natBytes, leNat, h1, h2, ih]

end Sys2Proof
end

