-- ==== Sys2Proof/Laws/Crypto.lean ====
section
/-! SUPPORT. The lengths of what big-endian numbers, the hashes and HMAC give as bytes (R65, R66, R531). -/

namespace Sys2Proof.Machine

@[simp] theorem beBytes_length (k n : Nat) : (beBytes k n).length = k := by simp [beBytes]

/-- A round keeps the number of working variables. -/
theorem shaRound_length {w : Nat} (f : Sha w) (v : List (BitVec w)) (kw : BitVec w × BitVec w) : (shaRound f v kw).length = v.length := by
  unfold shaRound; split <;> rfl

theorem shaRounds_length {w : Nat} (f : Sha w) (l : List (BitVec w × BitVec w)) (v : List (BitVec w)) :
    (l.foldl (shaRound f) v).length = v.length := by
  induction l generalizing v with
  | nil => rfl
  | cons kw t ih => rw [List.foldl_cons, ih, shaRound_length]

/-- A block keeps the number of words of the hash. -/
theorem shaBlock_length {w : Nat} (f : Sha w) (h block : List (BitVec w)) : (shaBlock f h block).length = h.length := by
  simp [shaBlock, shaRounds_length]

/-- A hash is as long as its initial value. -/
theorem shaHash_length {w : Nat} (f : Sha w) (init : List (BitVec w)) (m : List Byte) : (shaHash f init m).length = init.length * (w / 8) := by
  have blocks : ∀ (l : List (List Byte)) (h : List (BitVec w)),
      (l.foldl (fun h b => shaBlock f h ((pieces (w / 8) b).map fun x => BitVec.ofNat w (beNat x))) h).length = h.length := by
    intro l
    induction l with
    | nil => intro h; rfl
    | cons b t ih => intro h; rw [List.foldl_cons, ih, shaBlock_length]
  have flat : ∀ l : List (BitVec w), (l.flatMap fun x => beBytes (w / 8) x.toNat).length = l.length * (w / 8) := by
    intro l
    induction l with
    | nil => simp
    | cons x t ih => rw [List.flatMap_cons, List.length_append, ih, beBytes_length, List.length_cons, Nat.succ_mul, Nat.add_comm]
  unfold shaHash
  simp only [flat, blocks]

@[simp] theorem sha256_length (m : List Byte) : (sha256 m).length = 32 := by simp [sha256, shaHash_length, sha256Init]

@[simp] theorem hmac256_length (key m : List Byte) : (hmac256 key m).length = 32 := by simp [hmac256]

end Sys2Proof.Machine
end

