-- ==== Sys2Proof/Laws/State.lean ====
section
/-! SUPPORT. The state under each update: one lemma per field, and what an accessor reads after its own update. -/

namespace Sys2Proof.Machine

/-! Fields. -/

@[simp] theorem dictSet_pending (s : State) (key v : Nat) : (dictSet s key v).pending = s.pending := rfl
@[simp] theorem dictSet_out (s : State) (key v : Nat) : (dictSet s key v).out = s.out := rfl
@[simp] theorem dictSet_free (s : State) (key v : Nat) : (dictSet s key v).free = s.free := rfl
@[simp] theorem dictSet_gtc (s : State) (key v : Nat) : (dictSet s key v).gtc = s.gtc := rfl
@[simp] theorem dictSet_fuses (s : State) (key v : Nat) : (dictSet s key v).fuses = s.fuses := rfl
@[simp] theorem dictSet_straps (s : State) (key v : Nat) : (dictSet s key v).straps = s.straps := rfl
@[simp] theorem dictSet_dict (s : State) (key v : Nat) : (dictSet s key v).dict = dictPut s.dict key v := rfl
@[simp] theorem dictSet_cores (s : State) (key v : Nat) : (dictSet s key v).cores = s.cores := rfl
@[simp] theorem dictSet_sampleInit (s : State) (key v : Nat) : (dictSet s key v).sampleInit = s.sampleInit := rfl
@[simp] theorem dictSet_caravans (s : State) (key v : Nat) : (dictSet s key v).caravans = s.caravans := rfl
@[simp] theorem dictSet_banks (s : State) (key v : Nat) : (dictSet s key v).banks = s.banks := rfl
@[simp] theorem dictSet_queues (s : State) (key v : Nat) : (dictSet s key v).queues = s.queues := rfl
@[simp] theorem dictSet_bar0 (s : State) (key v : Nat) : (dictSet s key v).bar0 = s.bar0 := rfl
@[simp] theorem dictSet_pcie (s : State) (key v : Nat) : (dictSet s key v).pcie = s.pcie := rfl
@[simp] theorem dictSet_net (s : State) (key v : Nat) : (dictSet s key v).net = s.net := rfl
@[simp] theorem dictSet_links (s : State) (key v : Nat) : (dictSet s key v).links = s.links := rfl
@[simp] theorem dictSet_lockstep (s : State) (key v : Nat) : (dictSet s key v).lockstep = s.lockstep := rfl
@[simp] theorem dictSet_stacked (s : State) (key v : Nat) : (dictSet s key v).stacked = s.stacked := rfl
@[simp] theorem dictSet_counters (s : State) (key v : Nat) : (dictSet s key v).counters = s.counters := rfl
@[simp] theorem dictSet_ledger (s : State) (key v : Nat) : (dictSet s key v).ledger = s.ledger := rfl
@[simp] theorem dictSet_epoch (s : State) (key v : Nat) : (dictSet s key v).epoch = s.epoch := rfl
@[simp] theorem dictSet_calendarValid (s : State) (key v : Nat) : (dictSet s key v).calendarValid = s.calendarValid := rfl
@[simp] theorem dictSet_power (s : State) (key v : Nat) : (dictSet s key v).power = s.power := rfl
@[simp] theorem dictSet_fabric (s : State) (key v : Nat) : (dictSet s key v).fabric = s.fabric := rfl
@[simp] theorem dictSet_sessions (s : State) (key v : Nat) : (dictSet s key v).sessions = s.sessions := rfl
@[simp] theorem dictSet_mgmt (s : State) (key v : Nat) : (dictSet s key v).mgmt = s.mgmt := rfl
@[simp] theorem dictSet_complex (s : State) (key v : Nat) : (dictSet s key v).complex = s.complex := rfl
@[simp] theorem dictSet_security (s : State) (key v : Nat) : (dictSet s key v).security = s.security := rfl

@[simp] theorem dictBump_pending (s : State) (key n : Nat) : (dictBump s key n).pending = s.pending := rfl
@[simp] theorem dictBump_out (s : State) (key n : Nat) : (dictBump s key n).out = s.out := rfl
@[simp] theorem dictBump_free (s : State) (key n : Nat) : (dictBump s key n).free = s.free := rfl
@[simp] theorem dictBump_gtc (s : State) (key n : Nat) : (dictBump s key n).gtc = s.gtc := rfl
@[simp] theorem dictBump_fuses (s : State) (key n : Nat) : (dictBump s key n).fuses = s.fuses := rfl
@[simp] theorem dictBump_straps (s : State) (key n : Nat) : (dictBump s key n).straps = s.straps := rfl
@[simp] theorem dictBump_dict (s : State) (key n : Nat) : (dictBump s key n).dict = dictPut s.dict key (sat32 (dictGet s key + n)) := rfl
@[simp] theorem dictBump_cores (s : State) (key n : Nat) : (dictBump s key n).cores = s.cores := rfl
@[simp] theorem dictBump_sampleInit (s : State) (key n : Nat) : (dictBump s key n).sampleInit = s.sampleInit := rfl
@[simp] theorem dictBump_caravans (s : State) (key n : Nat) : (dictBump s key n).caravans = s.caravans := rfl
@[simp] theorem dictBump_banks (s : State) (key n : Nat) : (dictBump s key n).banks = s.banks := rfl
@[simp] theorem dictBump_queues (s : State) (key n : Nat) : (dictBump s key n).queues = s.queues := rfl
@[simp] theorem dictBump_bar0 (s : State) (key n : Nat) : (dictBump s key n).bar0 = s.bar0 := rfl
@[simp] theorem dictBump_pcie (s : State) (key n : Nat) : (dictBump s key n).pcie = s.pcie := rfl
@[simp] theorem dictBump_net (s : State) (key n : Nat) : (dictBump s key n).net = s.net := rfl
@[simp] theorem dictBump_links (s : State) (key n : Nat) : (dictBump s key n).links = s.links := rfl
@[simp] theorem dictBump_lockstep (s : State) (key n : Nat) : (dictBump s key n).lockstep = s.lockstep := rfl
@[simp] theorem dictBump_stacked (s : State) (key n : Nat) : (dictBump s key n).stacked = s.stacked := rfl
@[simp] theorem dictBump_counters (s : State) (key n : Nat) : (dictBump s key n).counters = s.counters := rfl
@[simp] theorem dictBump_ledger (s : State) (key n : Nat) : (dictBump s key n).ledger = s.ledger := rfl
@[simp] theorem dictBump_epoch (s : State) (key n : Nat) : (dictBump s key n).epoch = s.epoch := rfl
@[simp] theorem dictBump_calendarValid (s : State) (key n : Nat) : (dictBump s key n).calendarValid = s.calendarValid := rfl
@[simp] theorem dictBump_power (s : State) (key n : Nat) : (dictBump s key n).power = s.power := rfl
@[simp] theorem dictBump_fabric (s : State) (key n : Nat) : (dictBump s key n).fabric = s.fabric := rfl
@[simp] theorem dictBump_sessions (s : State) (key n : Nat) : (dictBump s key n).sessions = s.sessions := rfl
@[simp] theorem dictBump_mgmt (s : State) (key n : Nat) : (dictBump s key n).mgmt = s.mgmt := rfl
@[simp] theorem dictBump_complex (s : State) (key n : Nat) : (dictBump s key n).complex = s.complex := rfl
@[simp] theorem dictBump_security (s : State) (key n : Nat) : (dictBump s key n).security = s.security := rfl

@[simp] theorem useFree_pending (s : State) (n : Nat) : (useFree s n).pending = s.pending := rfl
@[simp] theorem useFree_out (s : State) (n : Nat) : (useFree s n).out = s.out := rfl
@[simp] theorem useFree_free (s : State) (n : Nat) : (useFree s n).free = s.free + n := rfl
@[simp] theorem useFree_gtc (s : State) (n : Nat) : (useFree s n).gtc = s.gtc := rfl
@[simp] theorem useFree_fuses (s : State) (n : Nat) : (useFree s n).fuses = s.fuses := rfl
@[simp] theorem useFree_straps (s : State) (n : Nat) : (useFree s n).straps = s.straps := rfl
@[simp] theorem useFree_dict (s : State) (n : Nat) : (useFree s n).dict = s.dict := rfl
@[simp] theorem useFree_cores (s : State) (n : Nat) : (useFree s n).cores = s.cores := rfl
@[simp] theorem useFree_sampleInit (s : State) (n : Nat) : (useFree s n).sampleInit = s.sampleInit := rfl
@[simp] theorem useFree_caravans (s : State) (n : Nat) : (useFree s n).caravans = s.caravans := rfl
@[simp] theorem useFree_banks (s : State) (n : Nat) : (useFree s n).banks = s.banks := rfl
@[simp] theorem useFree_queues (s : State) (n : Nat) : (useFree s n).queues = s.queues := rfl
@[simp] theorem useFree_bar0 (s : State) (n : Nat) : (useFree s n).bar0 = s.bar0 := rfl
@[simp] theorem useFree_pcie (s : State) (n : Nat) : (useFree s n).pcie = s.pcie := rfl
@[simp] theorem useFree_net (s : State) (n : Nat) : (useFree s n).net = s.net := rfl
@[simp] theorem useFree_links (s : State) (n : Nat) : (useFree s n).links = s.links := rfl
@[simp] theorem useFree_lockstep (s : State) (n : Nat) : (useFree s n).lockstep = s.lockstep := rfl
@[simp] theorem useFree_stacked (s : State) (n : Nat) : (useFree s n).stacked = s.stacked := rfl
@[simp] theorem useFree_counters (s : State) (n : Nat) : (useFree s n).counters = s.counters := rfl
@[simp] theorem useFree_ledger (s : State) (n : Nat) : (useFree s n).ledger = s.ledger := rfl
@[simp] theorem useFree_epoch (s : State) (n : Nat) : (useFree s n).epoch = s.epoch := rfl
@[simp] theorem useFree_calendarValid (s : State) (n : Nat) : (useFree s n).calendarValid = s.calendarValid := rfl
@[simp] theorem useFree_power (s : State) (n : Nat) : (useFree s n).power = s.power := rfl
@[simp] theorem useFree_fabric (s : State) (n : Nat) : (useFree s n).fabric = s.fabric := rfl
@[simp] theorem useFree_sessions (s : State) (n : Nat) : (useFree s n).sessions = s.sessions := rfl
@[simp] theorem useFree_mgmt (s : State) (n : Nat) : (useFree s n).mgmt = s.mgmt := rfl
@[simp] theorem useFree_complex (s : State) (n : Nat) : (useFree s n).complex = s.complex := rfl
@[simp] theorem useFree_security (s : State) (n : Nat) : (useFree s n).security = s.security := rfl

@[simp] theorem setCore_pending (s : State) (c : CoreId) (k : Core) : (setCore s c k).pending = s.pending := rfl
@[simp] theorem setCore_out (s : State) (c : CoreId) (k : Core) : (setCore s c k).out = s.out := rfl
@[simp] theorem setCore_free (s : State) (c : CoreId) (k : Core) : (setCore s c k).free = s.free := rfl
@[simp] theorem setCore_gtc (s : State) (c : CoreId) (k : Core) : (setCore s c k).gtc = s.gtc := rfl
@[simp] theorem setCore_fuses (s : State) (c : CoreId) (k : Core) : (setCore s c k).fuses = s.fuses := rfl
@[simp] theorem setCore_straps (s : State) (c : CoreId) (k : Core) : (setCore s c k).straps = s.straps := rfl
@[simp] theorem setCore_dict (s : State) (c : CoreId) (k : Core) : (setCore s c k).dict = s.dict := rfl
@[simp] theorem setCore_cores (s : State) (c : CoreId) (k : Core) : (setCore s c k).cores = mapSet {} s.cores c.val k := rfl
@[simp] theorem setCore_sampleInit (s : State) (c : CoreId) (k : Core) : (setCore s c k).sampleInit = s.sampleInit := rfl
@[simp] theorem setCore_caravans (s : State) (c : CoreId) (k : Core) : (setCore s c k).caravans = s.caravans := rfl
@[simp] theorem setCore_banks (s : State) (c : CoreId) (k : Core) : (setCore s c k).banks = s.banks := rfl
@[simp] theorem setCore_queues (s : State) (c : CoreId) (k : Core) : (setCore s c k).queues = s.queues := rfl
@[simp] theorem setCore_bar0 (s : State) (c : CoreId) (k : Core) : (setCore s c k).bar0 = s.bar0 := rfl
@[simp] theorem setCore_pcie (s : State) (c : CoreId) (k : Core) : (setCore s c k).pcie = s.pcie := rfl
@[simp] theorem setCore_net (s : State) (c : CoreId) (k : Core) : (setCore s c k).net = s.net := rfl
@[simp] theorem setCore_links (s : State) (c : CoreId) (k : Core) : (setCore s c k).links = s.links := rfl
@[simp] theorem setCore_lockstep (s : State) (c : CoreId) (k : Core) : (setCore s c k).lockstep = s.lockstep := rfl
@[simp] theorem setCore_stacked (s : State) (c : CoreId) (k : Core) : (setCore s c k).stacked = s.stacked := rfl
@[simp] theorem setCore_counters (s : State) (c : CoreId) (k : Core) : (setCore s c k).counters = s.counters := rfl
@[simp] theorem setCore_ledger (s : State) (c : CoreId) (k : Core) : (setCore s c k).ledger = s.ledger := rfl
@[simp] theorem setCore_epoch (s : State) (c : CoreId) (k : Core) : (setCore s c k).epoch = s.epoch := rfl
@[simp] theorem setCore_calendarValid (s : State) (c : CoreId) (k : Core) : (setCore s c k).calendarValid = s.calendarValid := rfl
@[simp] theorem setCore_power (s : State) (c : CoreId) (k : Core) : (setCore s c k).power = s.power := rfl
@[simp] theorem setCore_fabric (s : State) (c : CoreId) (k : Core) : (setCore s c k).fabric = s.fabric := rfl
@[simp] theorem setCore_sessions (s : State) (c : CoreId) (k : Core) : (setCore s c k).sessions = s.sessions := rfl
@[simp] theorem setCore_mgmt (s : State) (c : CoreId) (k : Core) : (setCore s c k).mgmt = s.mgmt := rfl
@[simp] theorem setCore_complex (s : State) (c : CoreId) (k : Core) : (setCore s c k).complex = s.complex := rfl
@[simp] theorem setCore_security (s : State) (c : CoreId) (k : Core) : (setCore s c k).security = s.security := rfl

@[simp] theorem setCc_pending (s : State) (c : CoreId) (k : ControlCore) : (setCc s c k).pending = s.pending := rfl
@[simp] theorem setCc_out (s : State) (c : CoreId) (k : ControlCore) : (setCc s c k).out = s.out := rfl
@[simp] theorem setCc_free (s : State) (c : CoreId) (k : ControlCore) : (setCc s c k).free = s.free := rfl
@[simp] theorem setCc_gtc (s : State) (c : CoreId) (k : ControlCore) : (setCc s c k).gtc = s.gtc := rfl
@[simp] theorem setCc_fuses (s : State) (c : CoreId) (k : ControlCore) : (setCc s c k).fuses = s.fuses := rfl
@[simp] theorem setCc_straps (s : State) (c : CoreId) (k : ControlCore) : (setCc s c k).straps = s.straps := rfl
@[simp] theorem setCc_dict (s : State) (c : CoreId) (k : ControlCore) : (setCc s c k).dict = s.dict := rfl
@[simp] theorem setCc_sampleInit (s : State) (c : CoreId) (k : ControlCore) : (setCc s c k).sampleInit = s.sampleInit := rfl
@[simp] theorem setCc_caravans (s : State) (c : CoreId) (k : ControlCore) : (setCc s c k).caravans = s.caravans := rfl
@[simp] theorem setCc_banks (s : State) (c : CoreId) (k : ControlCore) : (setCc s c k).banks = s.banks := rfl
@[simp] theorem setCc_queues (s : State) (c : CoreId) (k : ControlCore) : (setCc s c k).queues = s.queues := rfl
@[simp] theorem setCc_bar0 (s : State) (c : CoreId) (k : ControlCore) : (setCc s c k).bar0 = s.bar0 := rfl
@[simp] theorem setCc_pcie (s : State) (c : CoreId) (k : ControlCore) : (setCc s c k).pcie = s.pcie := rfl
@[simp] theorem setCc_net (s : State) (c : CoreId) (k : ControlCore) : (setCc s c k).net = s.net := rfl
@[simp] theorem setCc_links (s : State) (c : CoreId) (k : ControlCore) : (setCc s c k).links = s.links := rfl
@[simp] theorem setCc_lockstep (s : State) (c : CoreId) (k : ControlCore) : (setCc s c k).lockstep = s.lockstep := rfl
@[simp] theorem setCc_stacked (s : State) (c : CoreId) (k : ControlCore) : (setCc s c k).stacked = s.stacked := rfl
@[simp] theorem setCc_counters (s : State) (c : CoreId) (k : ControlCore) : (setCc s c k).counters = s.counters := rfl
@[simp] theorem setCc_ledger (s : State) (c : CoreId) (k : ControlCore) : (setCc s c k).ledger = s.ledger := rfl
@[simp] theorem setCc_epoch (s : State) (c : CoreId) (k : ControlCore) : (setCc s c k).epoch = s.epoch := rfl
@[simp] theorem setCc_calendarValid (s : State) (c : CoreId) (k : ControlCore) : (setCc s c k).calendarValid = s.calendarValid := rfl
@[simp] theorem setCc_power (s : State) (c : CoreId) (k : ControlCore) : (setCc s c k).power = s.power := rfl
@[simp] theorem setCc_fabric (s : State) (c : CoreId) (k : ControlCore) : (setCc s c k).fabric = s.fabric := rfl
@[simp] theorem setCc_sessions (s : State) (c : CoreId) (k : ControlCore) : (setCc s c k).sessions = s.sessions := rfl
@[simp] theorem setCc_mgmt (s : State) (c : CoreId) (k : ControlCore) : (setCc s c k).mgmt = s.mgmt := rfl
@[simp] theorem setCc_complex (s : State) (c : CoreId) (k : ControlCore) : (setCc s c k).complex = s.complex := rfl
@[simp] theorem setCc_security (s : State) (c : CoreId) (k : ControlCore) : (setCc s c k).security = s.security := rfl

@[simp] theorem setThread_pending (s : State) (c : CoreId) (t : ThreadId) (x : Thread) : (setThread s c t x).pending = s.pending := rfl
@[simp] theorem setThread_out (s : State) (c : CoreId) (t : ThreadId) (x : Thread) : (setThread s c t x).out = s.out := rfl
@[simp] theorem setThread_free (s : State) (c : CoreId) (t : ThreadId) (x : Thread) : (setThread s c t x).free = s.free := rfl
@[simp] theorem setThread_gtc (s : State) (c : CoreId) (t : ThreadId) (x : Thread) : (setThread s c t x).gtc = s.gtc := rfl
@[simp] theorem setThread_fuses (s : State) (c : CoreId) (t : ThreadId) (x : Thread) : (setThread s c t x).fuses = s.fuses := rfl
@[simp] theorem setThread_straps (s : State) (c : CoreId) (t : ThreadId) (x : Thread) : (setThread s c t x).straps = s.straps := rfl
@[simp] theorem setThread_dict (s : State) (c : CoreId) (t : ThreadId) (x : Thread) : (setThread s c t x).dict = s.dict := rfl
@[simp] theorem setThread_sampleInit (s : State) (c : CoreId) (t : ThreadId) (x : Thread) : (setThread s c t x).sampleInit = s.sampleInit := rfl
@[simp] theorem setThread_caravans (s : State) (c : CoreId) (t : ThreadId) (x : Thread) : (setThread s c t x).caravans = s.caravans := rfl
@[simp] theorem setThread_banks (s : State) (c : CoreId) (t : ThreadId) (x : Thread) : (setThread s c t x).banks = s.banks := rfl
@[simp] theorem setThread_queues (s : State) (c : CoreId) (t : ThreadId) (x : Thread) : (setThread s c t x).queues = s.queues := rfl
@[simp] theorem setThread_bar0 (s : State) (c : CoreId) (t : ThreadId) (x : Thread) : (setThread s c t x).bar0 = s.bar0 := rfl
@[simp] theorem setThread_pcie (s : State) (c : CoreId) (t : ThreadId) (x : Thread) : (setThread s c t x).pcie = s.pcie := rfl
@[simp] theorem setThread_net (s : State) (c : CoreId) (t : ThreadId) (x : Thread) : (setThread s c t x).net = s.net := rfl
@[simp] theorem setThread_links (s : State) (c : CoreId) (t : ThreadId) (x : Thread) : (setThread s c t x).links = s.links := rfl
@[simp] theorem setThread_lockstep (s : State) (c : CoreId) (t : ThreadId) (x : Thread) : (setThread s c t x).lockstep = s.lockstep := rfl
@[simp] theorem setThread_stacked (s : State) (c : CoreId) (t : ThreadId) (x : Thread) : (setThread s c t x).stacked = s.stacked := rfl
@[simp] theorem setThread_counters (s : State) (c : CoreId) (t : ThreadId) (x : Thread) : (setThread s c t x).counters = s.counters := rfl
@[simp] theorem setThread_ledger (s : State) (c : CoreId) (t : ThreadId) (x : Thread) : (setThread s c t x).ledger = s.ledger := rfl
@[simp] theorem setThread_epoch (s : State) (c : CoreId) (t : ThreadId) (x : Thread) : (setThread s c t x).epoch = s.epoch := rfl
@[simp] theorem setThread_calendarValid (s : State) (c : CoreId) (t : ThreadId) (x : Thread) : (setThread s c t x).calendarValid = s.calendarValid := rfl
@[simp] theorem setThread_power (s : State) (c : CoreId) (t : ThreadId) (x : Thread) : (setThread s c t x).power = s.power := rfl
@[simp] theorem setThread_fabric (s : State) (c : CoreId) (t : ThreadId) (x : Thread) : (setThread s c t x).fabric = s.fabric := rfl
@[simp] theorem setThread_sessions (s : State) (c : CoreId) (t : ThreadId) (x : Thread) : (setThread s c t x).sessions = s.sessions := rfl
@[simp] theorem setThread_mgmt (s : State) (c : CoreId) (t : ThreadId) (x : Thread) : (setThread s c t x).mgmt = s.mgmt := rfl
@[simp] theorem setThread_complex (s : State) (c : CoreId) (t : ThreadId) (x : Thread) : (setThread s c t x).complex = s.complex := rfl
@[simp] theorem setThread_security (s : State) (c : CoreId) (t : ThreadId) (x : Thread) : (setThread s c t x).security = s.security := rfl

@[simp] theorem setCv_pending (s : State) (v : Nat) (x : Caravan) : (setCv s v x).pending = s.pending := rfl
@[simp] theorem setCv_out (s : State) (v : Nat) (x : Caravan) : (setCv s v x).out = s.out := rfl
@[simp] theorem setCv_free (s : State) (v : Nat) (x : Caravan) : (setCv s v x).free = s.free := rfl
@[simp] theorem setCv_gtc (s : State) (v : Nat) (x : Caravan) : (setCv s v x).gtc = s.gtc := rfl
@[simp] theorem setCv_fuses (s : State) (v : Nat) (x : Caravan) : (setCv s v x).fuses = s.fuses := rfl
@[simp] theorem setCv_straps (s : State) (v : Nat) (x : Caravan) : (setCv s v x).straps = s.straps := rfl
@[simp] theorem setCv_dict (s : State) (v : Nat) (x : Caravan) : (setCv s v x).dict = s.dict := rfl
@[simp] theorem setCv_cores (s : State) (v : Nat) (x : Caravan) : (setCv s v x).cores = s.cores := rfl
@[simp] theorem setCv_sampleInit (s : State) (v : Nat) (x : Caravan) : (setCv s v x).sampleInit = s.sampleInit := rfl
@[simp] theorem setCv_caravans (s : State) (v : Nat) (x : Caravan) : (setCv s v x).caravans = mapSet {} s.caravans v x := rfl
@[simp] theorem setCv_banks (s : State) (v : Nat) (x : Caravan) : (setCv s v x).banks = s.banks := rfl
@[simp] theorem setCv_queues (s : State) (v : Nat) (x : Caravan) : (setCv s v x).queues = s.queues := rfl
@[simp] theorem setCv_bar0 (s : State) (v : Nat) (x : Caravan) : (setCv s v x).bar0 = s.bar0 := rfl
@[simp] theorem setCv_pcie (s : State) (v : Nat) (x : Caravan) : (setCv s v x).pcie = s.pcie := rfl
@[simp] theorem setCv_net (s : State) (v : Nat) (x : Caravan) : (setCv s v x).net = s.net := rfl
@[simp] theorem setCv_links (s : State) (v : Nat) (x : Caravan) : (setCv s v x).links = s.links := rfl
@[simp] theorem setCv_lockstep (s : State) (v : Nat) (x : Caravan) : (setCv s v x).lockstep = s.lockstep := rfl
@[simp] theorem setCv_stacked (s : State) (v : Nat) (x : Caravan) : (setCv s v x).stacked = s.stacked := rfl
@[simp] theorem setCv_counters (s : State) (v : Nat) (x : Caravan) : (setCv s v x).counters = s.counters := rfl
@[simp] theorem setCv_ledger (s : State) (v : Nat) (x : Caravan) : (setCv s v x).ledger = s.ledger := rfl
@[simp] theorem setCv_epoch (s : State) (v : Nat) (x : Caravan) : (setCv s v x).epoch = s.epoch := rfl
@[simp] theorem setCv_calendarValid (s : State) (v : Nat) (x : Caravan) : (setCv s v x).calendarValid = s.calendarValid := rfl
@[simp] theorem setCv_power (s : State) (v : Nat) (x : Caravan) : (setCv s v x).power = s.power := rfl
@[simp] theorem setCv_fabric (s : State) (v : Nat) (x : Caravan) : (setCv s v x).fabric = s.fabric := rfl
@[simp] theorem setCv_sessions (s : State) (v : Nat) (x : Caravan) : (setCv s v x).sessions = s.sessions := rfl
@[simp] theorem setCv_mgmt (s : State) (v : Nat) (x : Caravan) : (setCv s v x).mgmt = s.mgmt := rfl
@[simp] theorem setCv_complex (s : State) (v : Nat) (x : Caravan) : (setCv s v x).complex = s.complex := rfl
@[simp] theorem setCv_security (s : State) (v : Nat) (x : Caravan) : (setCv s v x).security = s.security := rfl

@[simp] theorem setRing_pending (s : State) (r : Nat) (x : Ring) : (setRing s r x).pending = s.pending := rfl
@[simp] theorem setRing_out (s : State) (r : Nat) (x : Ring) : (setRing s r x).out = s.out := rfl
@[simp] theorem setRing_free (s : State) (r : Nat) (x : Ring) : (setRing s r x).free = s.free := rfl
@[simp] theorem setRing_gtc (s : State) (r : Nat) (x : Ring) : (setRing s r x).gtc = s.gtc := rfl
@[simp] theorem setRing_fuses (s : State) (r : Nat) (x : Ring) : (setRing s r x).fuses = s.fuses := rfl
@[simp] theorem setRing_straps (s : State) (r : Nat) (x : Ring) : (setRing s r x).straps = s.straps := rfl
@[simp] theorem setRing_dict (s : State) (r : Nat) (x : Ring) : (setRing s r x).dict = s.dict := rfl
@[simp] theorem setRing_cores (s : State) (r : Nat) (x : Ring) : (setRing s r x).cores = s.cores := rfl
@[simp] theorem setRing_sampleInit (s : State) (r : Nat) (x : Ring) : (setRing s r x).sampleInit = s.sampleInit := rfl
@[simp] theorem setRing_caravans (s : State) (r : Nat) (x : Ring) : (setRing s r x).caravans = s.caravans := rfl
@[simp] theorem setRing_banks (s : State) (r : Nat) (x : Ring) : (setRing s r x).banks = s.banks := rfl
@[simp] theorem setRing_bar0 (s : State) (r : Nat) (x : Ring) : (setRing s r x).bar0 = s.bar0 := rfl
@[simp] theorem setRing_pcie (s : State) (r : Nat) (x : Ring) : (setRing s r x).pcie = s.pcie := rfl
@[simp] theorem setRing_net (s : State) (r : Nat) (x : Ring) : (setRing s r x).net = s.net := rfl
@[simp] theorem setRing_links (s : State) (r : Nat) (x : Ring) : (setRing s r x).links = s.links := rfl
@[simp] theorem setRing_lockstep (s : State) (r : Nat) (x : Ring) : (setRing s r x).lockstep = s.lockstep := rfl
@[simp] theorem setRing_stacked (s : State) (r : Nat) (x : Ring) : (setRing s r x).stacked = s.stacked := rfl
@[simp] theorem setRing_counters (s : State) (r : Nat) (x : Ring) : (setRing s r x).counters = s.counters := rfl
@[simp] theorem setRing_ledger (s : State) (r : Nat) (x : Ring) : (setRing s r x).ledger = s.ledger := rfl
@[simp] theorem setRing_epoch (s : State) (r : Nat) (x : Ring) : (setRing s r x).epoch = s.epoch := rfl
@[simp] theorem setRing_calendarValid (s : State) (r : Nat) (x : Ring) : (setRing s r x).calendarValid = s.calendarValid := rfl
@[simp] theorem setRing_power (s : State) (r : Nat) (x : Ring) : (setRing s r x).power = s.power := rfl
@[simp] theorem setRing_fabric (s : State) (r : Nat) (x : Ring) : (setRing s r x).fabric = s.fabric := rfl
@[simp] theorem setRing_sessions (s : State) (r : Nat) (x : Ring) : (setRing s r x).sessions = s.sessions := rfl
@[simp] theorem setRing_mgmt (s : State) (r : Nat) (x : Ring) : (setRing s r x).mgmt = s.mgmt := rfl
@[simp] theorem setRing_complex (s : State) (r : Nat) (x : Ring) : (setRing s r x).complex = s.complex := rfl
@[simp] theorem setRing_security (s : State) (r : Nat) (x : Ring) : (setRing s r x).security = s.security := rfl

@[simp] theorem setSe_pending (s : State) (e : Nat) (x : SigEngine) : (setSe s e x).pending = s.pending := rfl
@[simp] theorem setSe_out (s : State) (e : Nat) (x : SigEngine) : (setSe s e x).out = s.out := rfl
@[simp] theorem setSe_free (s : State) (e : Nat) (x : SigEngine) : (setSe s e x).free = s.free := rfl
@[simp] theorem setSe_gtc (s : State) (e : Nat) (x : SigEngine) : (setSe s e x).gtc = s.gtc := rfl
@[simp] theorem setSe_fuses (s : State) (e : Nat) (x : SigEngine) : (setSe s e x).fuses = s.fuses := rfl
@[simp] theorem setSe_straps (s : State) (e : Nat) (x : SigEngine) : (setSe s e x).straps = s.straps := rfl
@[simp] theorem setSe_dict (s : State) (e : Nat) (x : SigEngine) : (setSe s e x).dict = s.dict := rfl
@[simp] theorem setSe_cores (s : State) (e : Nat) (x : SigEngine) : (setSe s e x).cores = s.cores := rfl
@[simp] theorem setSe_sampleInit (s : State) (e : Nat) (x : SigEngine) : (setSe s e x).sampleInit = s.sampleInit := rfl
@[simp] theorem setSe_caravans (s : State) (e : Nat) (x : SigEngine) : (setSe s e x).caravans = s.caravans := rfl
@[simp] theorem setSe_banks (s : State) (e : Nat) (x : SigEngine) : (setSe s e x).banks = s.banks := rfl
@[simp] theorem setSe_queues (s : State) (e : Nat) (x : SigEngine) : (setSe s e x).queues = s.queues := rfl
@[simp] theorem setSe_bar0 (s : State) (e : Nat) (x : SigEngine) : (setSe s e x).bar0 = s.bar0 := rfl
@[simp] theorem setSe_pcie (s : State) (e : Nat) (x : SigEngine) : (setSe s e x).pcie = s.pcie := rfl
@[simp] theorem setSe_net (s : State) (e : Nat) (x : SigEngine) : (setSe s e x).net = s.net := rfl
@[simp] theorem setSe_links (s : State) (e : Nat) (x : SigEngine) : (setSe s e x).links = s.links := rfl
@[simp] theorem setSe_lockstep (s : State) (e : Nat) (x : SigEngine) : (setSe s e x).lockstep = s.lockstep := rfl
@[simp] theorem setSe_stacked (s : State) (e : Nat) (x : SigEngine) : (setSe s e x).stacked = s.stacked := rfl
@[simp] theorem setSe_counters (s : State) (e : Nat) (x : SigEngine) : (setSe s e x).counters = s.counters := rfl
@[simp] theorem setSe_ledger (s : State) (e : Nat) (x : SigEngine) : (setSe s e x).ledger = s.ledger := rfl
@[simp] theorem setSe_epoch (s : State) (e : Nat) (x : SigEngine) : (setSe s e x).epoch = s.epoch := rfl
@[simp] theorem setSe_calendarValid (s : State) (e : Nat) (x : SigEngine) : (setSe s e x).calendarValid = s.calendarValid := rfl
@[simp] theorem setSe_power (s : State) (e : Nat) (x : SigEngine) : (setSe s e x).power = s.power := rfl
@[simp] theorem setSe_sessions (s : State) (e : Nat) (x : SigEngine) : (setSe s e x).sessions = s.sessions := rfl
@[simp] theorem setSe_mgmt (s : State) (e : Nat) (x : SigEngine) : (setSe s e x).mgmt = s.mgmt := rfl
@[simp] theorem setSe_complex (s : State) (e : Nat) (x : SigEngine) : (setSe s e x).complex = s.complex := rfl
@[simp] theorem setSe_security (s : State) (e : Nat) (x : SigEngine) : (setSe s e x).security = s.security := rfl

@[simp] theorem modRegion_pending (s : State) (r : Nat) (f : Region → Region) : (modRegion s r f).pending = s.pending := rfl
@[simp] theorem modRegion_out (s : State) (r : Nat) (f : Region → Region) : (modRegion s r f).out = s.out := rfl
@[simp] theorem modRegion_free (s : State) (r : Nat) (f : Region → Region) : (modRegion s r f).free = s.free := rfl
@[simp] theorem modRegion_gtc (s : State) (r : Nat) (f : Region → Region) : (modRegion s r f).gtc = s.gtc := rfl
@[simp] theorem modRegion_fuses (s : State) (r : Nat) (f : Region → Region) : (modRegion s r f).fuses = s.fuses := rfl
@[simp] theorem modRegion_straps (s : State) (r : Nat) (f : Region → Region) : (modRegion s r f).straps = s.straps := rfl
@[simp] theorem modRegion_dict (s : State) (r : Nat) (f : Region → Region) : (modRegion s r f).dict = s.dict := rfl
@[simp] theorem modRegion_cores (s : State) (r : Nat) (f : Region → Region) : (modRegion s r f).cores = s.cores := rfl
@[simp] theorem modRegion_sampleInit (s : State) (r : Nat) (f : Region → Region) : (modRegion s r f).sampleInit = s.sampleInit := rfl
@[simp] theorem modRegion_caravans (s : State) (r : Nat) (f : Region → Region) : (modRegion s r f).caravans = s.caravans := rfl
@[simp] theorem modRegion_banks (s : State) (r : Nat) (f : Region → Region) : (modRegion s r f).banks = s.banks := rfl
@[simp] theorem modRegion_queues (s : State) (r : Nat) (f : Region → Region) : (modRegion s r f).queues = s.queues := rfl
@[simp] theorem modRegion_bar0 (s : State) (r : Nat) (f : Region → Region) : (modRegion s r f).bar0 = s.bar0 := rfl
@[simp] theorem modRegion_pcie (s : State) (r : Nat) (f : Region → Region) : (modRegion s r f).pcie = s.pcie := rfl
@[simp] theorem modRegion_net (s : State) (r : Nat) (f : Region → Region) : (modRegion s r f).net = s.net := rfl
@[simp] theorem modRegion_links (s : State) (r : Nat) (f : Region → Region) : (modRegion s r f).links = s.links := rfl
@[simp] theorem modRegion_lockstep (s : State) (r : Nat) (f : Region → Region) : (modRegion s r f).lockstep = s.lockstep := rfl
@[simp] theorem modRegion_stacked (s : State) (r : Nat) (f : Region → Region) : (modRegion s r f).stacked = s.stacked := rfl
@[simp] theorem modRegion_counters (s : State) (r : Nat) (f : Region → Region) : (modRegion s r f).counters = s.counters := rfl
@[simp] theorem modRegion_ledger (s : State) (r : Nat) (f : Region → Region) : (modRegion s r f).ledger = s.ledger := rfl
@[simp] theorem modRegion_epoch (s : State) (r : Nat) (f : Region → Region) : (modRegion s r f).epoch = s.epoch := rfl
@[simp] theorem modRegion_calendarValid (s : State) (r : Nat) (f : Region → Region) : (modRegion s r f).calendarValid = s.calendarValid := rfl
@[simp] theorem modRegion_power (s : State) (r : Nat) (f : Region → Region) : (modRegion s r f).power = s.power := rfl
@[simp] theorem modRegion_sessions (s : State) (r : Nat) (f : Region → Region) : (modRegion s r f).sessions = s.sessions := rfl
@[simp] theorem modRegion_mgmt (s : State) (r : Nat) (f : Region → Region) : (modRegion s r f).mgmt = s.mgmt := rfl
@[simp] theorem modRegion_complex (s : State) (r : Nat) (f : Region → Region) : (modRegion s r f).complex = s.complex := rfl
@[simp] theorem modRegion_security (s : State) (r : Nat) (f : Region → Region) : (modRegion s r f).security = s.security := rfl

@[simp] theorem modPort_pending (s : State) (p : Nat) (f : Port → Port) : (modPort s p f).pending = s.pending := rfl
@[simp] theorem modPort_out (s : State) (p : Nat) (f : Port → Port) : (modPort s p f).out = s.out := rfl
@[simp] theorem modPort_free (s : State) (p : Nat) (f : Port → Port) : (modPort s p f).free = s.free := rfl
@[simp] theorem modPort_gtc (s : State) (p : Nat) (f : Port → Port) : (modPort s p f).gtc = s.gtc := rfl
@[simp] theorem modPort_fuses (s : State) (p : Nat) (f : Port → Port) : (modPort s p f).fuses = s.fuses := rfl
@[simp] theorem modPort_straps (s : State) (p : Nat) (f : Port → Port) : (modPort s p f).straps = s.straps := rfl
@[simp] theorem modPort_dict (s : State) (p : Nat) (f : Port → Port) : (modPort s p f).dict = s.dict := rfl
@[simp] theorem modPort_cores (s : State) (p : Nat) (f : Port → Port) : (modPort s p f).cores = s.cores := rfl
@[simp] theorem modPort_sampleInit (s : State) (p : Nat) (f : Port → Port) : (modPort s p f).sampleInit = s.sampleInit := rfl
@[simp] theorem modPort_caravans (s : State) (p : Nat) (f : Port → Port) : (modPort s p f).caravans = s.caravans := rfl
@[simp] theorem modPort_banks (s : State) (p : Nat) (f : Port → Port) : (modPort s p f).banks = s.banks := rfl
@[simp] theorem modPort_queues (s : State) (p : Nat) (f : Port → Port) : (modPort s p f).queues = s.queues := rfl
@[simp] theorem modPort_bar0 (s : State) (p : Nat) (f : Port → Port) : (modPort s p f).bar0 = s.bar0 := rfl
@[simp] theorem modPort_pcie (s : State) (p : Nat) (f : Port → Port) : (modPort s p f).pcie = s.pcie := rfl
@[simp] theorem modPort_net (s : State) (p : Nat) (f : Port → Port) : (modPort s p f).net = s.net := rfl
@[simp] theorem modPort_links (s : State) (p : Nat) (f : Port → Port) : (modPort s p f).links = setPort s.links p (f (getPort s.links p)) := rfl
@[simp] theorem modPort_lockstep (s : State) (p : Nat) (f : Port → Port) : (modPort s p f).lockstep = s.lockstep := rfl
@[simp] theorem modPort_stacked (s : State) (p : Nat) (f : Port → Port) : (modPort s p f).stacked = s.stacked := rfl
@[simp] theorem modPort_counters (s : State) (p : Nat) (f : Port → Port) : (modPort s p f).counters = s.counters := rfl
@[simp] theorem modPort_ledger (s : State) (p : Nat) (f : Port → Port) : (modPort s p f).ledger = s.ledger := rfl
@[simp] theorem modPort_epoch (s : State) (p : Nat) (f : Port → Port) : (modPort s p f).epoch = s.epoch := rfl
@[simp] theorem modPort_calendarValid (s : State) (p : Nat) (f : Port → Port) : (modPort s p f).calendarValid = s.calendarValid := rfl
@[simp] theorem modPort_power (s : State) (p : Nat) (f : Port → Port) : (modPort s p f).power = s.power := rfl
@[simp] theorem modPort_fabric (s : State) (p : Nat) (f : Port → Port) : (modPort s p f).fabric = s.fabric := rfl
@[simp] theorem modPort_sessions (s : State) (p : Nat) (f : Port → Port) : (modPort s p f).sessions = s.sessions := rfl
@[simp] theorem modPort_mgmt (s : State) (p : Nat) (f : Port → Port) : (modPort s p f).mgmt = s.mgmt := rfl
@[simp] theorem modPort_complex (s : State) (p : Nat) (f : Port → Port) : (modPort s p f).complex = s.complex := rfl
@[simp] theorem modPort_security (s : State) (p : Nat) (f : Port → Port) : (modPort s p f).security = s.security := rfl

@[simp] theorem modLock_pending (s : State) (f : Lockstep → Lockstep) : (modLock s f).pending = s.pending := rfl
@[simp] theorem modLock_out (s : State) (f : Lockstep → Lockstep) : (modLock s f).out = s.out := rfl
@[simp] theorem modLock_free (s : State) (f : Lockstep → Lockstep) : (modLock s f).free = s.free := rfl
@[simp] theorem modLock_gtc (s : State) (f : Lockstep → Lockstep) : (modLock s f).gtc = s.gtc := rfl
@[simp] theorem modLock_fuses (s : State) (f : Lockstep → Lockstep) : (modLock s f).fuses = s.fuses := rfl
@[simp] theorem modLock_straps (s : State) (f : Lockstep → Lockstep) : (modLock s f).straps = s.straps := rfl
@[simp] theorem modLock_dict (s : State) (f : Lockstep → Lockstep) : (modLock s f).dict = s.dict := rfl
@[simp] theorem modLock_cores (s : State) (f : Lockstep → Lockstep) : (modLock s f).cores = s.cores := rfl
@[simp] theorem modLock_sampleInit (s : State) (f : Lockstep → Lockstep) : (modLock s f).sampleInit = s.sampleInit := rfl
@[simp] theorem modLock_caravans (s : State) (f : Lockstep → Lockstep) : (modLock s f).caravans = s.caravans := rfl
@[simp] theorem modLock_banks (s : State) (f : Lockstep → Lockstep) : (modLock s f).banks = s.banks := rfl
@[simp] theorem modLock_queues (s : State) (f : Lockstep → Lockstep) : (modLock s f).queues = s.queues := rfl
@[simp] theorem modLock_bar0 (s : State) (f : Lockstep → Lockstep) : (modLock s f).bar0 = s.bar0 := rfl
@[simp] theorem modLock_pcie (s : State) (f : Lockstep → Lockstep) : (modLock s f).pcie = s.pcie := rfl
@[simp] theorem modLock_net (s : State) (f : Lockstep → Lockstep) : (modLock s f).net = s.net := rfl
@[simp] theorem modLock_links (s : State) (f : Lockstep → Lockstep) : (modLock s f).links = s.links := rfl
@[simp] theorem modLock_lockstep (s : State) (f : Lockstep → Lockstep) : (modLock s f).lockstep = f s.lockstep := rfl
@[simp] theorem modLock_stacked (s : State) (f : Lockstep → Lockstep) : (modLock s f).stacked = s.stacked := rfl
@[simp] theorem modLock_counters (s : State) (f : Lockstep → Lockstep) : (modLock s f).counters = s.counters := rfl
@[simp] theorem modLock_ledger (s : State) (f : Lockstep → Lockstep) : (modLock s f).ledger = s.ledger := rfl
@[simp] theorem modLock_epoch (s : State) (f : Lockstep → Lockstep) : (modLock s f).epoch = s.epoch := rfl
@[simp] theorem modLock_calendarValid (s : State) (f : Lockstep → Lockstep) : (modLock s f).calendarValid = s.calendarValid := rfl
@[simp] theorem modLock_power (s : State) (f : Lockstep → Lockstep) : (modLock s f).power = s.power := rfl
@[simp] theorem modLock_fabric (s : State) (f : Lockstep → Lockstep) : (modLock s f).fabric = s.fabric := rfl
@[simp] theorem modLock_sessions (s : State) (f : Lockstep → Lockstep) : (modLock s f).sessions = s.sessions := rfl
@[simp] theorem modLock_mgmt (s : State) (f : Lockstep → Lockstep) : (modLock s f).mgmt = s.mgmt := rfl
@[simp] theorem modLock_complex (s : State) (f : Lockstep → Lockstep) : (modLock s f).complex = s.complex := rfl
@[simp] theorem modLock_security (s : State) (f : Lockstep → Lockstep) : (modLock s f).security = s.security := rfl

@[simp] theorem wakeS1_pending (s : State) : (wakeS1 s).pending = s.pending := rfl
@[simp] theorem wakeS1_out (s : State) : (wakeS1 s).out = s.out := rfl
@[simp] theorem wakeS1_free (s : State) : (wakeS1 s).free = s.free := rfl
@[simp] theorem wakeS1_gtc (s : State) : (wakeS1 s).gtc = s.gtc := rfl
@[simp] theorem wakeS1_fuses (s : State) : (wakeS1 s).fuses = s.fuses := rfl
@[simp] theorem wakeS1_straps (s : State) : (wakeS1 s).straps = s.straps := rfl
@[simp] theorem wakeS1_dict (s : State) : (wakeS1 s).dict = s.dict := rfl
@[simp] theorem wakeS1_cores (s : State) : (wakeS1 s).cores = s.cores := rfl
@[simp] theorem wakeS1_sampleInit (s : State) : (wakeS1 s).sampleInit = s.sampleInit := rfl
@[simp] theorem wakeS1_caravans (s : State) : (wakeS1 s).caravans = s.caravans := rfl
@[simp] theorem wakeS1_banks (s : State) : (wakeS1 s).banks = s.banks := rfl
@[simp] theorem wakeS1_queues (s : State) : (wakeS1 s).queues = s.queues := rfl
@[simp] theorem wakeS1_bar0 (s : State) : (wakeS1 s).bar0 = s.bar0 := rfl
@[simp] theorem wakeS1_pcie (s : State) : (wakeS1 s).pcie = s.pcie := rfl
@[simp] theorem wakeS1_net (s : State) : (wakeS1 s).net = s.net := rfl
@[simp] theorem wakeS1_links (s : State) : (wakeS1 s).links = s.links := rfl
@[simp] theorem wakeS1_lockstep (s : State) : (wakeS1 s).lockstep = s.lockstep := rfl
@[simp] theorem wakeS1_stacked (s : State) : (wakeS1 s).stacked = s.stacked := rfl
@[simp] theorem wakeS1_counters (s : State) : (wakeS1 s).counters = s.counters := rfl
@[simp] theorem wakeS1_ledger (s : State) : (wakeS1 s).ledger = s.ledger := rfl
@[simp] theorem wakeS1_epoch (s : State) : (wakeS1 s).epoch = s.epoch := rfl
@[simp] theorem wakeS1_calendarValid (s : State) : (wakeS1 s).calendarValid = s.calendarValid := rfl
@[simp] theorem wakeS1_power (s : State) : (wakeS1 s).power = { s.power with gated := false } := rfl
@[simp] theorem wakeS1_fabric (s : State) : (wakeS1 s).fabric = s.fabric := rfl
@[simp] theorem wakeS1_sessions (s : State) : (wakeS1 s).sessions = s.sessions := rfl
@[simp] theorem wakeS1_mgmt (s : State) : (wakeS1 s).mgmt = s.mgmt := rfl
@[simp] theorem wakeS1_complex (s : State) : (wakeS1 s).complex = s.complex := rfl
@[simp] theorem wakeS1_security (s : State) : (wakeS1 s).security = s.security := rfl

@[simp] theorem barError_pending (s : State) : (barError s).pending = s.pending := rfl
@[simp] theorem barError_out (s : State) : (barError s).out = s.out := rfl
@[simp] theorem barError_free (s : State) : (barError s).free = s.free := rfl
@[simp] theorem barError_gtc (s : State) : (barError s).gtc = s.gtc := rfl
@[simp] theorem barError_fuses (s : State) : (barError s).fuses = s.fuses := rfl
@[simp] theorem barError_straps (s : State) : (barError s).straps = s.straps := rfl
@[simp] theorem barError_dict (s : State) : (barError s).dict = s.dict := rfl
@[simp] theorem barError_cores (s : State) : (barError s).cores = s.cores := rfl
@[simp] theorem barError_sampleInit (s : State) : (barError s).sampleInit = s.sampleInit := rfl
@[simp] theorem barError_caravans (s : State) : (barError s).caravans = s.caravans := rfl
@[simp] theorem barError_banks (s : State) : (barError s).banks = s.banks := rfl
@[simp] theorem barError_queues (s : State) : (barError s).queues = s.queues := rfl
@[simp] theorem barError_pcie (s : State) : (barError s).pcie = s.pcie := rfl
@[simp] theorem barError_net (s : State) : (barError s).net = s.net := rfl
@[simp] theorem barError_links (s : State) : (barError s).links = s.links := rfl
@[simp] theorem barError_lockstep (s : State) : (barError s).lockstep = s.lockstep := rfl
@[simp] theorem barError_stacked (s : State) : (barError s).stacked = s.stacked := rfl
@[simp] theorem barError_counters (s : State) : (barError s).counters = s.counters := rfl
@[simp] theorem barError_ledger (s : State) : (barError s).ledger = s.ledger := rfl
@[simp] theorem barError_epoch (s : State) : (barError s).epoch = s.epoch := rfl
@[simp] theorem barError_calendarValid (s : State) : (barError s).calendarValid = s.calendarValid := rfl
@[simp] theorem barError_power (s : State) : (barError s).power = s.power := rfl
@[simp] theorem barError_fabric (s : State) : (barError s).fabric = s.fabric := rfl
@[simp] theorem barError_sessions (s : State) : (barError s).sessions = s.sessions := rfl
@[simp] theorem barError_mgmt (s : State) : (barError s).mgmt = s.mgmt := rfl
@[simp] theorem barError_complex (s : State) : (barError s).complex = s.complex := rfl
@[simp] theorem barError_security (s : State) : (barError s).security = s.security := rfl

@[simp] theorem sendFrame_pending (s : State) (via : Via) (bytes : List Byte) : (sendFrame s via bytes).pending = s.pending := rfl
@[simp] theorem sendFrame_out (s : State) (via : Via) (bytes : List Byte) : (sendFrame s via bytes).out = s.out ++ [.frame via bytes] := rfl
@[simp] theorem sendFrame_free (s : State) (via : Via) (bytes : List Byte) : (sendFrame s via bytes).free = s.free := rfl
@[simp] theorem sendFrame_gtc (s : State) (via : Via) (bytes : List Byte) : (sendFrame s via bytes).gtc = s.gtc := rfl
@[simp] theorem sendFrame_fuses (s : State) (via : Via) (bytes : List Byte) : (sendFrame s via bytes).fuses = s.fuses := rfl
@[simp] theorem sendFrame_straps (s : State) (via : Via) (bytes : List Byte) : (sendFrame s via bytes).straps = s.straps := rfl
@[simp] theorem sendFrame_dict (s : State) (via : Via) (bytes : List Byte) : (sendFrame s via bytes).dict = s.dict := rfl
@[simp] theorem sendFrame_cores (s : State) (via : Via) (bytes : List Byte) : (sendFrame s via bytes).cores = s.cores := rfl
@[simp] theorem sendFrame_sampleInit (s : State) (via : Via) (bytes : List Byte) : (sendFrame s via bytes).sampleInit = s.sampleInit := rfl
@[simp] theorem sendFrame_caravans (s : State) (via : Via) (bytes : List Byte) : (sendFrame s via bytes).caravans = s.caravans := rfl
@[simp] theorem sendFrame_banks (s : State) (via : Via) (bytes : List Byte) : (sendFrame s via bytes).banks = s.banks := rfl
@[simp] theorem sendFrame_queues (s : State) (via : Via) (bytes : List Byte) : (sendFrame s via bytes).queues = s.queues := rfl
@[simp] theorem sendFrame_bar0 (s : State) (via : Via) (bytes : List Byte) : (sendFrame s via bytes).bar0 = s.bar0 := rfl
@[simp] theorem sendFrame_pcie (s : State) (via : Via) (bytes : List Byte) : (sendFrame s via bytes).pcie = s.pcie := rfl
@[simp] theorem sendFrame_net (s : State) (via : Via) (bytes : List Byte) : (sendFrame s via bytes).net = s.net := rfl
@[simp] theorem sendFrame_links (s : State) (via : Via) (bytes : List Byte) : (sendFrame s via bytes).links = s.links := rfl
@[simp] theorem sendFrame_lockstep (s : State) (via : Via) (bytes : List Byte) : (sendFrame s via bytes).lockstep = s.lockstep := rfl
@[simp] theorem sendFrame_stacked (s : State) (via : Via) (bytes : List Byte) : (sendFrame s via bytes).stacked = s.stacked := rfl
@[simp] theorem sendFrame_counters (s : State) (via : Via) (bytes : List Byte) : (sendFrame s via bytes).counters = s.counters := rfl
@[simp] theorem sendFrame_ledger (s : State) (via : Via) (bytes : List Byte) : (sendFrame s via bytes).ledger = s.ledger := rfl
@[simp] theorem sendFrame_epoch (s : State) (via : Via) (bytes : List Byte) : (sendFrame s via bytes).epoch = s.epoch := rfl
@[simp] theorem sendFrame_calendarValid (s : State) (via : Via) (bytes : List Byte) : (sendFrame s via bytes).calendarValid = s.calendarValid := rfl
@[simp] theorem sendFrame_power (s : State) (via : Via) (bytes : List Byte) : (sendFrame s via bytes).power = s.power := rfl
@[simp] theorem sendFrame_fabric (s : State) (via : Via) (bytes : List Byte) : (sendFrame s via bytes).fabric = s.fabric := rfl
@[simp] theorem sendFrame_sessions (s : State) (via : Via) (bytes : List Byte) : (sendFrame s via bytes).sessions = s.sessions := rfl
@[simp] theorem sendFrame_mgmt (s : State) (via : Via) (bytes : List Byte) : (sendFrame s via bytes).mgmt = s.mgmt := rfl
@[simp] theorem sendFrame_complex (s : State) (via : Via) (bytes : List Byte) : (sendFrame s via bytes).complex = s.complex := rfl
@[simp] theorem sendFrame_security (s : State) (via : Via) (bytes : List Byte) : (sendFrame s via bytes).security = s.security := rfl

/-! Accessors. -/

/-- A write at one key leaves every other, whatever an unlisted key reads as there. -/
theorem mapGet_mapSet_elsewhere {α : Type} [DecidableEq α] (d e : α) (m : List (Nat × α)) {k j : Nat} (v : α) (h : j ≠ k) :
    mapGet d (mapSet e m k v) j = mapGet d m j := by
  unfold mapSet
  split
  · simp [mapGet_mapDrop, h]
  · rw [mapGet_mapInsert d _ k j v (mapDrop_fresh m k), mapGet_mapDrop]; simp [h]

theorem dictGet_dictSet (s : State) (key v k : Nat) : dictGet (dictSet s key v) k = if k = key then v else dictGet s k := by
  by_cases h : k = key
  · subst h; simp [dictGet, dictPut]
  · simp only [dictGet, dictSet_dict, dictPut, h, if_false]
    exact mapGet_mapSet_elsewhere _ _ s.dict v h

@[simp] theorem dictGet_dictSet_same (s : State) (key v : Nat) : dictGet (dictSet s key v) key = v := by simp [dictGet_dictSet]

/-- An update that leaves the dictionary leaves what every entry reads as. -/
theorem dictGet_of_dict {s t : State} (h : t.dict = s.dict) (key : Nat) : dictGet t key = dictGet s key := by simp [dictGet, h]

theorem getCore_setCore (s : State) (c d : CoreId) (k : Core) : getCore (setCore s c k) d = if d = c then k else getCore s d := by
  simp only [getCore, setCore_cores, mapGet_mapSet, Fin.ext_iff]

@[simp] theorem getCore_setCore_same (s : State) (c : CoreId) (k : Core) : getCore (setCore s c k) c = k := by simp [getCore_setCore]

theorem getCv_setCv (s : State) (v w : Nat) (x : Caravan) : getCv (setCv s v x) w = if w = v then x else getCv s w := by
  simp only [getCv, setCv_caravans, mapGet_mapSet]

theorem getRing_setRing (s : State) (r q : Nat) (x : Ring) : getRing (setRing s r x) q = if q = r then x else getRing s q := by
  simp only [getRing, setRing, mapGet_mapSet]

theorem getSe_setSe (s : State) (e k : Nat) (x : SigEngine) : getSe (setSe s e x) k = if k = e then x else getSe s k := by
  simp only [getSe, setSe, mapGet_mapSet]

theorem getPort_modPort (s : State) (p q : Nat) (f : Port → Port) :
    getPort (modPort s p f).links q = if q = p then f (getPort s.links p) else getPort s.links q := by
  simp only [modPort_links, getPort, setPort, mapGet_mapSet]

end Sys2Proof.Machine
end

