-- ==== Sys2Proof/Laws/Ops.lean ====
section
/-! SUPPORT. What the shared operations can do: the parts of the state each can touch, what the ledger holds after an entry, and the
scoreboard of a core memory. -/

namespace Sys2Proof.Machine

/-! Changes of parts compose. -/

theorem changesOnly_refl (ps : List StatePart) (s : State) : changesOnly ps s s := by
  intro p _; cases p <;> rfl

theorem changesOnly_mono {ps qs : List StatePart} {s t : State} (h : ∀ p ∈ ps, p ∈ qs) (hc : changesOnly ps s t) : changesOnly qs s t :=
  fun p hp => hc p fun hq => hp (h p hq)

theorem StatePart.same_trans {p : StatePart} {s t u : State} (h : p.same s t) (h' : p.same t u) : p.same s u := by
  cases p <;> exact h'.trans h

theorem changesOnly_trans {ps : List StatePart} {s t u : State} (h : changesOnly ps s t) (h' : changesOnly ps t u) : changesOnly ps s u :=
  fun p hp => StatePart.same_trans (h p hp) (h' p hp)

/-- An operation repeated over a list touches what one of its steps can touch. -/
theorem changesOnly_foldl {α : Type} {ps : List StatePart} (f : State → α → State) (h : ∀ s a, changesOnly ps s (f s a)) (l : List α) (s : State) :
    changesOnly ps s (l.foldl f s) := by
  induction l generalizing s with
  | nil => exact changesOnly_refl ps s
  | cons a t ih => exact changesOnly_trans (h s a) (ih _)

/-! One part each. -/

theorem dictSet_changes (s : State) (key v : Nat) : changesOnly [.dict] s (dictSet s key v) := by
  intro p hp; cases p <;> first | rfl | exact absurd (by simp) hp

theorem useFree_changes (s : State) (n : Nat) : changesOnly [.free] s (useFree s n) := by
  intro p hp; cases p <;> first | rfl | exact absurd (by simp) hp

theorem setCore_changes (s : State) (c : CoreId) (k : Core) : changesOnly [.cores] s (setCore s c k) := by
  intro p hp; cases p <;> first | rfl | exact absurd (by simp) hp

theorem countEvent_changes (s : State) (set : CounterSet) (block ev : Nat) (a : EvAttr) (n : Nat) :
    changesOnly [.counters] s (countEvent s set block ev a n) := by
  intro p hp; cases p <;> first | rfl | exact absurd (by simp) hp

/-! Module events, MSI-X and the ledger. -/

/-- R289: a vector leaves, or its pending bit is set: only the outputs and the host registers change. -/
theorem sendVector_changes (s : State) (v : Nat) : changesOnly [.out, .bar0] s (sendVector s v) := by
  unfold sendVector; dsimp only
  split <;> (intro p hp; cases p <;> first | rfl | exact absurd (by simp) hp)

@[simp] theorem sendVector_modEvent (s : State) (v : Nat) : (sendVector s v).bar0.modEvent = s.bar0.modEvent := by
  unfold sendVector; dsimp only; split <;> rfl

theorem raiseModEvent_changes (s : State) (m : BitVec 6) : changesOnly [.out, .bar0] s (raiseModEvent s m) := by
  have hb (b : Bar0) : changesOnly [.out, .bar0] s { s with bar0 := b } := by
    intro p hp; cases p <;> first | rfl | exact absurd (by simp) hp
  unfold raiseModEvent; dsimp only
  split
  · exact changesOnly_trans (hb _) (sendVector_changes _ _)
  · exact hb _

/-- R294: the named bits of MOD_EVENT are set, and no bit is cleared. -/
@[simp] theorem raiseModEvent_modEvent (s : State) (m : BitVec 6) : (raiseModEvent s m).bar0.modEvent = s.bar0.modEvent ||| m := by
  unfold raiseModEvent; dsimp only; split
  · rw [sendVector_modEvent]
  · rfl

@[simp] theorem raiseModEvent_ledger (s : State) (m : BitVec 6) : (raiseModEvent s m).ledger = s.ledger := raiseModEvent_changes s m .ledger (by decide)

theorem logEntry_changes (s : State) (sev : Fin 4) (code srcKind srcUnit data : Nat) :
    changesOnly [.out, .dict, .bar0, .ledger] s (logEntry s sev code srcKind srcUnit data) := by
  have hl (d : List (Nat × Nat)) (l : Ledger) : changesOnly [.out, .dict, .bar0, .ledger] s { s with ledger := l, dict := d } := by
    intro p hp; cases p <;> first | rfl | exact absurd (by simp) hp
  have hr (t : State) (m : BitVec 6) : changesOnly [.out, .dict, .bar0, .ledger] t (raiseModEvent t m) :=
    changesOnly_mono (by decide) (raiseModEvent_changes t m)
  unfold logEntry; dsimp only
  split
  · exact changesOnly_refl _ s
  · split
    · exact changesOnly_mono (by decide) (dictSet_changes s _ _)
    · split
      · exact changesOnly_trans (hl _ _) (hr _ _)
      · split
        · exact changesOnly_trans (hl _ _) (hr _ _)
        · exact hl _ _

/-- R559, R561: what an entry holds, where the ledger takes it. -/
theorem logEntry_logs (s : State) (sev : Fin 4) (code srcKind srcUnit data : Nat) :
    logs s (logEntry s sev code srcKind srcUnit data) sev code srcKind srcUnit data := by
  intro h1 h2 h3
  unfold logEntry
  rw [if_neg (by omega), if_neg (fun h => absurd h.2 (by omega))]
  dsimp only
  simp only [h2, Option.isSome_none, Bool.false_eq_true, if_false]
  split
  · rw [raiseModEvent_ledger]; exact ⟨rfl, rfl⟩
  · split
    · rw [raiseModEvent_ledger]; exact ⟨rfl, rfl⟩
    · exact ⟨rfl, rfl⟩

/-! Notes of a core. -/

theorem writeSample_changes (s : State) (c : CoreId) (x : SampleData) : changesOnly [.free, .cores] s (writeSample s c x) := by
  intro p hp; cases p <;> first | rfl | exact absurd (by simp) hp

theorem applyNote_changes (c : CoreId) (s : State) (n : Note) :
    changesOnly [.out, .free, .dict, .cores, .bar0, .counters, .ledger] s (applyNote c s n) := by
  cases n with
  | event ev a n => exact changesOnly_mono (by decide) (countEvent_changes s _ _ _ _ _)
  | log sev code data => exact changesOnly_mono (by decide) (logEntry_changes s _ _ _ _ _)
  | modEvent m => exact changesOnly_mono (by decide) (raiseModEvent_changes s m)
  | sample x => exact changesOnly_mono (by decide) (writeSample_changes s c x)

theorem applyNotes_changes (c : CoreId) (s : State) (ns : List Note) :
    changesOnly [.out, .free, .dict, .cores, .bar0, .counters, .ledger] s (applyNotes c s ns) :=
  changesOnly_foldl _ (applyNote_changes c) ns s

/-- A note of one core leaves every other core. -/
theorem applyNote_coreOnly (c : CoreId) (s : State) (n : Note) : coreOnly c s (applyNote c s n) := by
  intro k hk
  have hs (t : State) (h : t.cores = s.cores) : getCore t k = getCore s k := by simp [getCore, h]
  cases n with
  | event ev a n => exact hs _ rfl
  | log sev code data => exact hs _ (logEntry_changes s _ _ _ _ _ .cores (by decide))
  | modEvent m => exact hs _ (raiseModEvent_changes s m .cores (by decide))
  | sample x => exact (getCore_setCore s c k _).trans (if_neg hk)

theorem coreOnly_trans {c : CoreId} {s t u : State} (h : coreOnly c s t) (h' : coreOnly c t u) : coreOnly c s u :=
  fun k hk => (h' k hk).trans (h k hk)

theorem applyNotes_coreOnly (c : CoreId) (s : State) (ns : List Note) : coreOnly c s (applyNotes c s ns) := by
  induction ns generalizing s with
  | nil => exact fun _ _ => rfl
  | cons n t ih => exact coreOnly_trans (applyNote_coreOnly c s n) (ih _)

/-! Lock-step and the host (R426). -/

theorem breachCm_changes (s : State) (cause : Nat) : changesOnly [.dict] s (breachCm s cause) := by
  unfold breachCm
  split
  · exact changesOnly_trans (dictSet_changes s _ _) (dictSet_changes _ _ _)
  · exact changesOnly_refl _ s

theorem hostTraffic_changes (s : State) : changesOnly [.dict] s (hostTraffic s) := by
  unfold hostTraffic; dsimp only
  split
  · exact breachCm_changes s 6
  · exact changesOnly_refl _ s

/-! The network. -/

theorem countRoute_changes (s : State) (f : Flit) (o : List (Nat × Nat × Nat)) : changesOnly [.counters] s (countRoute s f o) := by
  unfold countRoute
  refine changesOnly_trans (changesOnly_foldl _ (fun s a => countEvent_changes s _ _ _ _ _) o s) (changesOnly_foldl _ (fun s n => ?_) _ _)
  split
  · exact countEvent_changes s _ _ _ _ _
  · exact changesOnly_refl _ s

/-- R312: a flit that is sent changes the network and the waystations' counters alone. -/
theorem send_changes (s : State) (f : Flit) : changesOnly [.net, .counters] s (send s f) := by
  unfold send
  refine changesOnly_trans (t := { s with net := inject s.net f }) ?_ (changesOnly_mono (by decide) (countRoute_changes _ f _))
  intro p hp; cases p <;> first | rfl | exact absurd (by simp) hp

/-! Threads. -/

theorem getThread_setThread (s : State) (c : CoreId) (t u : ThreadId) (x : Thread) :
    getThread (setThread s c t x) c u = if u = t then x else getThread s c u := by
  simp only [getThread, setThread, setCc, getCc, getCore_setCore_same, mapGet_mapSet, Fin.ext_iff]

theorem setThread_coreOnly (s : State) (c : CoreId) (t : ThreadId) (x : Thread) : coreOnly c s (setThread s c t x) :=
  fun k hk => (getCore_setCore s c k _).trans (if_neg hk)

/-! The scoreboard (R173 to R175). -/

theorem mem_rangeGranules (r : Range) (g : Nat) : g ∈ rangeGranules r ↔ rangeCovers r g = true := by
  unfold rangeGranules rangeCovers
  by_cases h : r.rowBytes = 0
  · simp [h]
  · simp only [h, if_false, List.mem_flatMap, List.mem_range, List.mem_range'_1, Bool.and_eq_true, decide_eq_true_eq, ne_eq, not_false_eq_true,
      true_and, List.any_eq_true]
    constructor <;> (rintro ⟨i, hi, h1, h2⟩; exact ⟨i, hi, h1, by omega⟩)

/-- R175: a write that begins clears COMPLETE on the granules of its range, and no other mark. -/
theorem beginWrite_begun (m : CoreMem) (o : Owner) (p : Part) (r : Range) : writeBegun m (beginWrite m o p r) r := by
  refine ⟨fun g => ?_, rfl, rfl⟩
  simp only [granuleComplete, beginWrite, mapGet_mapSetAll, mem_rangeGranules]
  cases rangeCovers r g <;> simp

/-- R175: a write that ends sets COMPLETE on the granules of its range, and no other mark. -/
theorem endWrite_ended (m : CoreMem) (o : Owner) (p : Part) (r : Range) : writeEnded m (endWrite m o p r) r [] := by
  refine ⟨rfl, fun g => ?_⟩
  simp only [granuleComplete, endWrite, releaseHold, mapGet_mapSetAll, mem_rangeGranules]
  cases rangeCovers r g <;> simp

/-- A core memory in its canonical form. -/
def CoreMem.canonical (m : CoreMem) : Prop := mapWf 0 m.bytes = true ∧ mapWf false m.incomplete = true ∧ mapWf false m.poison = true

theorem beginWrite_canonical {m : CoreMem} (o : Owner) (p : Part) (r : Range) (h : m.canonical) : (beginWrite m o p r).canonical :=
  ⟨h.1, mapWf_mapSetAll false _ _ true h.2.1, h.2.2⟩

theorem endWrite_canonical {m : CoreMem} (o : Owner) (p : Part) (r : Range) (h : m.canonical) : (endWrite m o p r).canonical :=
  ⟨h.1, mapWf_mapSetAll false _ _ false h.2.1, h.2.2⟩

theorem rows_canonical (rows : List (Nat × List Byte)) (b : List (Nat × Byte)) (h : mapWf 0 b = true) :
    mapWf 0 (rows.foldl (fun b r => mapWrite 0 b r.1 r.2) b) = true := by
  induction rows generalizing b with
  | nil => exact h
  | cons r t ih => exact ih _ (mapWf_mapWrite 0 r.2 b r.1 h)

/-- R180: rows written keep the canonical form. -/
theorem writeRows_canonical {m : CoreMem} (rows : List (Nat × List Byte)) (poisoned : Bool) (h : m.canonical) : (writeRows m rows poisoned).1.canonical := by
  unfold writeRows; dsimp only
  split <;> exact ⟨rows_canonical rows _ h.1, h.2.1, mapWf_mapSetAll false _ _ _ h.2.2⟩

/-- R180: one row written is what a read of its bytes gives. -/
theorem coreRead_writeRows (m : CoreMem) (a : Nat) (bytes : List Byte) (poisoned : Bool) :
    coreRead (writeRows m [(a, bytes)] poisoned).1 a bytes.length = bytes := by
  have e : (writeRows m [(a, bytes)] poisoned).1.bytes = mapWrite 0 m.bytes a bytes := by unfold writeRows; dsimp only; split <;> rfl
  rw [coreRead, e, mapRead_mapWrite]

/-- R180: a byte outside the row keeps its value. -/
theorem coreByte_writeRows (m : CoreMem) (a : Nat) (bytes : List Byte) (poisoned : Bool) (k : Nat) (h : k < a ∨ a + bytes.length ≤ k) :
    coreByte (writeRows m [(a, bytes)] poisoned).1 k = coreByte m k := by
  have e : (writeRows m [(a, bytes)] poisoned).1.bytes = mapWrite 0 m.bytes a bytes := by unfold writeRows; dsimp only; split <;> rfl
  rw [coreByte, e, mapGet_mapWrite, dif_neg (by omega), coreByte]

/-! Stacked memory (R336, R338). -/

/-- Stacked memory in its canonical form. -/
def Stacked.canonical (m : Stacked) : Prop := mapWf 0 m.bytes = true ∧ mapWf false m.poison = true

theorem stackApply_canonical {m : Stacked} (f : Flit) (h : m.canonical) : (stackApply m f).canonical := by
  refine ⟨mapWf_mapWrite 0 _ _ _ h.1, ?_⟩
  have mark (p : List (Nat × Bool)) (k : Nat) (a b : Bool) (v w : Bool) (hp : mapWf false p = true) :
      mapWf false (if a then p else if b then mapSet false p k v else mapSet false p k w) = true := by
    split
    · exact hp
    · split <;> exact mapWf_mapSet false _ _ _ hp
  exact mark _ _ _ _ _ _ (mark _ _ _ _ _ _ h.2)

theorem stackFold_canonical {α : Type} (f : Stacked → α → Stacked) (hf : ∀ m a, m.canonical → (f m a).canonical) (l : List α) (m : Stacked)
    (h : m.canonical) : (l.foldl f m).canonical := by
  induction l generalizing m with
  | nil => exact h
  | cons a t ih => exact ih _ (hf m a h)

theorem settled_canonical {m : Stacked} (pa : Nat) (h : m.canonical) : (settled m pa).canonical := by
  unfold settled; dsimp only
  refine stackFold_canonical _ (fun m a hm => ?_) _ m h
  split
  · exact stackApply_canonical _ hm
  · exact hm

theorem stackWrite_canonical {m : Stacked} (pa : Nat) (bytes : List Byte) (poison : Bool) (h : m.canonical) : (stackWrite m pa bytes poison).canonical := by
  unfold stackWrite
  exact stackApply_canonical _ (settled_canonical pa h)

theorem zeroFill_canonical {m : Stacked} (t : Nat) (h : m.canonical) : (zeroFill m t).canonical :=
  ⟨mapWf_filter 0 _ _ h.1, mapWf_filter false _ _ h.2⟩

theorem drainTowers_canonical {m : Stacked} (h : m.canonical) : (drainTowers m).canonical :=
  stackFold_canonical _ (fun _ f hm => stackApply_canonical f hm) _ m h

/-! Freezes and sessions (R68, R564). -/

theorem endFreeze_changes (s : State) (cause : Nat) : changesOnly [.out, .dict, .bar0, .ledger] s (endFreeze s cause) := by
  unfold endFreeze
  split
  · exact changesOnly_refl _ s
  · refine changesOnly_trans (t := { s with ledger := { s.ledger with freeze := none } }) ?_ (logEntry_changes _ _ _ _ _ _)
    intro p hp; cases p <;> first | rfl | exact absurd (by simp) hp

@[simp] theorem logEntry_freeze (s : State) (sev : Fin 4) (code srcKind srcUnit data : Nat) :
    (logEntry s sev code srcKind srcUnit data).ledger.freeze = s.ledger.freeze := by
  unfold logEntry; dsimp only
  split
  · rfl
  · split
    · rfl
    · split
      · rw [raiseModEvent_ledger]
      · split
        · rw [raiseModEvent_ledger]
        · rfl

@[simp] theorem endFreeze_freeze (s : State) (cause : Nat) : (endFreeze s cause).ledger.freeze = none := by
  unfold endFreeze
  split
  · assumption
  · rw [logEntry_freeze]

/-- R68, R564: what closing sessions does. -/
theorem closeSessions_closed (s : State) (p : Session → Bool) : sessionsClosed s (closeSessions s p) p := by
  have hs (x : Sessions) : changesOnly [.sessions] s { s with sessions := x } := by
    intro p hp; cases p <;> first | rfl | exact absurd (by simp) hp
  unfold closeSessions sessionsClosed; dsimp only
  split
  · rename_i sid hf
    split
    · rename_i hany
      obtain ⟨x, hx, hxs⟩ := List.any_eq_true.mp hany
      have hx' := List.mem_filter.mp hx
      refine ⟨(endFreeze_changes _ 1) .sessions (by decide), ?_, ?_, fun _ => endFreeze_freeze _ 1⟩
      · exact changesOnly_trans (changesOnly_mono (by decide) (hs _)) (changesOnly_mono (by decide) (endFreeze_changes _ 1))
      · intro h
        exact absurd (by rw [hf]; simp [of_decide_eq_true hxs]) (h x hx'.1 hx'.2)
    · rename_i hany
      refine ⟨rfl, changesOnly_mono (by decide) (hs _), fun _ => hs _, ?_⟩
      rintro ⟨x, hx, hp, h⟩
      refine absurd (List.any_eq_true.mpr ⟨x, List.mem_filter.mpr ⟨hx, hp⟩, ?_⟩) hany
      rw [hf] at h
      simpa using (Option.some.inj h).symm
  · rename_i hf
    exact ⟨rfl, changesOnly_mono (by decide) (hs _), fun _ => hs _, fun _ => hf⟩

/-! Tags of requests. -/

theorem freeId_used {used : List Nat} {n i : Nat} (hi : i < 16384) (h : freeId used n i ∈ used) : ∀ k, k ≤ n → (i + k) % 16384 ∈ used := by
  induction n generalizing i with
  | zero =>
    intro k hk
    obtain rfl : k = 0 := by omega
    simpa [Nat.mod_eq_of_lt hi, freeId] using h
  | succ n ih =>
    by_cases hu : used.contains i = true
    · rw [freeId, if_pos hu] at h
      intro k hk
      rcases k with _ | k
      · simpa [Nat.mod_eq_of_lt hi] using hu
      · have := ih (Nat.mod_lt _ (by decide)) h k (by omega)
        rwa [Nat.mod_add_mod, Nat.add_assoc, Nat.add_comm 1 k] at this
    · rw [freeId, if_neg hu] at h
      exact absurd (by simpa using h) hu

/-- R307: a new TAG is not one in use, where fewer than 16,384 are. -/
theorem freeId_fresh {used : List Nat} {i : Nat} (hi : i < 16384) (hn : used.length < 16384) : freeId used used.length i ∉ used := by
  intro h
  have hnd : ((List.range (used.length + 1)).map fun k => (i + k) % 16384).Nodup := by
    refine List.Nodup.map_on ?_ List.nodup_range
    intro a ha b hb hab
    simp only [List.mem_range] at ha hb
    omega
  have hsub := hnd.subperm (l₂ := used) (by
    intro x hx
    obtain ⟨k, hk, rfl⟩ := List.mem_map.1 hx
    exact freeId_used hi h k (by have := List.mem_range.1 hk; omega))
  have := hsub.length_le
  simp at this

end Sys2Proof.Machine
end

