-- ==== Sys2Proof/WellFormed.lean ====
section
/-! DEFINITION. Which commands are well formed: every operand that comes from outside has the size the spec gives it. What the
types of the operands bound already (a core, a port, a tag) is no check here, and a frame may have any length: a bad one is an event
the module answers for itself (R55). -/

namespace Sys2Proof

/-- R307: a flit carries at most 128 B of payload. -/
def Flit.wellFormed (f : Flit) : Bool := f.payload.length ≤ 128

/-- R327, R337: a half-line is 64 B in 72 symbols. -/
def HalfRead.wellFormed (h : HalfRead) : Bool := h.symbols ≤ 72 && h.asRead.length = 64

/-- A read brings at most a line of 128 B. -/
def ReadAnswer.wellFormed : ReadAnswer → Bool
  | .data bytes _ => bytes.length ≤ 128
  | .failed | .missed | .denied | .off => true

/-- R479: a read of a frame brings its 544 B. -/
def ReadAnswer.frameWellFormed : ReadAnswer → Bool
  | .data bytes _ => bytes.length = 544
  | .failed | .missed | .denied | .off => true

/-- R444: the depth and the width of a block RAM mode. -/
def RamAccess.shape (m : Fin 7) : Nat × Nat :=
  match m.val with
  | 0 => (32768, 1) | 1 => (16384, 2) | 2 => (8192, 4) | 3 => (4096, 9) | 4 => (2048, 18) | 5 => (1024, 36) | _ => (512, 72)

/-- R444: a word of the mode, at an address of the mode. -/
def RamAccess.wellFormed (a : RamAccess) : Bool := a.addr < (RamAccess.shape a.mode).1 && a.data < 2 ^ (RamAccess.shape a.mode).2

/-- R522: a reading for each of the eight towers. -/
def GovReadings.wellFormed (g : GovReadings) : Bool := g.towers.length = 8 && g.queueFull ≤ 1000000

/-- R354: each of a link's 16 lanes has 1 to 15 taps, where the training chose some. -/
def TrainResult.wellFormed (r : TrainResult) : Bool := r.dfeTaps = [] || (r.dfeTaps.length = 16 && r.dfeTaps.all fun n => 1 ≤ n && n ≤ 15)

/-- Whether every operand of a command has the size the spec gives it. -/
def Instr.wellFormed : Instr → Bool
  | .mailboxRequest buffer _ => buffer.all fun b => b.length = 4096
  | .lineDataArrival _ _ answer | .ringFetchDone _ answer => answer.wellFormed
  | .frameAssay answer => answer.frameWellFormed
  | .translationDone reads => reads.all HalfRead.wellFormed
  | .bar2Read _ len reads => 1 ≤ len && len ≤ 4096 && reads.all HalfRead.wellFormed
  | .bar2Write _ bytes reads => 1 ≤ bytes.length && bytes.length ≤ 4096 && reads.all HalfRead.wellFormed
  | .forwardedEntryReceive _ _ _ _ entry => entry.length = 64
  | .rd f | .wr f | .line f | .mcLine f _ | .holdReq f | .rdData f | .wrAck f | .credit f | .retry f | .mgtRd f | .mgtWr f | .mgtRsp f =>
    f.wellFormed
  | .portTrainingDone _ r => r.wellFormed
  | .bpResponse _ _ _ data _ => data.length ≤ 128
  | .smReadData _ _ _ low high | .refreshStop _ _ _ low high => low.wellFormed && high.wellFormed
  | .lsRefreshSlot _ halves => halves.length = 32 && halves.all fun h => h.1.wellFormed && h.2.wellFormed
  | .dataFrame _ headers blocks _ => headers.length = 32 && blocks.length = 31
  | .bramAccess _ _ a b _ _ => a.all RamAccess.wellFormed && b.all RamAccess.wellFormed
  | .governorPeriod g => g.wellFormed
  | .bdFrame frame => frame.length = 544
  | .atsInvalidation _ _ n | .atsTranslationCompletion _ _ n _ _ _ _ => 12 ≤ n && n ≤ 64
  | _ => true

end Sys2Proof
end

