-- ==== Sys2Proof/Tests/Slice0.lean ====
section
/-! SUPPORT. Tests: well-formedness, witnesses of the statements' hypotheses, and single steps on small states. -/

namespace Sys2Proof.Tests

open Sys2Proof Sys2Proof.Machine

set_option Elab.async false

/-! Small states and frames. -/

/-- A client's key for key blobs. -/
def wrapKey : List Byte := List.replicate 32 0

/-- A client's session, with an empty key for its tags. -/
def clientAt (v : Via) (role : Nat) (w : Option DomainWrite) : Session := { sid := 5, role := role, via := v, kTag := [], kWrap := wrapKey, writing := w }

/-- The client by the mailbox. -/
abbrev client (role : Nat) (w : Option DomainWrite) : Session := clientAt .mailbox role w

/-- The module after reset with a dictionary, its server running. -/
def withDict (d : List (Nat × Nat)) : State := { State.reset with mgmt := .serving, dict := d }

/-- A state with one session. -/
def withClient (s : State) (x : Session) : State := { s with sessions := { s.sessions with sessions := [x] } }

/-- The client's next request, before its tag. -/
def untaggedAt (v : Via) (body : List Byte) : Frame :=
  { via := v, magic := 0xB15A, version := 1, sessionId := 5, seq := 1, bodyLen := BitVec.ofNat 16 body.length
    status := 0, rsv := 0, body := body, tag := [] }

/-- The client's next request. -/
def requestAt (v : Via) (op : Nat) (body : List Byte) : Frame :=
  { untaggedAt v body with tag := (hmac256 [] (requestBytes op (untaggedAt v body))).take 16 }

abbrev request (op : Nat) (body : List Byte) : Frame := requestAt .mailbox op body

/-- The names of a request: an entry, and one byte more. -/
def names (key type : Nat) : List Byte := natBytes 2 (key / 256) ++ natBytes 1 (key % 256) ++ natBytes 1 type

/-- The entry of the dictionary under a key. -/
def entryOf (key : Nat) : Entry :=
  match lookupEntry (key / 256) (key % 256) with
  | .inr e => e
  | .inl _ => constEntry 0 0 .u8 0

/-- A WRITE of a value by the client. -/
def writingAt (via : Via) (key v : Nat) : Frame :=
  requestAt via 0x11 (names key (typeCode (entryOf key).type) ++ natBytes (typeSize (entryOf key).type) v)

abbrev writing (key v : Nat) : Frame := writingAt .mailbox key v

/-- A request's bytes do not hold its tag. -/
theorem requestBytes_tag (op : Nat) (f : Frame) (t : List Byte) : requestBytes op { f with tag := t } = requestBytes op f := rfl

/-- Whether a body of an opcode is of a right length. -/
def bodyFits (op : Nat) (body : List Byte) : Bool :=
  decide (0x10 ≤ op) && decide ((bodyLength op).1 ≤ body.length) && (!(bodyLength op).2 || decide (body.length = (bodyLength op).1))
    && decide (body.length < 1190)

theorem request_good (v : Via) (op : Nat) (body : List Byte) (h : bodyFits op body = true) : badFrame op (requestAt v op body) = false := by
  simp only [bodyFits, Bool.and_eq_true, decide_eq_true_eq, Bool.or_eq_true, Bool.not_eq_true'] at h
  obtain ⟨⟨⟨h1, h2⟩, h3⟩, h4⟩ := h
  have ht : (requestAt v op body).tag.length = 16 := by simp [requestAt]
  have hb : (requestAt v op body).body = body := rfl
  have hl : (requestAt v op body).bodyLen.toNat = body.length := by simp [requestAt, untaggedAt]; omega
  unfold badFrame
  simp only [ht, hb, hl, h1, if_true]
  have hv : 1232 ≤ frameLimit (requestAt v op body).via := by unfold frameLimit; split <;> omega
  have e1 : (requestAt v op body).magic = 0xB15A := rfl
  have e2 : (requestAt v op body).version = 1 := rfl
  have e3 : (requestAt v op body).rsv = 0 := rfl
  have e4 : (requestAt v op body).status = 0 := rfl
  simp only [e1, e2, e3, e4]
  rcases h3 with h3 | h3
  · simp [h3]; omega
  · simp [h3]; omega

theorem request_tag (x : Session) (v : Via) (op : Nat) (body : List Byte) (h : x.kTag = []) : rightTag x op (requestAt v op body) := by
  have e : requestBytes op (requestAt v op body) = requestBytes op (untaggedAt v body) := requestBytes_tag op (untaggedAt v body) _
  unfold rightTag
  rw [h, e]
  simp only [requestAt]

/-- The client's next request is the next of its session. -/
theorem request_next (v : Via) (s : State) (op : Nat) (body : List Byte) (role : Nat) (w : Option DomainWrite) (h : bodyFits op body = true)
    (hr : reachesServer s v false = true) :
    isNext (withClient s (clientAt v role w)) op (requestAt v op body) (clientAt v role w) := by
  refine ⟨⟨hr, ⟨rfl, request_good v op body h⟩, ?_⟩, request_tag _ _ _ _ rfl, ?_⟩
  rotate_left
  · have e3 : (requestAt v op body).seq = 1 := rfl
    rw [e3]; rfl
  have e1 : (requestAt v op body).sessionId = 5 := rfl
  have e2 : (requestAt v op body).via = v := rfl
  simp [withClient, clientAt, e1, e2]
  cases v <;> simp [sameClient]

/-- Whether the client's WRITE of a value passes every check. -/
def acceptsAt (via : Via) (s : State) (role key v : Nat) : Bool :=
  let s1 := withClient s (clientAt via role none)
  let e := entryOf key
  let body := names key (typeCode e.type) ++ natBytes (typeSize e.type) v
  reachesServer s via false && bodyFits 0x11 body && decide (keyOf (leNat (body.take 2)) (leNat ((body.drop 2).take 1)) = key)
    && decide (reachEntry s1 role (key / 256) (key % 256) true = .inr e) && decide (e.type ≠ .domain)
    && decide (leNat ((body.drop 3).take 1) = typeCode e.type) && decide ((body.drop 4).length = typeSize e.type) && decide (leNat (body.drop 4) = v)
    && valueOk s1 e key v && stateOk s1 5 role e key v

theorem acceptedAt (via : Via) (s : State) (role key v : Nat) (h : acceptsAt via s role key v = true) :
    acceptedWrite (withClient s (clientAt via role none)) (writingAt via key v) (clientAt via role none) (entryOf key) key v := by
  simp only [acceptsAt, Bool.and_eq_true, decide_eq_true_eq] at h
  obtain ⟨⟨⟨⟨⟨⟨⟨⟨⟨h1, h2⟩, h3⟩, h4⟩, h5⟩, h6⟩, h7⟩, h8⟩, h9⟩, h10⟩ := h
  have hk : frameKey (writingAt via key v) = key := h3
  refine ⟨request_next via s 0x11 _ role none h2 h1, hk, ?_, h5, h6, h7, h8, h9, h10, fun _ => rfl⟩
  unfold reaches
  rw [hk]
  exact h4


/-- Whether the client's WRITE by the mailbox passes every check. -/
abbrev accepts (s : State) (role key v : Nat) : Bool := acceptsAt .mailbox s role key v

theorem accepted (s : State) (role key v : Nat) (h : accepts s role key v = true) :
    acceptedWrite (withClient s (client role none)) (writing key v) (client role none) (entryOf key) key v := acceptedAt .mailbox s role key v h

/-- The client's place on the field bus. -/
def busVia : Via := .fieldBus 1 2 (ownAddress State.reset) (BitVec.ofNat 16 (dictGet State.reset keyFbUdpPort))
/-! Witnesses: the machine as a whole. -/

theorem canonical_empty (s : State) (h : s.cores = []) : canonicalCores s := by
  unfold canonicalCores; rw [h]; exact ⟨rfl, fun e he => absurd he (List.not_mem_nil)⟩

theorem test_meets_IdleStep : State.reset.pending = [] ∧ canonicalCores State.reset := ⟨rfl, canonical_empty _ rfl⟩

theorem test_meets_CalendarDoesNotJump : exec .s1Exit State.reset = .next (wakeS1 State.reset) ∧ (∀ f, Instr.s1Exit ≠ .write f) := ⟨rfl, nofun⟩

theorem test_meets_MemoriesStayCanonical :
    canonicalStacked State.reset ∧ exec .s1Exit State.reset = .next (wakeS1 State.reset) ∧ canonicalCores State.reset
      ∧ step State.reset = .next (match step State.reset with | .next t => t | _ => State.reset) :=
  ⟨⟨rfl, rfl⟩, rfl, canonical_empty _ rfl, rfl⟩

/-! Witnesses: frames and sessions. -/

/-- A frame before a session. -/
def early (via : Via) (sid : U32) (body : List Byte) : Frame :=
  { via := via, magic := 0xB15A, version := 1, sessionId := sid, seq := 0, bodyLen := BitVec.ofNat 16 body.length
    status := 0, rsv := 0, body := body, tag := [] }

/-- An arrival on the field bus at the module's own address. -/
def ownBus (s : State) : Via := .fieldBus 1 2 (ownAddress s) (BitVec.ofNat 16 (dictGet s keyFbUdpPort))

theorem test_meets_FramesDropped :
    reachesServer State.reset .mailbox false = false ∧ reachesServer (withDict []) .mailbox false = true
      ∧ badFrame 0x10 { early .mailbox 0 [] with magic := 0 } = true := by decide

theorem test_meets_Discovery :
    let s := withDict []
    let v := ownBus s
    reachesServer s v true = true ∧ badFrame 0x01 (early v 0 []) = false ∧ v ≠ .mailbox ∧ reachesServer s .mailbox true = true
      ∧ badFrame 0x01 (early .mailbox 0 []) = false
      ∧ ({ s with sessions := { s.sessions with discovers := [v] } } : State).sessions.discovers = v :: [] := by decide

/-- A HELLO of a role. -/
def hello (role : Nat) : Frame := early .mailbox 0 (natBytes 20 role)

theorem test_meets_Hello :
    let s := withDict []
    let role := leNat ((hello 3).body.take 1)
    reachesServer s .mailbox false = true ∧ badFrame 0x02 (hello 3) = false ∧ badFrame 0x02 (hello 4) = false ∧ role = 3
      ∧ leNat ((hello 4).body.take 1) = 4 ∧ roleKey s 1 = none ∧ dictGet s keyDebugState ≠ 1 ∧ roleKey s 3 ≠ none
      ∧ mapGet false ({ s with sessions := { s.sessions with locked := [(3, true)] } } : State).sessions.locked role = true
      ∧ mapGet false s.sessions.locked role = false ∧ s.sessions.sessions.length + s.sessions.handshakes.length < sessionLimit s
      ∧ sessionLimit s ≤ (List.replicate 8 (client 1 none)).length := by decide

/-- A handshake of the owner that is pending. -/
def pendingProof : Handshake := { sid := 9, role := 3, via := .mailbox, clientNonce := List.replicate 16 1, deviceNonce := List.replicate 16 2 }

/-- A PROOF of that handshake. -/
def proof (body : List Byte) : Frame := early .mailbox 9 body

theorem proof_good (body : List Byte) (h : body.length = 32) : badFrame 0x03 (proof body) = false := by
  simp [badFrame, proof, early, bodyLength, frameLimit, byMailbox, h]

theorem test_meets_Proof :
    let s : State := { withDict [] with sessions := { handshakes := [pendingProof] } }
    let named (f : Frame) := s.sessions.handshakes.find? fun h => h.sid = f.sessionId && sameClient h.via f.via
    reachesServer s .mailbox false = true ∧ named (proof []) = some pendingProof ∧ named (early .mailbox 8 []) = none
      ∧ roleKey s 3 = some (List.replicate 32 0) ∧ (∀ m, badFrame 0x03 (proof (hmac256 (List.replicate 32 0) m)) = false)
      ∧ (∀ m, List.replicate 31 (0 : Byte) ≠ hmac256 (List.replicate 32 0) m) := by
  refine ⟨by decide, by decide, by decide, by decide, fun m => proof_good _ (by simp), fun m h => ?_⟩
  have := congrArg List.length h
  simp at this

theorem test_meets_SessionFrames :
    let s := withClient (withDict []) { client 3 none with lastSeq := 7, response := some [1] }
    (∀ row ∈ frameRows.drop 3, 0x10 ≤ row.1) ∧ reachesServer s .mailbox false = true ∧ badFrame 0x14 (request 0x14 []) = false
      ∧ rightTag { client 3 none with lastSeq := 7 } 0x14 (request 0x14 []) ∧ (request 0x14 []).seq ≠ 7 + 1
      ∧ ¬ rightTag (client 3 none) 0x14 { request 0x14 [] with tag := [] } := by
  refine ⟨by decide, by decide, request_good _ _ _ (by decide), request_tag _ _ _ _ rfl, ?_, fun h => ?_⟩
  · have e : (request 0x14 []).seq = 1 := rfl
    rw [e]; decide
  · have e : ({ request 0x14 [] with tag := [] } : Frame).tag = [] := rfl
    unfold rightTag at h
    rw [e] at h
    have := congrArg List.length h
    simp at this

theorem test_meets_RequestsExecuted :
    let s := withDict []
    let x := client 3 none
    isNext (withClient s x) 0x14 (request 0x14 []) x ∧ isNext (withClient s x) 0x15 (request 0x15 []) x
      ∧ isNext (withClient s x) 0x10 (request 0x10 (names keyTollRate 0)) x
      ∧ reachEntry (withClient s x) 3 (keyTollRate / 256) (keyTollRate % 256) false = .inr (entryOf keyTollRate)
      ∧ isNext (withClient s x) 0x12 (request 0x12 (names keyLedgerData 0 ++ natBytes 8 64)) x ∧ (entryOf keyLedgerData).type = .domain
      ∧ domainSet keyLedgerData = none
      ∧ isNext (withClient s x) 0x13 (request 0x13 (names keyKeyLoad 1 ++ natBytes 4 0 ++ natBytes 4 64)) x
      ∧ reachEntry (withClient s x) 3 (keyKeyLoad / 256) (keyKeyLoad % 256) true = .inr (entryOf keyKeyLoad) := by
  refine ⟨request_next _ _ _ _ _ _ (by decide) (by decide), request_next _ _ _ _ _ _ (by decide) (by decide),
    request_next _ _ _ _ _ _ (by decide) (by decide), by decide, request_next _ _ _ _ _ _ (by decide) (by decide), by decide, by decide,
    request_next _ _ _ _ _ _ (by decide) (by decide), by decide⟩

/-- A transfer that one segment has begun. -/
def begun : DomainWrite := { key := keyKeyLoad, total := 64, received := List.replicate 16 0 }

theorem test_meets_RequestsExecuted_continued :
    isNext (withClient (withDict []) (client 3 (some begun))) 0x13 (request 0x13 (names keyKeyLoad 0 ++ natBytes 4 16 ++ natBytes 4 64 ++ List.replicate 16 0))
      (client 3 (some begun)) ∧ (client 3 (some begun)).writing = some begun ∧ begun.received.length = 16 ∧ 16 + 16 ≤ begun.total := by
  refine ⟨request_next _ _ _ _ _ _ (by decide) (by decide), rfl, rfl, by decide⟩

theorem test_meets_RequestsRefused :
    let s := withDict []
    let e := entryOf keyThreadQuantum
    isNext (withClient s (client 3 none)) 0x11 (request 0x11 (names 0xA00001 7 ++ natBytes 4 0)) (client 3 none)
      ∧ reachEntry s 3 0xA000 1 true = .inl 0x09 ∧ reachEntry s 3 0xEFFF 1 true = .inl 0x09
      ∧ reachEntry s 3 (keyThreadQuantum / 256) (keyThreadQuantum % 256) true = .inr e ∧ typeCode e.type ≠ 99 ∧ valueOk s e keyThreadQuantum 15 = false
      ∧ valueOk s e keyThreadQuantum 16 = true
      ∧ stateOk { s with dict := [(keyModuleState, 2)] } 5 3 (entryOf keyPowerReq) keyPowerReq 3 = false
      ∧ standbyServes State.reset = true ∧ inStandby (keyTollRate / 256) = false ∧ inStandby (keyModuleState / 256) = true
      ∧ (∀ r, reachEntry s 1 (keyModuleState / 256) (keyModuleState % 256) true = .inr r → False) := by
  refine ⟨request_next _ _ _ _ _ _ (by decide) (by decide), by decide, by decide, by decide, by decide, by decide, by decide, by decide, by decide,
    by decide, by decide, ?_⟩
  intro r h
  have e : reachEntry (withDict []) 1 (keyModuleState / 256) (keyModuleState % 256) true = .inl 0x04 := by decide
  rw [e] at h
  exact absurd h (by simp)

theorem test_meets_ReservedIndices :
    isNext (withClient (withDict []) (client 3 none)) 0x10 (request 0x10 (names 0xA00001 0)) (client 3 none)
      ∧ frameKey (request 0x10 (names 0xA00001 0)) / 256 = 0xA000 ∧ frameKey (request 0x10 (names 0xEFFF01 0)) / 256 = 0xEFFF := by
  refine ⟨request_next _ _ _ _ _ _ (by decide) (by decide), by decide, by decide⟩

theorem test_meets_HostMessages :
    let s := withDict []
    let ctx : BitVec 512 := BitVec.ofNat 512 (1 + 6 <<< 8 + 1 <<< 192)
    let x : Ring := { ctx := ctx }
    dictGet s keyMailboxEnable ≠ 0 ∧ State.reset.power.mode ≠ .off ∧ ringEn x = true ∧ ringErr x = false
      ∧ ringCount x = 1 ∧ leNat (([2, 0, 24, 0] : List Byte).take 2) = 2
      ∧ parseFrame (headerBytes 0x01 0 0 0 0) = some (0x01, early .mailbox 0 []) := by decide +kernel

theorem test_meets_ManagementAndModuleReset :
    let s := withDict []
    s.mgmt = .serving ∧ ({ s with mgmt := .reloading } : State).mgmt = .reloading ∧ State.reset.mgmt = .standby ∧ State.reset.power.mode = .on
      ∧ dictGet State.reset keyModuleState = 0 ∧ firmwareOk State.reset (dictGet State.reset keyFwSlotSelect) = true
      ∧ firmwareOk { State.reset with fabric := { store := { firmware := [] } } } 0 = false
      ∧ isUnsealing { s with dict := [(keyDebugState, 1)] } = true ∧ isUnsealing s = false := by decide
/-! Witnesses: the units of a core. -/

/-- The module after reset with core 0 given. -/
def withCore (k : Core) : State := { State.reset with cores := [(0, k)] }

/-- A descriptor posted by thread 0. -/
def posted (n : Nat) : Posted := { desc := BitVec.ofNat 512 n, thread := 0, machine := true, pc := 0, tagged := false }

/-- A 64 × 64 MMA of E4M3 over 64 slices, out in FP32; with a seed at 0x40000. -/
def mmaPost (op seed : Nat) : Posted :=
  posted (op + 7 <<< 16 + seed <<< 23 + 64 <<< 32 + 64 <<< 96 + 0x10000 <<< 128 + 64 <<< 160 + 0x20000 <<< 192 + 256 <<< 224 + 0x40000 <<< 384)

/-- A core whose engine 0 has a descriptor at its head, and a seed stage. -/
def engineCore (p : Posted) (seed : SeedStage) : Core := { engines := [(0, { queue := [p], seed := seed, dummy := { density := 16 } })] }

/-- The header of a seed of E4M3 pairs at an anchor. -/
def seedHeader (pair : Nat) (anchor : Int) : WideHeader :=
  wideHeaderOf (wideHeaderBytes { wideHeaderOf (List.replicate 64 0) with pair := pair, anchor := anchor })

theorem test_meets_EngineIssue :
    let p := mmaPost 1 0
    let q := mmaPost 1 1
    let d := engineDesc p.desc
    let k := engineCore p .empty
    let w := dictGet State.reset keyDummyWindow
    let u := dictGet State.reset keyWarmupCycles
    fmtOfCode d.aFmt = some .e4m3 ∧ fmtOfCode d.bFmt = some .e4m3 ∧ (descPair d).isSome = true ∧ mayIssue w u k 0 d = true ∧ fld p.desc 0 8 = 1
      ∧ (mayIssue w u (engineCore q (.loaded (seedHeader 200 5) [] false 0)) 0 (engineDesc q.desc) = true ∧ descPair (engineDesc q.desc) ≠ some 200) := by
  decide +kernel

theorem test_meets_EnginePhases :
    let q := mmaPost 1 1
    let k := engineCore q .empty
    let job (s : JobStage) : EngineJob := { post := q, serial := 0, stage := s, windows := [], anchor := 0, trunc := 0, overflow := false
                                            seedHeader := none, poisoned := true, room := 0, out := [] }
    ([job .injecting].find? fun j => j.stage = .injecting) = some (job .injecting)
      ∧ ([job .draining].find? fun j => j.stage = .draining) = some (job .draining) ∧ (job .flushing).stage = .flushing
      ∧ (engineDesc q.desc).seedEn = true ∧ mayRead k.mem (.engine 0 0) (wideRange (engineDesc q.desc).seedAddr) = true
      ∧ k.mem.holds.length < 128 ∧ (getEngine (engineCore q .loading) 0).seed = .loading := by decide +kernel

theorem test_meets_DummyOperation :
    let p := mmaPost 1 0
    let x (d : Dummy) : Engine := { queue := [p], dummy := d }
    dictGet (withDict [(keyDummyWindow, 5)]) keyDummyWindow ≠ 0 ∧ inGap (x { density := 16 }) = true
      ∧ mayIssue 0 (dictGet State.reset keyWarmupCycles) { engines := [(0, x {})] } 0 (engineDesc p.desc) = true
      ∧ (x { warming := true }).dummy.warming = true := by decide +kernel

/-- A vector descriptor over one row of one element of FP32, by its operation. -/
def vectorPost (op src dst : Nat) : Posted :=
  posted (op + src <<< 8 + dst <<< 12 + 1 <<< 32 + 1 <<< 64 + 0x100 <<< 128 + 0x1000 <<< 160 + 0x100 <<< 192 + 0x2000 <<< 224 + 0x100 <<< 256
    + 0x3000 <<< 288 + 0x100 <<< 320)

/-- A core whose vector unit has a descriptor at its head. -/
def vectorCore (p : Posted) : Core := { vector := { queue := [p] } }

theorem test_meets_VectorElements :
    (∀ r ∈ elementRows, mayStart (vectorCore (vectorPost r.1 7 7)) (vectorDesc (vectorPost r.1 7 7).desc) = true ∧ (vectorDesc (vectorPost r.1 7 7).desc).op = r.1)
      ∧ (∀ r ∈ reductionRows, mayStart (vectorCore (vectorPost r.1 7 7)) (vectorDesc (vectorPost r.1 7 7).desc) = true
          ∧ (vectorDesc (vectorPost r.1 7 7).desc).op = r.1) ∧ fmtOfCode 7 = some .fp32 := by decide +kernel

theorem test_meets_VectorRecords :
    ∀ op ∈ [0x0D, 0x0E, 0x0F, 0x10, 0x30, 0x31, 0x40, 0x41, 0x42, 0x43],
      let p := vectorPost op (if op < 0x40 then 7 else 8) (if op = 0x0D then 0 else 7)
      let d := vectorDesc p.desc
      mayStart (vectorCore p) d = true ∧ startStatus (vectorCore p).mem d = 0 ∧ d.op = op := by decide +kernel

theorem test_meets_WideElements :
    let x : Window := { w := 6 }
    windowFits (x.w.toInt + x.w.toInt) = true ∧ windowFits x.w.toInt = true ∧ windowFits (x.w.toInt * 2 ^ (1 - (0 : Int)).toNat) = true
      ∧ x.spec = .none ∧ ({ spec := .posInf } : Window).spec ≠ .none := by decide +kernel

theorem test_meets_VectorEnds :
    let mem : CoreMem := { bytes := [(0, 1), (4, 1)] }
    (∀ op ∈ [0x0D, 0x40, 0x42],
      let p := posted (op + (if op < 0x40 then 7 else 8) <<< 8 + 1 <<< 12 + 1 <<< 32 + 1 <<< 64 + 0x1000 <<< 160 + 0x8000 <<< 224 + 0x3000 <<< 288
        + 0x7FFF <<< 384)
      let k : Core := { vectorCore p with mem := if op = 0x42 then { bytes := [(2, 1), (4, 1)] } else mem }
      mayStart k (vectorDesc p.desc) = true ∧ startStatus k.mem (vectorDesc p.desc) ≠ 0)
      ∧ ({ running := some { post := vectorPost 1 7 7, writes := [], poisoned := true, status := 0 } } : VectorUnit).running
        = some { post := vectorPost 1 7 7, writes := [], poisoned := true, status := 0 } := by decide +kernel

/-- A gather of one element of 4 bytes at a source address: indexes of 2 bytes at 0x1000, destination 0x2000, a window of the whole space. -/
def gatherPost (src fill hi : Nat) : Posted :=
  posted (fill <<< 11 + 4 <<< 16 + 1 <<< 32 + 0x1000 <<< 64 + 0x2000 <<< 96 + 4 <<< 128 + src <<< 192 + 4 <<< 256 + hi <<< 384)

/-- A core whose gather engine 0 has a descriptor at its head. -/
def gatherCore (p : Posted) : Core := { gathers := [(0, { queue := [p] })] }

/-- A gather that runs. -/
def gatherJob (p : Posted) (waiting : List (Nat × List Nat)) (fetching : List Nat) : GatherJob :=
  { post := p, next := 1, waiting := waiting, ahead := [], fetching := fetching, poisoned := true, stop := none }

theorem test_meets_Gathers :
    let own := gatherPost (2 ^ 60) 0 (2 ^ 60 + 100)
    let out := gatherPost (2 ^ 60) 1 0
    let k := gatherCore own
    let d := gatherDesc own.desc
    mayRead k.mem (.gather 0) (gatherIndexRange d) = true ∧ mayWrite k.mem (.gather 0) (gatherDstRange d) = true ∧ k.mem.holds.length ≤ 126
      ∧ d.count = 1 ∧ 0 < d.elem ∧ gatherInside d (gatherSource k.mem d 0) = true
      ∧ ownSpace (sysAddr (withCore k)) (gatherSource k.mem d 0) / 2 ^ 22 = 2 ^ 38
      ∧ (∀ n < d.count * d.idxSize, rangeHasByte (gatherDstRange d) (d.idx + n) = false)
      ∧ (∀ n < d.count, ∀ b < d.elem, rangeHasByte (gatherDstRange d) (bits (gatherSource k.mem d n) 0 22 + b) = false)
      ∧ gatherInside (gatherDesc out.desc) (gatherSource k.mem (gatherDesc out.desc) 0) = false ∧ (gatherDesc out.desc).oobZero = true := by
  decide +kernel

theorem test_meets_Gathers_lines :
    let p := gatherPost 0x400 0 0x1000
    let d := gatherDesc p.desc
    let j := gatherJob p [(0, [8])] [8]
    j.fetching = [8] ∧ d.count ≤ j.next ∧ (gatherFetch d 8).1 / 128 = 8 ∧ gatherLines d (gatherSource {} d 0) = [8]
      ∧ gatherInside d (gatherSource {} d 0) = true ∧ (gatherJob p [] []).waiting = [] := by decide +kernel

/-! Witnesses: control cores. -/

/-- A thread about to run the word at 0x1000: x5 and x6 hold 8 and 7. -/
def aThread : Thread := { pc := 0x1000, state := .active, regs := [(5, 8), (6, 7)] }

/-- Core 0 with thread 0 at an instruction word, whose line is in the instruction cache; line 0 is in the data cache. -/
def ccCore (x : Thread) (w : Nat) (mem : CoreMem) (data : List CacheLine) : Core :=
  { mem := mem
    cc := { threads := [(0, x)], icache := [(0x40, [{ line := 0x40, bytes := natBytes 64 w, poison := false }])], dcache := [(0, data)] } }

/-- A line of zeros at address 0. -/
def zeroLine (poison : Bool) : CacheLine := { line := 0, bytes := List.replicate 64 0, poison := poison }

def atWord (x : Thread) (w : Nat) : State := withCore (ccCore x w {} [zeroLine false])

/-- Whether thread 0 of core 0 has an instruction to run. -/
def runs (s : State) (op : CcOp) (len : Nat) : Bool :=
  decide (issuing s 0 = some 0) && !(getThread s 0 0).stopping
    && (match fetchAt (getThread s 0 0) (heldCache s false (getCc s 0).icache) with | .insn _ o n _ => decide (o = op) && decide (n = len) | _ => false)

theorem runs_has (s : State) (op : CcOp) (len : Nat) (h : runs s op len = true) : ccHas s 0 0 op len := by
  simp only [runs, Bool.and_eq_true, Bool.not_eq_true'] at h
  obtain ⟨⟨h1, h2⟩, h3⟩ := h
  refine ⟨of_decide_eq_true h1, h2, ?_⟩
  cases hf : fetchAt (getThread s 0 0) (heldCache s false (getCc s 0).icache) with
  | insn cache o n w =>
    rw [hf] at h3
    simp only [Bool.and_eq_true, decide_eq_true_eq] at h3
    exact ⟨cache, w, by rw [h3.1, h3.2]⟩
  | miss l v => rw [hf] at h3; exact absurd h3 (by simp)
  | trap c v => rw [hf] at h3; exact absurd h3 (by simp)

theorem test_meets_CcComputes :
    ccHas (atWord aThread 0x123455B7) 0 0 (.lui 11 0x12345000) 4 ∧ ccHas (atWord aThread 0xFFFFF597) 0 0 (.auipc 11 0xFFFFFFFFFFFFF000) 4
      ∧ ccHas (atWord aThread 0xFFF28593) 0 0 (.aluImm .add false 11 5 0xFFFFFFFFFFFFFFFF) 4 ∧ ccHas (atWord aThread 0x406285B3) 0 0 (.alu .sub false 11 5 6) 4
      ∧ ccHas (atWord aThread 0xFF9FF06F) 0 0 (.jal 0 0xFFFFFFFFFFFFFFF8) 4 ∧ ccHas (atWord aThread 0x8282) 0 0 (.jalr 0 5 0) 2
      ∧ ccHas (atWord aThread 0xFE628EE3) 0 0 (.branch 0 5 6 0xFFFFFFFFFFFFFFFC) 4 ∧ ccHas (atWord aThread 0x0FF0000F) 0 0 .fence 4 := by
  refine ⟨?_, ?_, ?_, ?_, ?_, ?_, ?_, ?_⟩ <;> exact runs_has _ _ _ (by decide +kernel)

theorem test_loadHits (s : State) (a n : Nat) (atomic : Bool) (ls : List CacheLine)
    (h : (match cacheLines (heldCache s true (getCore s 0).cc.dcache) (linesOf a n) [] with | .hit _ l => decide (l = ls) | .miss _ => false) = true)
    (h2 : badByte (getThread s 0 0).csr (dataMode (getThread s 0 0)) a n .load atomic = none) (h3 : poisonByte (getCore s 0).mem ls a n = none) :
    loadHits s 0 0 a n atomic ls := by
  refine ⟨h2, ?_, h3⟩
  cases hc : cacheLines (heldCache s true (getCore s 0).cc.dcache) (linesOf a n) [] with
  | hit d l => rw [hc] at h; exact ⟨d, by rw [of_decide_eq_true h]⟩
  | miss l => rw [hc] at h; exact absurd h (by simp)

theorem test_meets_CcMemory_loads :
    let s := atWord aThread 0x0002B583
    let l := atWord aThread 0x1002B5AF
    ccHas s 0 0 (.load 3 false 11 5 0) 4 ∧ loadHits s 0 0 8 8 false [zeroLine false] ∧ (∀ i < 8, granuleComplete (getCore s 0).mem ((8 + i) / 64) = true)
      ∧ ccHas l 0 0 (.lr 3 11 5) 4 ∧ (regGet (getThread l 0 0) 5).toNat = 8 ∧ loadHits l 0 0 8 8 true [zeroLine false] :=
  ⟨runs_has _ _ _ (by decide +kernel), test_loadHits _ _ _ _ _ (by decide +kernel) (by decide +kernel) (by decide +kernel), by decide +kernel,
    runs_has _ _ _ (by decide +kernel), by decide +kernel, test_loadHits _ _ _ _ _ (by decide +kernel) (by decide +kernel) (by decide +kernel)⟩

theorem test_meets_CcMemory_stores :
    let s := atWord aThread 0x0062B023
    let x := aThread
    let y : Thread := { aThread with reservation := some 8 }
    let q := atWord x 0x1862B5AF
    let q' := atWord y 0x1862B5AF
    let r := atWord x 0x0062B5AF
    ccHas s 0 0 (.store 3 5 6 0) 4 ∧ badByte x.csr (dataMode x) 8 8 .store false = none
      ∧ ccHas q 0 0 (.sc 3 11 5 6) 4 ∧ ccHas q' 0 0 (.sc 3 11 5 6) 4 ∧ badByte x.csr (dataMode x) 8 8 .store true = none
      ∧ poisonByte (getCore q 0).mem [] 8 8 = none ∧ (getThread q 0 0).reservation ≠ some 8 ∧ (getThread q' 0 0).reservation = some 8
      ∧ ccHas r 0 0 (.amo .add 3 11 5 6) 4 ∧ loadHits r 0 0 8 8 true [zeroLine false] :=
  ⟨runs_has _ _ _ (by decide +kernel), by decide +kernel, runs_has _ _ _ (by decide +kernel), runs_has _ _ _ (by decide +kernel), by decide +kernel,
    by decide +kernel, by decide +kernel, by decide +kernel, runs_has _ _ _ (by decide +kernel),
    test_loadHits _ _ _ _ _ (by decide +kernel) (by decide +kernel) (by decide +kernel)⟩

theorem test_meets_CcMisses :
    let s := atWord { aThread with pc := 0x2000 } 0
    let i := atWord { aThread with pc := 0x100000000 } 0
    issuing s 0 = some 0 ∧ fetchAt (getThread s 0 0) (heldCache s false (getCc s 0).icache) = .miss 0x80 0x2000 ∧ inImage (64 * 0x80) = false
      ∧ issuing i 0 = some 0 ∧ fetchAt (getThread i 0 0) (heldCache i false (getCc i 0).icache) = .miss 0x4000000 0x100000000 ∧ inImage (64 * 0x4000000) = true := by
  decide +kernel

theorem test_meets_CcTraps :
    let x := aThread
    let far : Thread := { x with pc := 0x400000 }
    let out : Thread := { x with regs := [(5, 0x3FFFFC), (6, 1)] }
    let odd : Thread := { x with regs := [(5, 9)] }
    let marked := withCore (ccCore x 0x0002B583 { poison := [(0, true)] } [zeroLine true])
    (issuing (atWord far 0) 0 = some 0 ∧ fetchAt far (heldCache (atWord far 0) false (getCc (atWord far 0) 0).icache) = .trap 1 0x400000)
      ∧ ccHas (atWord x 0x73) 0 0 .ecall 4 ∧ ccHas (atWord x 0x100073) 0 0 .ebreak 4 ∧ ccHas (atWord x 0) 0 0 .illegal 2
      ∧ (ccHas (atWord out 0x0002B583) 0 0 (.load 3 false 11 5 0) 4 ∧ badByte out.csr (dataMode out) 0x3FFFFC 8 .load false = some 0x400000)
      ∧ (ccHas marked 0 0 (.load 3 false 11 5 0) 4 ∧ badByte x.csr (dataMode x) 8 8 .load false = none
        ∧ cacheLines (heldCache marked true (getCore marked 0).cc.dcache) (linesOf 8 8) [] = .hit [(0, [zeroLine true])] [zeroLine true]
        ∧ poisonByte (getCore marked 0).mem [zeroLine true] 8 8 = some 8)
      ∧ (ccHas (atWord out 0x0062B023) 0 0 (.store 3 5 6 0) 4 ∧ badByte out.csr (dataMode out) 0x3FFFFC 8 .store false = some 0x400000)
      ∧ ccHas (atWord odd 0x1002B5AF) 0 0 (.lr 3 11 5) 4 ∧ ccHas (atWord odd 0x1862B5AF) 0 0 (.sc 3 11 5 6) 4
      ∧ ccHas (atWord { x with regs := [(5, 0x400000)] } 0x0062B5AF) 0 0 (.amo .add 3 11 5 6) 4
      ∧ badByte x.csr (dataMode x) 0x400000 8 .store true = some 0x400000 :=
  ⟨by decide +kernel, runs_has _ _ _ (by decide +kernel), runs_has _ _ _ (by decide +kernel), runs_has _ _ _ (by decide +kernel),
    ⟨runs_has _ _ _ (by decide +kernel), by decide +kernel⟩,
    ⟨runs_has _ _ _ (by decide +kernel), by decide +kernel, by decide +kernel, by decide +kernel⟩,
    ⟨runs_has _ _ _ (by decide +kernel), by decide +kernel⟩, runs_has _ _ _ (by decide +kernel), runs_has _ _ _ (by decide +kernel),
    runs_has _ _ _ (by decide +kernel), by decide +kernel⟩

theorem test_meets_CcCsr :
    let x := aThread
    let u : Thread := { x with machine := false, csr := { pmpcfg0 := 0x1F, pmpaddr := [(0, 0x3FFFFFFFFFFFFF)] } }
    let s := atWord x 0x340315F3
    ccHas s 0 0 (.csr 1 11 6 0x340) 4 ∧ csrRead s 0 0 0x340 = some 0 ∧ bits 0x340 10 2 ≠ 3
      ∧ ccHas (atWord u 0x340315F3) 0 0 (.csr 1 11 6 0x340) 4 ∧ bits 0x340 8 2 ≠ 0
      ∧ ccHas (atWord x 0xF14315F3) 0 0 (.csr 1 11 6 0xF14) 4 ∧ bits 0xF14 10 2 = 3
      ∧ ccHas (atWord x 0x100025F3) 0 0 (.csr 2 11 0 0x100) 4 ∧ csrRead (atWord x 0x100025F3) 0 0 0x100 = none :=
  ⟨runs_has _ _ _ (by decide +kernel), by decide +kernel, by decide +kernel, runs_has _ _ _ (by decide +kernel), by decide +kernel,
    runs_has _ _ _ (by decide +kernel), by decide +kernel, runs_has _ _ _ (by decide +kernel), by decide +kernel⟩

theorem test_meets_CcSystem :
    ccHas (atWord aThread 0x10500073) 0 0 .wfi 4 ∧ ccHas (atWord aThread 0x100F) 0 0 .fenceI 4 ∧ ccHas (atWord aThread 0x30200073) 0 0 .mret 4 :=
  ⟨runs_has _ _ _ (by decide +kernel), runs_has _ _ _ (by decide +kernel), runs_has _ _ _ (by decide +kernel)⟩

/-- Core 0 stalled on a miss of thread 0. -/
def stalled (x : Thread) (w : Nat) (m : Miss) : State :=
  withCore { ccCore x w {} [] with cc := { (ccCore x w {} []).cc with miss := some m } }

theorem test_meets_CcMissReturns :
    let m : Miss := { inst := false, line := 0, image := false, va := 8 }
    let w : Miss := { inst := true, line := 0x4000000, image := true, va := 0x100000000 }
    let s := stalled { aThread with issued := true } 0x0002B583 m
    let line : CacheLine := { line := 0, bytes := coreRead (getCore s 0).mem 0 64, poison := granulePoison (getCore s 0).mem 0 }
    let q : Request := { id := 0, who := .image 0 0x4000000, write := false, addr := 0, phys := none, be := 0, bytes := [], poison := 0, prefetch := false
                         pasid := none, flit := none, left := [], state := .answered .failed }
    let i := stalled { aThread with pc := 0x100000000 } 0 w
    (getCc s 0).miss = some m ∧ activeThread (getCc s 0) = some 0 ∧ (getThread s 0 0).issued = true ∧ runs { s with cores := (atWord aThread 0x0002B583).cores } (.load 3 false 11 5 0) 4 = true
      ∧ loadHits (setCc s 0 { getCc s 0 with miss := none, dcache := cacheFill (getCc s 0).dcache line }) 0 0 8 8 false [line]
      ∧ activeThread (getCc (stalled { aThread with state := .ready } 0 m) 0) = none
      ∧ (getCc i 0).miss = some w ∧ activeThread (getCc i 0) = some 0
      ∧ requestOf { i.net with requests := [q] } (.image 0 0x4000000) = some q := by
  refine ⟨by decide +kernel, by decide +kernel, by decide +kernel, by decide +kernel,
    test_loadHits _ _ _ _ _ (by decide +kernel) (by decide +kernel) (by decide +kernel), by decide +kernel, by decide +kernel, by decide +kernel,
    by decide +kernel⟩

theorem test_meets_CcScheduling :
    let ready : Thread := { aThread with state := .ready }
    let k (a b : Thread) : State := withCore { cc := { threads := [(0, a), (1, b)] } }
    let waiting : Thread := { state := .taskWait, wfi := true, csr := { mie := 0x80, xgtccmp := 0 } }
    let late : Thread := { aThread with csr := { mie := 0x80, mstatus := 8, xgtccmp := 0 } }
    (activeThread (getCc (k {} ready) 0) = none ∧ (([0 + 1, 0 + 2, 0 + 3, 0] : List ThreadId).find? fun t =>
        (mapGet {} (getCc (k {} ready) 0).threads t.val).state = .ready) = some 1)
      ∧ (activeThread (getCc (k aThread ready) 0) = some 0 ∧ dictGet (k aThread ready) keyThreadQuantum ≠ 0 ∧ (getCc (k aThread ready) 0).miss = none)
      ∧ (waiting.csr.xgtccmp.toNat ≤ ccTime (k waiting {}) ∧ locallyPending (k waiting {}) 0 0 ≠ 0)
      ∧ ccTime State.reset < aThread.csr.xgtccmp.toNat
      ∧ (takeable (k late {}) 0 0 = some 7 ∧ late.debugHalted = false) := by decide +kernel

/-! Witnesses: the custom commands of the control cores. -/

/-- A custom command's word: rd is x11, its sources are x5 and x6 (R208). -/
def xWord (fn task : Nat) : Nat := 0x0B + 11 <<< 7 + (fn / 64) <<< 12 + 5 <<< 15 + 6 <<< 20 + task <<< 25 + (fn % 64) <<< 26

/-- A thread whose x5 and x6 hold two values. -/
def xThread (a b : U64) : Thread := { aThread with regs := [(5, a), (6, b)] }

/-- Core memory that holds some bytes. -/
def memOf (a : Nat) (bytes : List Byte) : CoreMem :=
  { bytes := ((List.range bytes.length).map fun i => (a + i, bytes.getD i 0)).filter fun e => e.2 ≠ 0 }

/-- Core 0 about to run a custom command. -/
def xCore (fn : Nat) (a b : U64) (mem : CoreMem) : Core := ccCore (xThread a b) (xWord fn 0) mem []

theorem runs_xgrn (s : State) (fn : Nat) (task : Bool) (a b : U64) (h : runs s (.xgrn fn task 11 5 6) 4 = true)
    (ha : regGet (getThread s 0 0) 5 = a) (hb : regGet (getThread s 0 0) 6 = b) : xgrnHas s 0 0 fn task 11 a b :=
  ⟨5, 6, runs_has _ _ _ h, ha, hb⟩

/-- Whether thread 0 of core 0 has a custom command with two values. -/
def hasX (s : State) (fn : Nat) (a b : U64) : Bool :=
  runs s (.xgrn fn false 11 5 6) 4 && decide (regGet (getThread s 0 0) 5 = a) && decide (regGet (getThread s 0 0) 6 = b)

theorem hasX_has (s : State) (fn : Nat) (a b : U64) (h : hasX s fn a b = true) : xgrnHas s 0 0 fn false 11 a b := by
  simp only [hasX, Bool.and_eq_true, decide_eq_true_eq] at h
  exact runs_xgrn s fn false a b h.1.1 h.1.2 h.2

/-- The descriptor of a vector operation in core memory at 0x4000. -/
def descMem (d : BitVec 512) : CoreMem := memOf 0x4000 (natBytes 64 d.toNat)

theorem test_meets_XgrnPosts :
    let d := (vectorPost 1 7 7).desc
    let good := withCore (xCore 0 0x4000 4 (descMem d))
    let bad := withCore (xCore 0 0x4000 4 {})
    let full := withCore { xCore 0 0x4000 0x14 (descMem d) with vector := { queue := List.replicate 16 (vectorPost 1 7 7) } }
    xgrnHas good 0 0 0 false 11 0x4000 4 ∧ xgrnHas bad 0 0 0 false 11 0x4000 4 ∧ xgrnHas full 0 0 0 false 11 0x4000 0x14
      ∧ granuleBad (getThread good 0 0) 0x4000 64 .load = none ∧ settledRange (getCore good 0).mem { base := 0x4000, rowBytes := 64, pitch := 0, rows := 1 } = true
      ∧ postStatus good 0 4 d = 0 ∧ BitVec.ofNat 512 (leNat (coreRead (getCore good 0).mem 0x4000 64)) = d ∧ postStatus bad 0 4 0 ≠ 0
      ∧ unitQueued (getCore full 0) 4 = 16 ∧ xgrnHas (withCore (xCore 0 0x400000 4 {})) 0 0 0 false 11 0x400000 4
      ∧ granuleBad (xThread 0x400000 4) 0x400000 64 .load = some 0x400000 ∧ xgrnHas (withCore (xCore 0 8 7 {})) 0 0 0 false 11 8 7
      ∧ xgrnHas (withCore (xCore 1 4 0 {})) 0 0 1 false 11 4 0 :=
  ⟨hasX_has _ _ _ _ (by decide +kernel), hasX_has _ _ _ _ (by decide +kernel), hasX_has _ _ _ _ (by decide +kernel), by decide +kernel, by decide +kernel,
    by decide +kernel, by decide +kernel, by decide +kernel, by decide +kernel, hasX_has _ _ _ _ (by decide +kernel), by decide +kernel,
    hasX_has _ _ _ _ (by decide +kernel), hasX_has _ _ _ _ (by decide +kernel)⟩

theorem test_meets_XgrnHaltClear :
    let at_ (a : U64) (k : Core) : State := withCore { k with cc := (xCore 2 a 0 {}).cc }
    let v := at_ 0x14 { vector := { queue := [vectorPost 1 7 7], halted := true } }
    let e := at_ 1 { engines := [(1, { halted := true })] }
    let g (a : U64) := at_ a { gathers := [(0, { halted := true, running := some (gatherJob (gatherPost 0 0 0) [] []) })] }
    xgrnHas v 0 0 2 false 11 0x14 0 ∧ (getCore v 0).vector.halted = true ∧ unitIsHalted (getCore v 0) 4 = true
      ∧ xgrnHas e 0 0 2 false 11 1 0 ∧ (getEngine (getCore e 0) 1).halted = true
      ∧ xgrnHas (g 5) 0 0 2 false 11 5 0 ∧ xgrnHas (g 0x15) 0 0 2 false 11 0x15 0 ∧ (getGather (getCore (g 5) 0) 0).halted = true
      ∧ (gatherDesc (gatherPost 0 0 0).desc).count ≤ (gatherJob (gatherPost 0 0 0) [] []).next
      ∧ xgrnHas (at_ 7 {}) 0 0 2 false 11 7 0 ∧ unitIsHalted {} 0 = false :=
  ⟨hasX_has _ _ _ _ (by decide +kernel), by decide +kernel, by decide +kernel, hasX_has _ _ _ _ (by decide +kernel), by decide +kernel,
    hasX_has _ _ _ _ (by decide +kernel), hasX_has _ _ _ _ (by decide +kernel), by decide +kernel, by decide +kernel,
    hasX_has _ _ _ _ (by decide +kernel), by decide +kernel⟩

/-- A hold of a thread's handle on one granule. -/
def handleHold (t : ThreadId) (h : Fin 4) (a : Nat) (w : Bool) : Hold :=
  { owner := .thread t h, write := w, part := .whole, range := { base := a, rowBytes := 64, pitch := 0, rows := 1 } }

theorem test_meets_XgrnHandles :
    let x := xThread 0x2000 63
    let r := xRange 0x2000 63
    let four : CoreMem := { holds := [handleHold 0 0 0x100 false, handleHold 0 1 0x140 false, handleHold 0 2 0x180 false, handleHold 0 3 0x1C0 false] }
    let one : CoreMem := { holds := [handleHold 0 0 0x100 true], incomplete := [(4, true)] }
    xgrnHas (withCore (xCore 64 0x2000 63 {})) 0 0 64 false 11 0x2000 63 ∧ xgrnHas (withCore (xCore 65 0x2000 63 {})) 0 0 65 false 11 0x2000 63
      ∧ rangeInside r = true ∧ rangeBad x.csr x.machine r .store = none ∧ rangeBad x.csr x.machine r .load = none
      ∧ ((List.range 4).find? fun h => !(openHandles {} 0).contains h) = some (0 : Fin 4).val ∧ mayWrite {} (.thread 0 0) r = true ∧ mayRead {} (.thread 0 0) r = true
      ∧ rangeInside (xRange 0x3FFFFF 63) = false ∧ ((List.range 4).find? fun h => !(openHandles four 0).contains h) = none
      ∧ xgrnHas (withCore (xCore 65 0x2000 63 four)) 0 0 65 false 11 0x2000 63 ∧ xgrnHas (withCore (xCore 66 0 0 one)) 0 0 66 false 11 0 0
      ∧ (one.holds.find? fun z => z.owner = .thread 0 0) = some (handleHold 0 0 0x100 true) ∧ (∀ y ∈ one.holds, y.owner ≠ .thread 0 1)
      ∧ xgrnHas (withCore (xCore 67 0x2000 63 {})) 0 0 67 false 11 0x2000 63 ∧ settledRange {} r = true :=
  ⟨hasX_has _ _ _ _ (by decide +kernel), hasX_has _ _ _ _ (by decide +kernel), by decide +kernel, by decide +kernel, by decide +kernel, by decide +kernel,
    by decide +kernel, by decide +kernel, by decide +kernel, by decide +kernel, hasX_has _ _ _ _ (by decide +kernel), hasX_has _ _ _ _ (by decide +kernel),
    by decide +kernel, by decide +kernel, hasX_has _ _ _ _ (by decide +kernel), by decide +kernel⟩

/-- A caravan of core 0 that copies 64 B of its memory to stacked memory, its record in granule 0x100. -/
def cvPost : BitVec 1536 :=
  BitVec.ofNat 1536 (1 + 1 <<< 8 + 6 <<< 16 + (2 ^ 60 + 0x10000) <<< 64 + 63 <<< 320 + 1 <<< 448 + 0x100 <<< 1008)

/-- A state with caravan 3. -/
def withCaravan (s : State) (x : Caravan) : State := { s with caravans := [(3, x)] }

theorem test_meets_XgrnWaits :
    let held : CoreMem := { holds := [handleHold 1 0 0x2000 true] }
    let s := withCore (xCore 64 0x2000 63 held)
    let running := withCaravan (withCore (xCore 129 3 0 {})) { state := .running, desc := cvPost }
    let w (st : ThreadState) : State := withCore (ccCore { xThread 0x2000 63 with state := st, word := xWord 67 0 } 0 {} [])
    xgrnHas s 0 0 64 false 11 0x2000 63 ∧ ((List.range 4).find? fun h => !(openHandles held 0).contains h) = some (0 : Fin 4).val
      ∧ mayWrite held (.thread 0 0) (xRange 0x2000 63) = false ∧ xgrnHas running 0 0 129 false 11 3 0 ∧ (getCv running 3).state ≠ .free
      ∧ cvEnded (getCv running 3) = false ∧ waitOver (w .taskWait) 0 0 = true ∧ decide32 (getThread (w .dataStall) 0 0) = some (67, 11, 5, 6)
      ∧ (getThread (w .dataStall) 0 0).state = .dataStall ∧ waitOver (withCore (ccCore { xThread 0x2000 63 with state := .dataStall, word := xWord 67 0 } 0 held [])) 0 0 = false :=
  ⟨hasX_has _ _ _ _ (by decide +kernel), by decide +kernel, by decide +kernel, hasX_has _ _ _ _ (by decide +kernel), by decide +kernel, by decide +kernel,
    by decide +kernel, by decide +kernel, by decide +kernel, by decide +kernel⟩

theorem test_meets_XgrnThreads :
    let s (fn : Nat) (a : U64) := withCore (xCore fn a 0x2001 {})
    let busy := withCore { xCore 257 1 0 {} with cc := { (xCore 257 1 0 {}).cc with threads := [(0, xThread 1 0), (1, { state := .ready })] } }
    xgrnHas (s 256 0) 0 0 256 false 11 0 0x2001 ∧ xgrnHas (s 257 1) 0 0 257 false 11 1 0x2001 ∧ (getThread (s 257 1) 0 1).state = .idle
      ∧ xgrnHas (s 257 4) 0 0 257 false 11 4 0x2001 ∧ xgrnHas busy 0 0 257 false 11 1 0 ∧ (getThread busy 0 1).state ≠ .idle
      ∧ xgrnHas (s 258 1) 0 0 258 false 11 1 0x2001 ∧ (getThread (s 258 1) 0 1).inFlight = false ∧ xgrnHas (s 258 0) 0 0 258 false 11 0 0x2001
      ∧ xgrnHas (s 259 1) 0 0 259 false 11 1 0x2001 ∧ xgrnHas (s 259 0) 0 0 259 false 11 0 0x2001 :=
  ⟨hasX_has _ _ _ _ (by decide +kernel), hasX_has _ _ _ _ (by decide +kernel), by decide +kernel, hasX_has _ _ _ _ (by decide +kernel),
    hasX_has _ _ _ _ (by decide +kernel), by decide +kernel, hasX_has _ _ _ _ (by decide +kernel), by decide +kernel, hasX_has _ _ _ _ (by decide +kernel),
    hasX_has _ _ _ _ (by decide +kernel), hasX_has _ _ _ _ (by decide +kernel)⟩

/-- The caravan's descriptor in core memory. -/
def cvMem : CoreMem := memOf 0x4000 (natBytes 128 cvPost.toNat)

theorem test_meets_XgrnCaravans_arm :
    let s (x : Caravan) : State := withCaravan (withCore (xCore 128 0x4000 3 cvMem)) x
    let first : Nat := leNat (coreRead cvMem 0x4000 1)
    xgrnHas (s {}) 0 0 128 false 11 0x4000 3 ∧ granuleBad (xThread 0x4000 3) 0x4000 128 .load = none ∧ first = 1
      ∧ BitVec.ofNat 1536 (leNat (coreRead cvMem 0x4000 128)) = cvPost ∧ checkCaravan (sysAddr (s {})) 0x4000 cvPost = 0
      ∧ cvBank 3 = 0 / 48 ∧ ((namedCores (sysAddr (s {})) (cvDesc cvPost)).find? (coreOff (s {}))) = none
      ∧ xgrnHas (s { state := .running }) 0 0 128 false 11 0x4000 3 :=
  ⟨hasX_has _ _ _ _ (by decide +kernel), by decide +kernel, by decide +kernel, by decide +kernel, by decide +kernel, by decide +kernel, by decide +kernel,
    hasX_has _ _ _ _ (by decide +kernel)⟩

theorem test_meets_XgrnCaravans_others :
    let s (fn : Nat) (a b : U64) (x : Caravan) : State := withCaravan (withCore (xCore fn a b {})) x
    let halted : Caravan := { state := .halted, desc := cvPost }
    xgrnHas (s 128 1 3 halted) 0 0 128 false 11 1 3 ∧ xgrnHas (s 128 2 3 halted) 0 0 128 false 11 2 3 ∧ mayReport (s 128 2 3 halted) 3 = true
      ∧ xgrnHas (s 129 0x40000 0 halted) 0 0 129 false 11 0x40000 0 ∧ xgrnHas (s 129 3 0 {}) 0 0 129 false 11 3 0
      ∧ xgrnHas (s 129 3 0 { halted with core := 1 }) 0 0 129 false 11 3 0 ∧ xgrnHas (s 129 3 0 halted) 0 0 129 false 11 3 0 ∧ cvEnded halted = true
      ∧ xgrnHas (s 130 3 9 halted) 0 0 130 false 11 3 9 ∧ halted.state ≠ .free ∧ halted.state ≠ .done ∧ halted.state ≠ .failed :=
  ⟨hasX_has _ _ _ _ (by decide +kernel), hasX_has _ _ _ _ (by decide +kernel), by decide +kernel, hasX_has _ _ _ _ (by decide +kernel),
    hasX_has _ _ _ _ (by decide +kernel), hasX_has _ _ _ _ (by decide +kernel), hasX_has _ _ _ _ (by decide +kernel), by decide +kernel,
    hasX_has _ _ _ _ (by decide +kernel), by decide +kernel, by decide +kernel, by decide +kernel⟩

/-- A ring of eight entries that is enabled, of a producer kind, its entries claimed by core 0. -/
def aRing (producer consumer head tail : Nat) : Ring :=
  { ctx := BitVec.ofNat 512 (1 + producer <<< 2 + consumer <<< 4 + 3 <<< 8 + head <<< 160 + tail <<< 192) }

/-- A state with ring 5. -/
def withRing (s : State) (x : Ring) : State := { s with queues := { s.queues with rings := [(5, x)] } }

theorem test_meets_XgrnQueues :
    let e : PoolEntry := { index := 0, bytes := List.replicate 64 0, poison := false }
    let s (fn : Nat) (a b : U64) (x : Ring) : State := withRing (withCore (xCore fn a b {})) x
    let pooled : Ring := { aRing 0 1 0 1 with pool := [e] }
    xgrnHas (s 192 5 8 {}) 0 0 192 false 11 5 8 ∧ xgrnHas (s 192 5 0x2000 {}) 0 0 192 false 11 5 0x2000 ∧ claimRing {} 5 0 = false
      ∧ granuleBad (xThread 5 0x2000) 0x2000 64 .store = none ∧ xgrnHas (s 192 0x80000005 0x2000 (aRing 0 1 0 0)) 0 0 192 false 11 0x80000005 0x2000
      ∧ claimRing (aRing 0 1 0 0) 5 0 = true ∧ ringCount (aRing 0 1 0 0) ≤ 0 ∧ xgrnHas (s 192 5 0x2000 pooled) 0 0 192 false 11 5 0x2000
      ∧ getRing (s 192 5 0x2000 pooled) 5 = pooled ∧ pooled.claims.length < ringCount pooled ∧ ringErr pooled = false ∧ claimRing pooled 5 0 = true
      ∧ xgrnHas (s 193 5 0x2000 (aRing 1 0 0 0)) 0 0 193 false 11 5 0x2000 ∧ ringEn (aRing 1 0 0 0) = true ∧ ringProducer (aRing 1 0 0 0) = 1
      ∧ ringFld (aRing 1 0 0 0) 16 7 = 0 ∧ ringErr (aRing 1 0 0 0) = false ∧ ringRoom (aRing 1 0 0 0) = true
      ∧ granuleBad (xThread 5 0x2000) 0x2000 64 .load = none ∧ xgrnHas (s 193 5 0x2000 {}) 0 0 193 false 11 5 0x2000 ∧ ringEn {} ≠ true :=
  ⟨hasX_has _ _ _ _ (by decide +kernel), hasX_has _ _ _ _ (by decide +kernel), by decide +kernel, by decide +kernel, hasX_has _ _ _ _ (by decide +kernel),
    by decide +kernel, by decide +kernel, hasX_has _ _ _ _ (by decide +kernel), by decide +kernel, by decide +kernel, by decide +kernel, by decide +kernel,
    hasX_has _ _ _ _ (by decide +kernel), by decide +kernel, by decide +kernel, by decide +kernel, by decide +kernel, by decide +kernel, by decide +kernel,
    hasX_has _ _ _ _ (by decide +kernel), by decide +kernel⟩

/-! Witnesses: caravans. -/

/-- Core 0 with caravans in its stream unit. -/
def streamCore (armed : List CaravanId) : Core := { stream := { armed := armed } }

theorem test_meets_CaravanStarts :
    let s (b : Bank) : State := { withCaravan (withCore (streamCore [3])) { state := .armed, desc := cvPost } with banks := [(0, b)] }
    (getCore (s {}) 0).stream.armed = 3 :: [] ∧ (getCore (s {}) 0).stream.active.length < 32
      ∧ (mapGet {} (s { onDie := [3] }).banks (cvBank 3)).onDie.contains 3 = true ∧ (getCv (s {}) 3).core = 0 ∧ (getCv (s {}) 3).receivers = []
      ∧ (mapGet {} (s {}).banks (cvBank 3)).onDie.contains 3 = false ∧ (mapGet {} (s {}).banks (cvBank 3)).fetching.contains 3 = false
      ∧ (mapGet {} (s { fetching := [3] }).banks (cvBank 3)).fetching.contains 3 = true
      ∧ (getCore State.reset 0).stream.armed = [] ∧ (getCv (s {}) 5).state ≠ .running ∧ (getCv (s {}) 5).state ≠ .faultWait
      ∧ (∀ core w, holdAsked (s {}) 3 core w = false) ∧ (getCv (s {}) 3).sourceReleased = false ∧ spaceOf (cvSrc (sysAddr (s {})) (cvDesc cvPost)) = 1 := by
  refine ⟨by decide +kernel, by decide +kernel, by decide +kernel, by decide +kernel, by decide +kernel, by decide +kernel, by decide +kernel, by decide +kernel,
    by decide +kernel, by decide +kernel, by decide +kernel, ?_, by decide +kernel, by decide +kernel⟩
  intro core w
  cases core <;> rfl

theorem test_meets_CaravanStarts_full :
    let b : Bank := { onDie := List.replicate 8191 5 ++ [7], fetching := [3] }
    8192 ≤ b.onDie.length ∧ b.onDie = List.replicate 8191 5 ++ (7 : CaravanId) :: [] ∧ (7 : CaravanId) ∉ List.replicate 8191 5 ++ []
      ∧ b.onDie.contains 3 = false ∧ (getCv State.reset 7).state ≠ .running ∧ (getCv State.reset 7).state ≠ .faultWait := by
  refine ⟨?_, rfl, ?_, by decide +kernel, by decide +kernel, by decide +kernel⟩
  · show 8192 ≤ (List.replicate 8191 (5 : CaravanId) ++ [7]).length
    rw [List.length_append, List.length_replicate]
    exact Nat.le_refl _
  · intro h
    rw [List.append_nil] at h
    exact absurd (List.eq_of_mem_replicate h) (by decide)

theorem test_meets_CaravanStarts_resumed :
    let x : Caravan := { state := .halted, desc := cvPost, receivers := [{ core := 128, holdGranted := true, low := 0, ahead := [] }] }
    let s : State := { withCaravan (withCore (streamCore [3])) x with banks := [(0, { onDie := [3] })] }
    (getCv s 3).receivers ≠ [] ∧ (getCv s 3).sourceHeld = false ∧ (getCv s 3).sourceReleased = false ∧ (∀ core w, holdAsked s 3 core w = false)
      ∧ (∀ r ∈ liveReceivers { x with sourceHeld := true }, r.holdGranted = true) := by
  refine ⟨by decide +kernel, by decide +kernel, by decide +kernel, ?_, by decide +kernel⟩
  intro core w
  cases core <;> rfl

/-- A caravan of core 0 that copies elements of 128 B from the source to the destination. -/
def cvCopy (src dst dstStride n : Nat) : BitVec 1536 :=
  BitVec.ofNat 1536 (1 + 1 <<< 8 + 7 <<< 16 + 5 <<< 20 + src <<< 64 + dst <<< 128 + 0x100000 <<< 256 + (128 * n - 1) <<< 320 + (128 * n - 1) <<< 384
    + n <<< 448 + 128 <<< 608 + dstStride <<< 808 + 0x100 <<< 1008)

/-- A caravan that runs with one receiver, its lines not yet written. -/
def runningCv (desc : BitVec 1536) (core : Nat) : Caravan :=
  { state := .running, desc := desc, markLimit := 200, sourceHeld := true, receivers := [{ core := core, holdGranted := true, low := 0, ahead := [] }] }

/-- A read of the host or of a remote module that has been answered. -/
def answeredLine (who : Requester) (a : ReadAnswer) : Request :=
  { id := 4, who := who, write := false, addr := 0, phys := none, be := 0, bytes := [], poison := 0, prefetch := false, pasid := none, flit := none, left := []
    state := .answered a }

theorem test_meets_CaravanReads :
    let x := runningCv (cvCopy 0 (2 ^ 60 + 0x10000) 128 100) 0
    let s := withCaravan State.reset x
    let y (stale prefetch : Bool) : Caravan := { x with reads := [{ line := 2, prefetch := prefetch, stale := stale }] }
    let q := answeredLine (.caravanLine 3 2) (.data [] 0)
    let e := answeredLine (.caravanLine 3 2) .failed
    let h : Request := { e with state := .host }
    let a (q : Request) : State := { withCaravan State.reset (y true true) with net := { State.reset.net with requests := [q] } }
    (lineMayRead s x 0 ∧ lineRead x 0 = false ∧ isDemand x 0 = true ∧ (∀ n, 0 ≤ n → n < 0 → lineRead x n = true))
      ∧ (lineMayRead s x 64 ∧ lineRead x 64 = false ∧ isDemand x 64 = false ∧ 64 ∉ x.demandOnly
        ∧ mayPrefetch s (cvDesc x.desc) (unitAddr (sysAddr s) (cvDesc x.desc) (lineStart (sysAddr s) (cvDesc x.desc) 64)).1 = true
        ∧ (cvDesc x.desc).regulated = false)
      ∧ lineRead (y true true) 2 = true ∧ isDemand x 1 = true ∧ windowBase x = 0 ∧ lineRead x 0 = false
      ∧ (y true true).reads.find? (fun r => r.line = 2) = some { line := 2, prefetch := true, stale := true }
      ∧ (y false true).reads.find? (fun r => r.line = 2) = some { line := 2, prefetch := true, stale := false }
      ∧ (y false false).reads.find? (fun r => r.line = 2) = some { line := 2, prefetch := false, stale := false }
      ∧ answeredBy (a q) (.caravanLine 3 2) q .denied (.data [] 0) ∧ answeredBy (a e) (.caravanLine 3 2) e .denied .failed
      ∧ answeredBy (a h) (.caravanLine 3 2) h .denied .denied :=
  ⟨⟨⟨by decide +kernel, by decide +kernel, by decide +kernel, by decide +kernel, by decide +kernel, by decide +kernel, by decide +kernel, Or.inr (by decide +kernel)⟩,
      by decide +kernel, by decide +kernel, fun _ _ h => absurd h (Nat.not_lt_zero _)⟩,
    ⟨⟨by decide +kernel, by decide +kernel, by decide +kernel, by decide +kernel, by decide +kernel, by decide +kernel, by decide +kernel, Or.inr (by decide +kernel)⟩,
      by decide +kernel⟩,
    by decide +kernel, by decide +kernel, by decide +kernel, by decide +kernel, by decide +kernel, by decide +kernel, by decide +kernel,
    ⟨by decide +kernel, Or.inl rfl⟩, ⟨by decide +kernel, Or.inl rfl⟩, ⟨by decide +kernel, Or.inr ⟨rfl, rfl⟩⟩⟩

/-- A buffered line. -/
def aLine : BufLine := { line := 0, phys := none, bytes := List.replicate 128 1, poison := 0, prefetched := false, timely := false }

theorem test_meets_CaravanDeliveries :
    let ready (src dst core : Nat) : Caravan := { runningCv (cvCopy src dst 128 1) core with buffer := [aLine] }
    let s (src dst core : Nat) : State := withCaravan State.reset (ready src dst core)
    let r (core : Nat) : Receiver := { core := core, holdGranted := true, low := 0, ahead := [] }
    let many : Caravan :=
      { state := .running, desc := cvCopy 0 (2 ^ 60 + 0x10000) 128 1 + 1 + 3 <<< 1024, sourceHeld := true, buffer := [aLine], receivers := [r 0, r 1] }
    (∀ t ∈ [(0, 2 ^ 60 + 0x10000, 0), (2 ^ 60, 0, 128), (0, 2 ^ 60 + 2 ^ 22, 1), (2 ^ 60, 2 ^ 61, 128), (2 ^ 60, 3 * 2 ^ 60, 128)],
        let x := ready t.1 t.2.1 t.2.2
        nextDelivery x = some aLine ∧ x.ending = none ∧ (cvDesc x.desc).op = 1 ∧ spaceOf ((unitsOf (sysAddr (s t.1 t.2.1 t.2.2)) (cvDesc x.desc) 0).map (·.2)).head! = spaceOf t.2.1
          ∧ liveReceivers x = [r t.2.2] ∧ receiverHas (r t.2.2) 0 = false ∧ requestOf (s t.1 t.2.1 t.2.2).net (.caravanWrite 3 0) = none
          ∧ (s t.1 t.2.1 t.2.2).net.requests = [])
      ∧ (∀ n ∈ creditOfLine 0 (2 ^ 60 + 2 ^ 22), mapGet 0 State.reset.net.spent n < 64)
      ∧ ¬ (∀ n ∈ creditOfLine 0 (2 ^ 60 + 2 ^ 22), mapGet 0 [(creditKey 0 1, 64)] n < 64)
      ∧ (∀ n ∈ creditOfLine 0 (5 * 2 ^ 60 + 2 ^ 39), mapGet 0 State.reset.net.spent n < 64)
      ∧ (cvDesc many.desc).op = 2 ∧ nextDelivery many = some aLine ∧ (∀ y ∈ many.receivers, y.core < 96) ∧ liveReceivers many = [r 0, r 1] := by
  decide +kernel

theorem test_meets_CaravanDeliveries_table :
    let desc : BitVec 1536 := BitVec.ofNat 1536 (1 + 1 <<< 8 + 3 <<< 16 + (2 ^ 60) <<< 64 + (6 * 2 ^ 60) <<< 128 + 7 <<< 320 + 1 <<< 448)
    let x : Caravan := { runningCv desc 128 with buffer := [aLine] }
    nextDelivery x = some aLine ∧ unitsOf none (cvDesc desc) 0 = [(2 ^ 60, 6 * 2 ^ 60)] ∧ spaceOf (6 * 2 ^ 60) = 6
      ∧ ttRefused (ttShape (withDict [(keyTtEntries, 1024)])) 0 0x20 = true ∧ ttRefused (ttShape (withDict [(keyTtEntries, 1024)])) 0 0 = false := by decide +kernel

theorem test_meets_CaravanEnds :
    let f : CvFault := { status := 0x41, target := .faultWait, side := false, addr := 0x2000000000005000 }
    let x : Caravan := { runningCv cvPost 128 with fault := some f }
    let y : Caravan := { runningCv cvPost 128 with ending := some (.done, 0), poisoned := true }
    let m : Caravan :=
      { state := .running, desc := cvCopy 0 (2 ^ 60 + 0x10000) 128 100 + 1 + 3 <<< 1024, buffer := [{ aLine with line := 64 }]
        receivers := [{ core := 0, holdGranted := true, low := 0, ahead := [] }, { core := 1, holdGranted := true, low := 9, ahead := [] }] }
    let s := withCaravan State.reset y
    drained x = true ∧ x.state = .running ∧ x.ending = none ∧ x.page.map (·.1) ≠ some 5 ∧ ({ pri := true } : Pcie).pri = true
      ∧ ({ pri := true } : Pcie).priStopped = false ∧ { f with target := .failed }.target ≠ .faultWait
      ∧ (getCv s 3).ending = some (.done, 0) ∧ mayReport s 3 = true ∧ s.cores = []
      ∧ (cvDesc m.desc).op = 2 ∧ windowBase m = 0 ∧ (liveReceivers m).find? (fun y => y.core = 0) = some { core := 0, holdGranted := true, low := 0, ahead := [] }
      ∧ lockstepMode State.reset = false ∧ dictGet State.reset keyMcStragglerPolicy ≠ 1 ∧ dictGet (withDict [(keyMcStragglerPolicy, 1)]) keyMcStragglerPolicy = 1
      ∧ lockstepMode { State.reset with lockstep := { mode := true, aligned := true } } = true := by decide +kernel

/-! Witnesses: rings and BAR0. -/

theorem test_meets_RingContexts :
    let off : Ring := { aRing 1 0 0 0 with ctx := (aRing 1 0 0 0).ctx - 1 }
    let bad : Ring := { ctx := off.ctx }
    let stopped : Ring := { aRing 0 1 0 1 with ctx := (aRing 0 1 0 1).ctx + 2 }
    let z (x : Ring) : Ring := { x with ctx := contextWritten x 5 0 false 0x33 }
    ringEn off = false ∧ contextOk (withRing State.reset off) 5 { off with ctx := contextWritten off 5 0 true 0x405 } = true
      ∧ contextOk (withRing State.reset bad) 5 (z bad) = false ∧ (0x405 : U64).getLsbD 0 = true
      ∧ ringEn (aRing 0 1 0 1) = true ∧ (0 : U64).getLsbD 0 = false ∧ ringErr stopped = true ∧ (3 : U64).getLsbD 1 = true ∧ (3 : U64).getLsbD 0 = ringEn stopped := by
  decide +kernel

theorem test_meets_BarRegisters :
    let s := withDict [(keyTtEntries, 1024)]
    ttRefused (ttShape s) s.bar0.ttIndex.toNat 0 = false ∧ ttRefused (ttShape s) s.bar0.ttIndex.toNat 0x20 = true
      ∧ s.bar0.modEvent &&& s.bar0.modEventEn = 0 ∧ ({ s.bar0 with modEvent := 1 } : Bar0).modEvent &&& BitVec.ofNat 6 (1 : U32).toNat ≠ 0
      ∧ bar0Ok 3 4 = false ∧ bar0Ok 0x2000 4 = false ∧ bar0Ok 0x8 4 = true ∧ bar0Ok 0x1008 8 = true ∧ bar0Ok (0x10000 + 16 * 2047 + 12) 4 = true
      ∧ bar0Ok (0x1000000 + 256 * 16383 + 8) 4 = true ∧ bar0Ok (0x100000 + 64 * 16383 + 60) 4 = true ∧ isUnsealing s = false
      ∧ (mapGet {} s.bar0.msix 3).control.getLsbD 0 = true ∧ (mapGet {} s.bar0.msix 3).pending = false
      ∧ ((0 : U64).setWidth 32 : U32) = (mapGet {} s.bar0.msix 3).control &&& ~~~(1 : U32) := by decide +kernel

theorem test_meets_Doorbells :
    let x := aRing 0 0 0 3
    let n := 2 * ringSize x
    isUnsealing (withDict [(keyDebugState, 1)]) = true ∧ isUnsealing State.reset = false ∧ ringEn x = true ∧ ringErr x = false ∧ ringProducer x = 0
      ∧ ringConsumer x = 0 ∧ (8 < n ∧ (8 + n - ringTail x) % n ≤ ringSize x - ringCount x) ∧ ¬ (9 + n - ringTail x) % n ≤ ringSize x - ringCount x
      ∧ (3 < n ∧ (3 + n - ringHead x) % n ≤ ringCount x) ∧ ¬ (4 + n - ringHead x) % n ≤ ringCount x := by decide +kernel

theorem test_meets_RingEntriesTaken :
    let x := aRing 0 1 0 1
    let y : Ring := { x with fetching := some 0 }
    let e : PoolEntry := { index := 0, bytes := List.replicate 64 0, poison := false }
    let k : Claim := { core := 0, thread := 0, dest := 0x2000, rd := 11, entry := e }
    let full : State := withCore { mem := { holds := List.replicate 128 (handleHold 0 0 0x100 false) } }
    let q := answeredLine (.ringFetch 5) (.data (List.replicate 128 0) 0)
    let s : State := { withRing State.reset y with net := { State.reset.net with requests := [q] } }
    let lost : State := { withRing State.reset y with net := { State.reset.net with requests := [{ q with state := .answered .failed }] } }
    let dy : Discard := { ring := 5, slot := 0, pasid := none }
    let dw : QmWrite := { ring := 6, entry := completionEntry 5 0x50 0, source := some dy }
    let q' := answeredLine (.ringDiscard 5) (.data (List.replicate 128 0) 0)
    let disc (q : Request) : State := { State.reset with queues := { State.reset.queues with qmWrites := [dw] }, net := { State.reset.net with requests := [q] } }
    (ringEn x = true ∧ ringErr x = false ∧ ringConsumer x ≠ 0 ∧ x.fetching = none ∧ mayFetch (withRing State.reset x) 5 = true ∧ ringAhead x < ringCount x)
      ∧ (requestOf s.net (.ringFetch 5) = some q ∧ q.state = .answered (.data (List.replicate 128 0) 0)) ∧ y.fetching = some 0
      ∧ (requestOf lost.net (.ringFetch 5) = some { q with state := .answered .failed })
      ∧ requestOf (disc q').net (.ringFetch 5) = none ∧ requestOf (disc q').net (.ringDiscard 5) = some q' ∧ (disc q').queues.qmWrites = [] ++ dw :: []
      ∧ dw.source = some dy ∧ dy.ring = 5
      ∧ ringFld x 24 7 < 96 ∧ coreOff State.reset (ringFld x 24 7) = false ∧ coreOff { State.reset with power := { off := 1 } } (ringFld x 24 7) = true
      ∧ ({ x with claims := [k] } : Ring).claims = k :: [] ∧ k.entry.bytes.length = 64
      ∧ (getCore State.reset k.core).mem.holds.length < 128 ∧ ¬ ((getCore full k.core).mem.holds.length < 128) ∧ k.stale = false ∧ { k with stale := true }.stale = true
      ∧ mayWrite (getCore State.reset k.core).mem (.queueManager 5) { base := k.dest, rowBytes := 64, pitch := 0, rows := 1 } = true
      ∧ ringCount { x with claims := [k] } ≠ 0 := by decide +kernel

theorem test_meets_RingEntriesPosted :
    let p : Post := { poster := some (0, 0, 11), ack := none, bytes := List.replicate 64 0, poison := false }
    let x : Ring := { aRing 1 0 0 0 with posts := [p] }
    let q := answeredLine (.ringPost 5) (.data [] 0)
    let e := answeredLine (.ringPost 5) .failed
    let s (q : Request) : State := { withRing State.reset x with net := { State.reset.net with requests := [q] } }
    let coal : Ring := { aRing 1 0 0 0 with unsignalled := 1, ctx := (aRing 1 0 0 0).ctx + 0x40 + 1 <<< 280 }
    let w : QmWrite := { ring := 5, entry := completionEntry 6 0x45 9 }
    let full := aRing 1 0 0 8
    requestOf (s q).net (.ringPost 5) = some q ∧ q.state = .answered (.data [] 0) ∧ requestOf (s e).net (.ringPost 5) = some e ∧ e.state = .answered .failed
      ∧ x.posts = p :: [] ∧ ringFld x 8 5 ≤ 16
      ∧ ({ x with writebackDue := true } : Ring).writebackDue = true ∧ ringErr { x with writebackDue := true } = false ∧ ({ x with due := true } : Ring).writebackDue = false
      ∧ ringFld coal 6 1 = 1 ∧ ringFld coal 280 16 ≠ 0 ∧ coal.unsignalled ≠ 0
      ∧ w.ring = (5 : RingId).val ∧ ringEn (aRing 1 0 0 0) = true ∧ ringErr (aRing 1 0 0 0) = false
      ∧ ringCount (aRing 1 0 0 0) + livePosts (aRing 1 0 0 0) < ringSize (aRing 1 0 0 0)
      ∧ ringSize full ≤ ringCount full + livePosts full ∧ w.source = none ∧ { w with source := some { ring := 5, slot := 0, pasid := none } }.source = some { ring := 5, slot := 0, pasid := none }
      ∧ requestOf State.reset.net (.ringDiscard 5) = none ∧ requestOf State.reset.net (.ringTail 5) = none
      ∧ requestOf ({ State.reset.net with requests := [answeredLine (.ringTail 5) .failed] } : Net) (.ringTail 5) = some (answeredLine (.ringTail 5) .failed) ∧ ringEn {} = false := by decide +kernel

/-- A forwarded entry's flit at the queue manager, from the west corner. -/
def entryFlit : Flit := mkFlit (0, 9, 0) (7, 0, 1) clsReq 0x02 7 (5 + 9 <<< 14) 0xFFFFFFFFFFFFFFFF (List.replicate 128 0) 0 true

theorem test_meets_RingsBetweenModules :
    let e : PoolEntry := { index := 0, bytes := List.replicate 64 0, poison := false }
    let x : Ring := { aRing 0 2 0 1 with pool := [e] }
    let at_ (links : Links) : State := { withRing State.reset x with links := links, lockstep := { addressed := true }, dict := [(keyOf 0x4106 3, 0)] }
    let up : Links := { ports := [(6, { state := .up, partnerKnown := true })] }
    let p := forwardPacket (at_ up) 5 x e
    let rec_ (y : Ring) : State := { withRing State.reset y with
      net := { State.reset.net with flits := [{ flit := entryFlit }] }
      links := { corners := [(0, { inbound := [{ tag := 7, sys := 2, ep := 0, remoteTag := 9, opcode := 0x02 }] })] } }
    let y : Ring := { aRing 2 1 0 0 with ctx := (aRing 2 1 0 0).ctx + 2 <<< 224 }
    routePort (at_ up) p.dstSys = some 6 ∧ portOpen (getPort (at_ up).links 6) = true ∧ (getCorner (at_ up).links (portEast 6)).records.length < 4096
      ∧ (∀ o, o < 8 → portOpen (getPort (at_ {}).links o) = false) ∧ ringEn x = true ∧ ringErr x = false ∧ ringConsumer x = 2 ∧ x.forwarded.length < 8
      ∧ ((rec_ y).net.flits.find? (forwardFlit (rec_ y) 5 2 9 9 (List.replicate 64 0))) = some { flit := entryFlit }
      ∧ (takeFlit (rec_ y).fuses (rec_ y).net entryFlit).isSome = true
      ∧ (ringEn y = true ∧ ringProducer y = 2 ∧ ringConsumer y = 1 ∧ ringFld y 224 15 = (2 : BitVec 15).toNat)
      ∧ y.taken.contains ((2 : BitVec 15).toNat, (9 : RingId).val, 9) = false
      ∧ ({ y with taken := [(2, 9, 9)] } : Ring).taken.contains ((2 : BitVec 15).toNat, (9 : RingId).val, 9) = true
      ∧ ringErr y = false ∧ ringCount y + livePosts y < ringSize y ∧ ringEn {} = false := by decide +kernel

/-! Witnesses: translation, BAR2, the PCIe endpoint and the network. -/

/-- A request that waits for its translation. -/
def waitingRequest (who : Requester) (write prefetch : Bool) (addr : U64) : Request :=
  { id := 4, who := who, write := write, addr := addr, phys := none, be := 0, bytes := [], poison := 0, prefetch := prefetch, pasid := none, flit := none
    left := [], state := .translating }

/-- A cached translation of the first gigabyte. -/
def aLeaf (w np : Bool) : TtLeaf := { page := 0, sizeLog2 := 30, walked := [0], target := 0x40000000, writable := w, noPrefetch := np }

/-- A state whose translation block has translations, and one request waiting. -/
def translating (l : List TtLeaf) (q : Request) : State :=
  { State.reset with queues := { State.reset.queues with ttCache := l, translating := [4] }, net := { State.reset.net with requests := [q] } }

/-- A half read with some wrong symbols. -/
def aHalf (n : Nat) : HalfRead := { symbols := n, asRead := [] }

theorem test_meets_TranslationsComplete :
    let r := waitingRequest (.ringFetch 5) false false 0x80
    let p := waitingRequest (.ringFetch 5) false true 0x80
    let w := waitingRequest (.caravanWrite 3 0) true false 0x80
    let t6 := waitingRequest (.caravanLine 3 0) false false (6 * 2 ^ 60)
    let beyond := waitingRequest (.caravanLine 3 0) false false (6 * 2 ^ 60 + 8 * 512)
    let tabled (q : Request) : State := { translating [] q with stacked := { bytes := [(0, 0x11)] }, dict := [(keyTtPhysBase, 0), (keyTtEntries, 512)] }
    let s (l : List TtLeaf) (q : Request) : State := { translating l q with queues := { (translating l q).queues with translating := [] } }
    let hit (l : TtLeaf) (q : Request) : Prop := (translateBy (s [l] q) 0x80 []).2 = .hit 0x40000080 l
    (∀ q ∈ [r, p, w], (translating [] q).queues.translating = 4 :: [] ∧ findRequest (translating [] q).net 4 = some q ∧ spaceOf q.addr.toNat = 0)
      ∧ (translateBy (s [] r) 0x80 []).2 = .miss ∧ (translateBy { tabled r with queues := (s [] r).queues } 0x80 [aHalf 0]).2 = .denial
      ∧ hit (aLeaf false true) w ∧ hit (aLeaf false true) p ∧ hit (aLeaf true false) w ∧ hit (aLeaf true false) r
      ∧ ((∀ h ∈ [aHalf 0], h.symbols = 0) ∧ (ttShape (tabled r)).base % 8 = 0)
      ∧ (2 < (aHalf 3).symbols ∧ (aHalf 3).symbols ≤ 6 ∧ 0x80 < 2 ^ 39 ∧ ttCached (tabled r).queues.ttCache 0x80 = none ∧ bits 0x80 30 9 < (ttShape (tabled r)).entries)
      ∧ spaceOf t6.addr.toNat = 6 ∧ spaceOf beyond.addr.toNat = 6 ∧ (ttShape (tabled beyond)).entries ≤ bits beyond.addr.toNat 3 33 / 16 * 16
      ∧ (bits t6.addr.toNat 3 33 / 16 * 16 < (ttShape (tabled t6)).entries ∧ (ttShape (tabled t6)).base % 128 = 0
        ∧ stackPoison (tabled t6).stacked 0 = false ∧ stackPoison (tabled t6).stacked 64 = false) := by decide +kernel

theorem test_meets_Bar2Accesses :
    let s (l : List TtLeaf) : State := translating l (waitingRequest (.ringFetch 5) false false 0)
    let by_ (l : List TtLeaf) : Walk := (translateBy (hostTraffic (wakeS1 (s l))) 0x100 []).2
    let faults (g : Option Nat) : State := { s [] with pcie := { (s []).pcie with bar2LastEntry := g } }
    (8 ≠ 0 ∧ 0x100 + 8 ≤ 2 ^ (s []).pcie.bar2Log ∧ 0x100 / 4096 = (0x100 + 8 - 1) / 4096) ∧ ¬ 0xFFC / 4096 = (0xFFC + 8 - 1) / 4096
      ∧ isUnsealing (s []) = false ∧ by_ [aLeaf true false] = .hit 0x40000100 (aLeaf true false) ∧ by_ [] = .miss
      ∧ by_ [aLeaf false false] = .hit 0x40000100 (aLeaf false false) ∧ (s []).net.nextId < 16384 ∧ (s []).net.requests.length + 33 < 16384
      ∧ (faults (some 0)).pcie.bar2LastEntry = some 0 ∧ (faults (some 0)).gtc.toNat < 0 + 1000000 ∧ (faults none).pcie.bar2LastEntry = none := by decide +kernel

theorem test_meets_PcieEndpoint :
    let f : CvFault := { status := 0x41, target := .faultWait, side := false, addr := 0x2000000000005000 }
    let x (page : Option (Nat × Option Nat)) : Caravan := { state := .faultWait, fault := some f, page := page }
    let s (p : Pcie) (page : Option (Nat × Option Nat)) : State := { withCaravan State.reset (x page) with pcie := p }
    let q := waitingRequest (.ringFetch 5) false false 0x2000000000000000
    let ask : Pcie := { pri := true, priAllocation := 8, waiting := [7, 3] }
    let out : Pcie := { pri := true, outstanding := [(9, 3)] }
    let entry : MsixEntry := { control := 0, pending := true }
    ({ pasid := none, iova := 0, sizeLog2 := 12 } : Invalidation) :: [] = [{ pasid := none, iova := 0, sizeLog2 := 12 }]
      ∧ State.reset.pcie.ats = false ∧ ({ ats := true } : Pcie).ats = true ∧ (([q].map fun q => q.id).Nodup)
      ∧ spaceOf q.addr.toNat = 2 ∧ q.pasid = none ∧ q.write = false ∧ bits q.addr.toNat 0 57 / 2 ^ 12 = bits (0x10 : U64).toNat 0 57 / 2 ^ 12
      ∧ (s ask (some (5, none))).pcie.waiting = [7] ++ 3 :: [] ∧ (getCv (s ask (some (5, none))) 7).state ≠ .faultWait
      ∧ ask.priStopped = false ∧ ask.outstanding.length < min 512 ask.priAllocation
      ∧ out.outstanding.find? (fun o => o.1 = 9) = some (9, 3)
      ∧ ((getCv (s out (some (5, some 9))) 3).state = .faultWait ∧ (getCv (s out (some (5, some 9))) 3).ending = none
        ∧ (getCv (s out (some (5, some 9))) 3).page = some (5, some 9))
      ∧ (entry.control.getLsbD 0 = false ∧ entry.pending = true)
      ∧ (∀ o p, (x none).page = some (o, p) → p ≠ some 9) := by
  refine ⟨rfl, ?_⟩
  iterate 14 (refine And.intro (by decide +kernel) ?_)
  exact fun o p h => absurd h (by simp)

theorem test_meets_ModuleResets :
    State.reset.power.mode = .on ∧ isUnsealing State.reset = false ∧ canonicalCores State.reset ∧ isUnsealing (withDict [(keyDebugState, 1)]) = true
      ∧ ({ State.reset with power := { mode := .s3 } } : State).power.mode ≠ .on :=
  ⟨by decide, by decide, canonical_empty _ rfl, by decide, by decide⟩

/-- A flit from core 1's place to an endpoint, asking for an acknowledgement. -/
def flitTo (dst : Nat × Nat × Nat) (cls : Fin 8) (op : Byte) (addr : Nat) : Flit := mkFlit (2, 1, 0) dst cls op 4 addr 0xFF (List.replicate 128 1) 0 true

/-- A flit alone in the network. -/
def flowing (f : Flit) : State := { State.reset with net := { State.reset.net with flits := [{ flit := f }] } }

theorem test_arrives (s : State) (f : Flit) (h : (takeFlit s.fuses s.net f).isSome = true) : ∃ n, arrives s f n :=
  ⟨_, (Option.some_get h).symm⟩

/-- Whether a flit alone in the network is the next at its destination. -/
def comes (f : Flit) : Bool := (takeFlit State.reset.fuses (flowing f).net f).isSome

theorem test_meets_NetworkRequests :
    let atCore := flitTo (1, 1, 0) clsReq 0x01 0x100
    let atTower := flitTo (1, 0, 1) clsReq 0x01 0x100
    let atBorder := flitTo (0, 1, 0) clsReq 0x01 0x100
    let atCorner := flitTo (0, 9, 0) clsReq 0x01 (4 * 2 ^ 60)
    let known : State := { State.reset with dict := [(keySysAddr, 1), (keyTorusX, 2)], lockstep := { addressed := true }, links := { ports := [(0, { state := .up }), (1, { state := .up })] } }
    (∀ f ∈ [atCore, atTower, atBorder, atCorner], comes f = true ∧ f.cls = clsReq ∧ f.opcode = 0x01
        ∧ endpointListed f.dstX.val f.dstY.val f.dstSub.val = true)
      ∧ nodeKind 1 1 = .core ∧ nodeCore State.reset.fuses 1 1 = some 0 ∧ coreOff State.reset 0 = false ∧ coreOff { State.reset with power := { off := 1 } } 0 = true
      ∧ nodeKind 1 0 = .tower ∧ smServes atTower = true ∧ smServes { atTower with dstSub := 0 } = false
      ∧ ({ state := .ready } : Tower).state = .ready ∧ (getPc State.reset.stacked 0 0).queue.length < 64 ∧ State.reset.power.toSelfRefresh.getLsbD 0 = false
      ∧ nodeKind 0 1 = .fabric ∧ nodeKind 0 9 = .askua ∧ routePort State.reset 0 = none ∧ nodeKind 0 0 = .management
      ∧ nodeKind 7 0 = .caravanserai ∧ takeFlit State.reset.fuses State.reset.net atCore = none
      ∧ (routePort known 0).isSome = true ∧ (∀ o, routePort known 0 = some o → portOpen (getPort known.links o) = true) := by decide +kernel

theorem test_meets_NetworkRequests_host :
    let u := waitingRequest (.ringFetch 5) false false (2 * 2 ^ 60 + 0x80)
    let f := mkFlit (7, 0, 1) (14, 0, 0) clsReq 0x01 4 (2 * 2 ^ 60 + 0x80) 0xFF [] 0 true
    let l : AtsLeaf := { pasid := none, page := 0, sizeLog2 := 12, target := 0x5000, readable := true, writable := false, noPrefetch := false }
    let p : Pcie := { ats := true, atsCache := [l] }
    comes f = true ∧ nodeKind 14 0 = .pcie ∧ spaceOf u.addr.toNat = 2 ∧ flitSrc f = requesterEp State.reset u.who ∧ u.write = false
      ∧ findRequest { State.reset.net with requests := [u] } f.tag.toNat = some u ∧ State.reset.pcie.ats = false
      ∧ p.ats = true ∧ atsFind p u.pasid (bits u.addr.toNat 0 57) = some l ∧ hostPermit l u = none ∧ hostPermit l { u with write := true } = some .denied
      ∧ atsFind p u.pasid 0x5000 = none ∧ findRequest State.reset.net f.tag.toNat = none ∧ spaceOf (waitingRequest (.ringFetch 5) false false 0).addr.toNat ≠ 2 := by
  decide +kernel

theorem test_meets_NetworkRequests_border :
    let here (x : Region) : State := { State.reset with fabric := { State.reset.fabric with regions := [(portRegion 0, x)] } }
    portIsolated (here { isolated := true }) 0 = true ∧ portIsolated (here { isolated := false, code := .running }) 0 = false
      ∧ portDraining (here { isolated := false, code := .running }) 0 = false ∧ portDraining (here { isolated := false, code := .draining }) 0 = true := by decide +kernel

/-- A hold of caravan 3 at a core. -/
def lineHold (w : Bool) : Hold :=
  { owner := .caravan 3, write := w, part := if w then .destination else .source, range := { base := 0x100, rowBytes := 128, pitch := 0, rows := 1 } }

/-- The holds that a grant for caravan 3 looks for. -/
def ofThree (o : Owner) : Bool := match o with | .caravan w => w = 3 | .foreign _ n => n % 262144 = 3 | _ => false

theorem test_meets_LinesAndHolds_lines :
    let f := flitTo (1, 1, 0) clsStr 0x03 0x100
    let far := mkFlit (0, 9, 0) (1, 1, 0) clsStr 0x03 4 0x100 0xFF (List.replicate 128 1) 0 true
    let mc : Flit := { flitTo (0, 0, 0) clsStr 0x04 0x100 with mcast := true }
    let q : Request := { waitingRequest (.caravanWrite 3 0) true false 0 with state := .sent }
    let net (g : Flight) : Net := { State.reset.net with flits := [g], requests := [q] }
    let asked (n : Option Net) : Bool := n.any fun n => findRequest n 4 = some q
    let held : CoreMem := { holds := [lineHold true] }
    let foreign : Hold := { lineHold true with owner := .foreign 2 3 }
    let corner : Links := { corners := [(0, { inbound := [{ tag := 4, sys := 2, ep := 0, remoteTag := 9, opcode := 0x05 }] })] }
    let r : Receiver := { core := 0 }
    asked (takeFlit State.reset.fuses (net { flit := f }) f) = true ∧ f.tag.toNat = 4 ∧ f.mcast = false ∧ f.cls = clsStr
      ∧ nodeKind f.srcX.val f.srcY.val ≠ .askua ∧ (held.holds.find? fun h => h.owner = .caravan 3 && h.part = .destination) = some (lineHold true)
      ∧ nodeKind far.srcX.val far.srcY.val = .askua ∧ asked (takeFlit State.reset.fuses (net { flit := far }) far) = true
      ∧ foreignHold { State.reset with links := corner } far true { holds := [foreign] } = some foreign ∧ foreignHold State.reset far true {} = none
      ∧ asked (takeCopy State.reset.fuses (net { flit := mc, left := [0] }) mc 0) = true ∧ mc.opcode = 0x04
      ∧ [r].find? (fun y => y.core = 0) = some r ∧ (({} : CoreMem).holds.find? fun h => h.owner = .caravan 3 && h.part = .destination) = none
      ∧ ({ pruned := 1 } : Caravan).pruned.getLsbD 0 = true ∧ ({} : Caravan).pruned.getLsbD 0 = false := by decide +kernel

theorem test_meets_LinesAndHolds_holds :
    let ask := flitTo (1, 1, 0) clsReq 0x05 0x100
    let far := mkFlit (0, 9, 0) (1, 1, 0) clsReq 0x05 4 0x100 0xFF (List.replicate 128 1) 0 true
    let record : InRecord := { tag := 4, sys := 2, ep := 0, remoteTag := 9, opcode := 0x05 }
    let corner : Links := { corners := [(0, { inbound := [record] })] }
    let q : Request := { waitingRequest (.holdReq 3 0) true false 0 with state := .sent }
    let asking : Net := { State.reset.net with flits := [{ flit := ask }], requests := [q] }
    let grant := mkFlit (1, 1, 0) (2, 1, 0) clsRsp 0x85 4 0 0 [] 0 false
    let granted (err : Bool) : Flit := { grant with err := err }
    let coming (err : Bool) : State := { State.reset with net := { State.reset.net with flits := [{ flit := granted err }], requests := [q] } }
    let table (req : Option Flit) : List PendingHold := [{ hold := lineHold true, request := req }]
    let answer := mkResponse ask 0x85 [] 0 false
    let answering : Net := { State.reset.net with requests := [q] }
    (takeFlit State.reset.fuses asking ask).any (fun n => findRequest n 4 = some q) = true ∧ comes far = true ∧ nodeKind far.srcX.val far.srcY.val = .askua
      ∧ (getCorner corner (far.srcX = 14)).inbound.find? (fun r => r.tag = far.tag.toNat) = some record
      ∧ (getCorner State.reset.links (far.srcX = 14)).inbound.find? (fun r => r.tag = far.tag.toNat) = none
      ∧ grantable {} ofThree [] (table none) = some ({ hold := lineHold true, request := none }, []) ∧ grantable {} ofThree [] [] = none
      ∧ grantable {} ofThree [] (table (some ask)) = some ({ hold := lineHold true, request := some ask }, [])
      ∧ (takeFlit State.reset.fuses (inject answering answer) answer).any (fun n => findRequest n ask.tag.toNat = some q) = true
      ∧ (∀ err ∈ [false, true], (coming err).net.flits.find? (fun e => grantIsFor (coming err) 3 0 e.flit) = some { flit := granted err }
        ∧ (takeFlit State.reset.fuses (coming err).net (granted err)).any (fun n => findRequest n 4 = some q) = true
        ∧ nodeKind (granted err).dstX.val (granted err).dstY.val ≠ .askua)
      ∧ takeFlit State.reset.fuses (inject { State.reset.net with flits := [{ flit := { grant with tag := 9 } }] } answer) answer = none := by
  decide +kernel

theorem test_meets_NetworkResponses :
    let rsp (op : Byte) := mkFlit (1, 0, 0) (1, 1, 0) clsRsp op 4 0 0 [1, 0] 0 false
    let fwd := mkFlit (0, 9, 0) (7, 0, 1) clsRsp 0x82 5 0 0 [] 0 false
    let credit := mkFlit (2, 1, 0) (1, 1, 0) clsRsp 0x86 0 0 0 [1, 0] 0 false
    let remote := mkFlit (0, 9, 0) (1, 1, 0) clsRsp 0x86 4 0 0 [1, 0] 0 false
    let mgt (op : Byte) := mkFlit (0, 0, 0) (1, 1, 0) clsMgt op 4 0 0 [] 0 false
    let mgtTower (op : Byte) := mkFlit (0, 0, 0) (1, 0, 1) clsMgt op 4 0x100 1 [] 0 false
    let q (who : Requester) : Request := { waitingRequest who false false 0 with state := .sent, flit := some (rsp 0x82) }
    let line : Caravan := { runningCv cvPost 128 with sent := [{ line := 0, prefetched := false, timely := false }] }
    let entry : PoolEntry := { index := 0, bytes := [], poison := false }
    let again : Request := { q (.ringFetch 5) with state := .retrying }
    let found (w : Requester) : Bool := findRequest { State.reset.net with requests := [q w] } 4 = some (q w)
    (∀ f ∈ [rsp 0x81, rsp 0x82, rsp 0x87, fwd, credit, remote, mgt 0x10, mgt 0x11, mgt 0x90, mgtTower 0x10, mgtTower 0x11], comes f = true)
      ∧ nodeKind 1 1 ≠ .askua ∧ (∀ w ∈ [Requester.bar2 0 8, .nobody, .ringTail 5, .caravanWrite 3 0, .ringFetch 5], found w = true)
      ∧ (∃ b ∈ line.sent, b.line = 0) ∧ line.fault = none ∧ flitDst fwd = (7, 0, 1) ∧ nodeKind fwd.srcX.val fwd.srcY.val = .askua ∧ fwd.tag.toNat = (5 : RingId).val
      ∧ ({ aRing 0 2 0 1 with forwarded := [entry] } : Ring).forwarded ≠ [] ∧ ringErr (aRing 0 2 0 1) = false ∧ ringEn (aRing 0 2 0 1) = true
      ∧ nodeCore State.reset.fuses 2 1 = some 1 ∧ nodeCore State.reset.fuses 0 9 = none
      ∧ findRequest { State.reset.net with requests := [again] } (4 : BitVec 14).toNat = some again ∧ again.flit = some (rsp 0x82)
      ∧ nodeKind 0 0 = .management ∧ endpointListed 1 1 0 = true ∧ endpointListed 1 0 0 = true ∧ nodeKind 1 0 = .tower ∧ endpointListed 0 0 1 = false
      ∧ smServes (mgtTower 0x10) = true ∧ (mgtTower 0x11).byteEn ≠ 0 ∧ ({ state := .ready } : Tower).state = .ready := by decide +kernel

theorem test_meets_NetworkResponses_urgency :
    let credit := mkFlit (2, 1, 0) (1, 1, 0) clsRsp 0x86 0 0 0 [1, 0] 0 false
    let g : Flight := { flit := credit, spot := .buffer 1 1 3 0 }
    let n : Net := { State.reset.net with flits := [g, g] }
    n.flits[0]? = some g ∧ (∀ h ∈ n.flits.take 0, sameLane h g = false) ∧ n.flits[1]? = some g ∧ (∃ h ∈ n.flits.take 1, sameLane h g = true)
      ∧ n.flits[2]? = none := by decide +kernel

theorem test_meets_BorderPorts :
    let f := flitTo (0, 1, 0) clsReq 0x01 0x100
    let b : BorderPort := { queue := [f] }
    let c : BorderPort := { taken := [(9, f)] }
    let s (b : BorderPort) : State :=
      { State.reset with net := { State.reset.net with border := [(0, b)] }
                         fabric := { State.reset.fabric with regions := [(portRegion 0, { isolated := false, code := .running })] } }
    (mapGet {} (s b).net.border 0).queue = f :: [] ∧ portIsolated (s b) 0 = false ∧ (mapGet {} (s b).net.border 0).taken.length < 64
      ∧ (mapGet {} (s c).net.border 0).taken.find? (fun x => x.1 = 9) = some (9, f) ∧ (∀ x ∈ b.taken, x.1 ≠ 9)
      ∧ portIsolated { State.reset with fabric := { State.reset.fabric with regions := [(portRegion 0, { isolated := true })] } } 0 = true := by decide +kernel

/-! Witnesses: the towers and the Askua links. -/

/-- A pseudo-channel's request for line 0 of stacked memory. -/
def smRequest (op : Byte) : SmRequest :=
  { flit := { flitTo (1, 0, 0) (if op = 0x02 then clsWr else clsReq) op 0 with poison := 1 }, port := 0, aged := false, opened := false }

/-- Stacked memory whose tower of line 0 is READY, with the pseudo-channel of that line. -/
def towerWith (state : TowerCode) (pc : PseudoChannel) : State :=
  let q := placeOf 0
  { State.reset with stacked := { State.reset.stacked with towers := [(q.tower, { state := state, pcs := [(pcIndex q, pc)] })] } }

theorem test_meets_TowerCommands :
    let q := placeOf 0
    let rd : PseudoChannel := { queue := [smRequest 0x01] }
    let wr : PseudoChannel := { queue := [smRequest 0x02], openRows := [(bankIndex q, some q.row)] }
    let other : PseudoChannel := { rd with openRows := [(bankIndex q, some (q.row + 1))] }
    (∀ pc ∈ [rd, other], smChoose (towerWith .ready pc) pc = some (0, smRequest 0x01)) ∧ smChoose (towerWith .ready wr) wr = some (0, smRequest 0x02)
      ∧ (getTower (towerWith .ready rd).stacked q.tower).state = .ready ∧ getPc (towerWith .ready rd).stacked q.tower (pcIndex q) = rd
      ∧ mapGet none rd.openRows (bankIndex q) = none ∧ mapGet none wr.openRows (bankIndex q) = some q.row ∧ mapGet none other.openRows (bankIndex q) = some (q.row + 1)
      ∧ (smRequest 0x01).flit.opcode ≠ 0x02 ∧ ({ reading := [smRequest 0x01] } : PseudoChannel).reading = smRequest 0x01 :: []
      ∧ ({ symbols := 0, asRead := [] } : HalfRead).symbols = 0 ∧ 2 < ({ symbols := 3, asRead := [] } : HalfRead).symbols
      ∧ mapGet false State.reset.stacked.poison 0 = false ∧ mapGet false [(0, true)] 0 = true ∧ rd.queue[0]? = some (smRequest 0x01) ∧ (smRequest 0x01).aged = false := by
  decide +kernel

theorem test_meets_TowerStates :
    let s := towerWith .ready {}
    let lock : State := { s with lockstep := { mode := true, aligned := true } }
    (getTower s.stacked 0).state = .ready ∧ lockstepMode s = false ∧ 0 % dictGet s keyScrubEvery = 0 ∧ 1 % dictGet s keyScrubEvery ≠ 0
      ∧ lockstepMode lock = true ∧ 15 * 0 ≤ tickOf lock ∧ (tickOf lock - 15 * 0) % slotPeriod lock 0 = 0
      ∧ (getTower State.reset.stacked 1).state = .off ∧ (getTower (towerWith .training {}).stacked 0).state = .training
      ∧ (0x01#8).getLsbD 0 = true ∧ (∀ e ∈ (getTower s.stacked 0).pcs, e.2.queue = [] ∧ e.2.reading = [])
      ∧ (getTower (towerWith .selfRefresh {}).stacked 0).state = .selfRefresh ∧ (0x2000#19).getLsbD (13 + 0 / 2) = true
      ∧ (getTower (towerWith .selfRefresh {}).stacked 1).state ≠ .selfRefresh ∧ (getTower (towerWith .filling {}).stacked 0).state = .filling
      ∧ lowRateNow { lock with dict := [(keyLsRefreshMode, 1)], stacked := { lock.stacked with lowRate := true } } = true ∧ lowRateNow lock = false
      ∧ ({ state := .ready } : Tower).high = false ∧ dictGet { lock with dict := [(keyRunCm, 1)] } keyRunCm = 1 := by decide +kernel

/-- A packet of one port, for this module: a write of 128 bytes to its stacked memory. -/
def aPacket (op : Byte) (data : List Byte) : Packet :=
  { opcode := op, dstSys := 0, srcSys := 1, srcEp := 0, dstEp := 0, rspace := 1, vc := 0, tag := 7, poison := 0, err := false, ackReq := true
    be := none, lenM1 := 0, addr := 0x80, data := data }

theorem test_meets_PacketsRoundTrip : packetLegal (aPacket 0x02 (List.replicate 128 1)) ∧ packetLegal (aPacket 0x01 []) ∧ packetLegal (aPacket 0x82 []) := by
  unfold packetLegal
  decide +kernel

/-- A state whose port 6 is as given. -/
def withPort (x : Port) : State := { State.reset with links := { ports := [(6, x)] } }

theorem test_meets_LinkFrames :
    let blocks : List U64 := List.replicate 31 0
    let good := frameTrailer blocks 0
    let nak := frameTrailer blocks 0x40000
    let h (q : Packet) : HeldFrame := { release := 0, packets := [q] }
    let sentFrame : SentFrame := { seq := 3, blocks := blocks, tick := 0 }
    let r : OutRecord := { port := 6, srcEp := 0, tag := 7, cls := 0, opcode := 0x01 }
    frameWhole blocks good false ∧ ¬ frameWhole blocks 0 false ∧ frameWhole blocks nak false ∧ bit nak.toNat 18 = true ∧ bit good.toNat 18 = false
      ∧ BitVec.ofNat 8 (bits good.toNat 0 8) = ({ state := .up } : Port).expect ∧ (getPort (withPort { state := .up }).links 6).state = .up
      ∧ bit (frameTrailer blocks 0x10300).toNat 16 = true ∧ BitVec.ofNat 8 (bits (frameTrailer blocks 0x10300).toNat 8 8) = 3
      ∧ [sentFrame].findIdx? (fun f => f.seq = 3) = some 0 ∧ (getPort State.reset.links 6).state ≠ .up
      ∧ (h (aPacket 0x02 [])).packets = [aPacket 0x02 []] ∧ (h (aPacket 0x02 [])).release ≤ tickOf State.reset ∧ State.reset.lockstep.stalled = none
      ∧ isRequestOp (aPacket 0x02 []).opcode = true ∧ (aPacket 0x02 []).rspace = 1 ∧ isRequestOp (aPacket 0x82 []).opcode = false ∧ (aPacket 0x82 []).opcode ≠ 0x86
      ∧ takeFirst (fun r => r.srcEp = (aPacket 0x82 []).dstEp && r.tag = (aPacket 0x82 []).tag) [r] = some (r, [])
      ∧ takeFirst (fun r => r.tag = (7 : BitVec 14).toNat) [r] = some (r, []) ∧ (∀ f ∈ [sentFrame], f.blocks.length = 31)
      ∧ (aPacket 0x02 []).lenM1 = 0 ∧ sending ({ state := .up } : Port) = true ∧ isUnsealing State.reset = false ∧ (∀ y ∈ State.reset.net.requests, y.id ≠ State.reset.net.nextId)
      ∧ [r].any (fun r => r.srcEp = (aPacket 0x82 []).dstEp && r.tag = (aPacket 0x82 []).tag) = true
      ∧ 16 ≤ ((laneSeen { errors := [(2, List.replicate 20 true)] } (List.replicate 32 0) 2).filter id).length
      ∧ ¬ 16 ≤ ((laneSeen {} (List.replicate 32 1) 2).filter id).length := by
  unfold frameWhole
  decide +kernel

theorem test_meets_LinkControlBlocks :
    (∀ ty ∈ [0x00, 0x1E, 0x2D, 0x33, 0x4B, 0x55, 0x66], blockWhole (makeControl ty 5) ∧ bits (makeControl ty 5).toNat 0 8 = ty) ∧ ¬ blockWhole 1
      ∧ lockstepMode (withPort { state := .up }) = false ∧ (getPort (withPort { state := .training }).links 6).state = .training := by
  unfold blockWhole
  decide +kernel

theorem test_meets_LinkStates :
    let f : SentFrame := { seq := 3, blocks := [], tick := 0 }
    let late : State := { withPort { state := .up, unacked := [f] } with gtc := 1792 }
    let r : TrainResult := { trained := true, partnerSerial := 5, partnerPort := 7, rttMax := 40, rttMinusTurnMax := 30, lanesReversed := false }
    let quiet : Port := { state := .up }
    let asked : Port := { state := .elecIdle, idleRx := true }
    f.tick + 112 ≤ tickOf late ∧ 4 ≤ ({ replays := 4 } : Port).replays ∧ portEnabled (withDict [(portKey 6 0xC, 1)]) 6 = true ∧ portPowered State.reset 6 = true
      ∧ ({ cable := true } : Port).cable = true ∧ (getPort State.reset.links 6).state = .down
      ∧ roleOk 6 r.partnerPort.val = true ∧ r.partnerSerial.toNat ≠ dictGet State.reset keySerial ∧ roleOk 0 r.partnerPort.val = false ∧ r.trained = true
      ∧ dictGet (withDict [(keyIdleEntry, 1)]) keyIdleEntry ≠ 0 ∧ quiet.idleTx = false ∧ (quiet.queue = [] ∧ quiet.unacked = [] ∧ returnedCredits quiet = none ∧ quiet.ackDue = false)
      ∧ ({ state := .elecIdle, idleTx := true, ackDue := true } : Port).ackDue ≠ false
      ∧ sending quiet = true ∧ (asked.state = .elecIdle ∧ asked.idleRx = true) ∧ r.partnerSerial.toNat = dictGet (withDict [(keySerial, 5)]) keySerial
      ∧ ({ fromRecovery := true } : Port).fromRecovery = true ∧ quiet.fromRecovery = false ∧ mapSet (BitVec.allOnes 32) quiet.margins 3 0x40 ≠ [] := by decide +kernel

/-! Witnesses: lock-step. -/

/-- A message that arrived whole. -/
def aMessage (orig : Nat) (data : Nat) : LsMsg := { orig := BitVec.ofNat 15 orig, seq := 9, data := BitVec.ofNat 128 data, whole := true }

/-- A state in lock-step's midst, with every torus port UP. -/
def locking (l : Lockstep) (d : List (Nat × Nat)) : State :=
  { State.reset with lockstep := l, dict := d, links := { ports := (List.range 6).map fun p => (p, { state := .up, gtcAligned := true, gtcHops := 0 }) } }

theorem test_heard (s : State) (p : PortId) (m : LsMsg) (isFlood : Bool)
    (h : (m.whole && portUp s p.val && seqNew (mapGet none s.lockstep.seen (seenKey isFlood p.val m.orig.toNat)) m.seq.toNat) = true) : heard s p m isFlood := by
  simp only [Bool.and_eq_true] at h
  exact ⟨h.1.1, h.1.2, h.2⟩

theorem test_meets_LockstepMessages :
    let enabled := [(portKey 0 0xC, 1), (portKey 2 0xC, 1), (portKey 4 0xC, 1)]
    let s := locking {} enabled
    let walk (d flags : Nat) := aMessage 0 (d <<< 15 + flags)
    heard s 1 (walk 0 0) false ∧ heard s 1 (walk 0 0) true ∧ portUp State.reset 1 = false ∧ msgField (walk 3 0) 15 2 = 3
      ∧ ({ addressed := true } : Lockstep).addressed = true ∧ (0 : Nat) ≠ neighbourOf (torusSize (locking {} [(keyTorusX, 4)])) (ownOrig s) 0
      ∧ bit (walk 0 (1 <<< 18)).data.toNat 18 = true ∧ isAnchor (locking {} [(keyLsAnchor, 1)]) = true ∧ isAnchor s = false
      ∧ bit (walk 0 (1 <<< 17)).data.toNat 17 ≠ s.lockstep.mode ∧ bit (walk 0 0).data.toNat 17 = s.lockstep.mode ∧ msgField (walk 0 0) 15 2 = 0
      ∧ s.lockstep.coords = none ∧ coord 0 0 + 1 ≤ maxCoord 0 ∧ maxCoord 0 < coord 31 0 + 1 ∧ portEnabled s 0 = true
      ∧ coord 32 0 = 0 ∧ withCoord 33 0 0 = 32 ∧ ({ discOut := [0] } : Lockstep).discOut.contains 0 = true
      ∧ dictGet (locking {} [(keyLsState, 4)]) keyLsState = 4 ∧ dictGet (locking {} [(keyLsState, 2)]) keyLsState = 2 ∧ (aMessage 0 0).whole = true :=
  ⟨test_heard _ _ _ _ (by decide +kernel), test_heard _ _ _ _ (by decide +kernel), by decide +kernel⟩

theorem test_meets_LockstepStart :
    let child := locking { addressed := true } [(keyLsParentPort, 1), (keyLsState, 2)]
    let lost := locking { aligned := true } [(keyLsParentPort, 7), (keyLsHops, 3)]
    let alone : State := { lost with links := {}, dict := [(keyLsParentPort, 0xFF)] }
    let down : State := { State.reset with dict := [(portKey 2 0xC, 1), (keyLsState, 2)] }
    let anchor := locking {} [(keyLsAnchor, 1), (keyLsStartTimeout, 5), (keyLsState, 2)]
    let checking (d : List (Nat × Nat)) (l : List TtLeaf) : State :=
      { State.reset with dict := (keyReadyStatus, 1) :: d, queues := { State.reset.queues with ttCache := l } }
    let image : TtLeaf := { page := 0, sizeLog2 := 30, walked := [], target := 0, writable := true, noPrefetch := false }
    (child.lockstep.addressed = true ∧ isAnchor child = false ∧ dictGet child keyLsParentPort = 1 ∧ (getPort child.links 1).state = .up
        ∧ (getPort child.links 1).gtcAligned = true ∧ child.lockstep.aligning = none ∧ child.lockstep.aligned = false ∧ dictGet child keyLsState ≠ 0
        ∧ dictGet child keyLsState ≠ 1)
      ∧ ({ aligning := some 1 } : Lockstep).aligning = some 1
      ∧ (lost.lockstep.aligned = true ∧ isAnchor lost = false ∧ ¬ (dictGet lost keyLsParentPort < 8 ∧ portUp lost (dictGet lost keyLsParentPort) = true))
      ∧ newParent lost = some 0 ∧ newParent alone = none ∧ dictGet alone keyLsParentPort = 0xFF
      ∧ (portEnabled down 2 = true ∧ portUp down 2 = false ∧ dictGet down keyLsState = 2)
      ∧ (isAnchor anchor = true ∧ dictGet anchor keyLsStartTimeout ≠ 0 ∧ dictGet anchor keyLsState = 2)
      ∧ dictGet (checking [] []) keyReadyStatus = 1 ∧ imageBytes (checking [] []) (dictGet (checking [] []) keyCcImageBase + 0x03FFFF00) 64 = none
      ∧ imageBytes (checking [] [image]) (dictGet (checking [] []) keyCcImageBase + 0x03FFFF00) 64 = some (List.replicate 64 0)
      ∧ imageBytes (checking [] [image]) (dictGet (checking [] []) keyCcImageBase) (min 0x03FFFF00 (bits (leNat (List.replicate 64 0)) 160 32)) = some [] := by
  decide +kernel

theorem test_meets_LockstepRun :
    let plan (n : Nat) : LaunchPlan := { tick := 0, floor := false, done := n }
    let a (code : Nat) : Agreement := { code := code, value := 1, tick := 0, seq := 0 }
    let slip : Slip := { tick := 0, port := 1 }
    let s : State := locking { stalled := some 0 } []
    (∀ n ∈ [0, 1, 2], ({ launch := some (plan n) } : Lockstep).launch = some (plan n) ∧ (plan n).done = n ∧ (plan n).tick ≤ tickOf s)
      ∧ canonicalCores s ∧ (∀ code ∈ [1, 2, 3, 4, 5, 6], ({ agreements := [a code] } : Lockstep).agreements = a code :: [] ∧ (a code).tick ≤ tickOf s)
      ∧ ({ slips := [slip] } : Lockstep).slips = slip :: [] ∧ slip.tick ≤ tickOf s ∧ ({} : Lockstep).stalled = none
      ∧ s.lockstep.stalled = some 0 ∧ 0 ≤ tickOf s ∧ coreOff s 0 = false ∧ (getPort s.links 6).moves = [] := by
  refine ⟨by decide +kernel, canonical_empty _ rfl, ?_⟩
  decide +kernel

/-! Witnesses: the fabric and its configuration. -/

/-- A state with a fabric. -/
def withFabric (f : Fabric) : State := { State.reset with fabric := f }

theorem test_meets_TraceCaptures :
    let s := withDict [(keyTraceValue, 7), (keyTraceMask, 0xFF)]
    let hits (x : Trace) (i : Nat) (v : U32) : Prop :=
      dictGet s keyTracePre ≤ x.count + i ∧ (v ^^^ BitVec.ofNat 32 (dictGet s keyTraceValue)) &&& BitVec.ofNat 32 (dictGet s keyTraceMask) = 0
    let armed : Trace := { code := .armed, count := 65536 }
    let going : Trace := { code := .triggered, count := 65540, trigger := 65539 }
    dictGet s keyTracePre < 65536 ∧ armed.code = .armed ∧ hits armed 1 0x107 ∧ ¬ hits armed 0 5 ∧ ([5, 0x107] : List U32)[1]? = some 0x107
      ∧ going.code = .triggered ∧ going.trigger < going.count ∧ going.count < going.trigger + 65536 - dictGet s keyTracePre ∧ ({} : Trace).code ≠ .armed := by decide +kernel

theorem test_meets_FabricClocksAndBanks :
    (dictGet (withDict [(keyFpllLocked, 4)]) keyFpllLocked).testBit 2 = true ∧ (dictGet State.reset keyFpllLocked).testBit 2 = false
      ∧ mapGet 0 (withFabric { bankLevel := [(2, 1)] }).fabric.bankLevel 2 ≠ 0 ∧ vccoLevel 900 ≠ mapGet 0 [(2, 1)] 2 ∧ vccoLevel 1200 = mapGet 0 [(2, 1)] 2
      ∧ (∃ n ∈ bankPins 8, 320 ≤ n) ∧ dictGet (withDict [(keyProbePinsEn, 1)]) keyProbePinsEn = 1 := by decide +kernel

theorem test_meets_BlockRams :
    let a (w : Bool) : RamAccess := { mode := 0, own := .writeFirst, ecc := false, write := w, addr := 3, data := 1 }
    regionClocked (withFabric { regions := [(5, { code := .running, isolated := false })] }) 5 = true ∧ regionClocked State.reset 5 = false
      ∧ ramOverlap (a true) (a false) = true ∧ ramWrites .a (a true) = true ∧ ramWrites .b (a false) = false ∧ ramOverlap (a true) { a false with addr := 9 } = false := by
  decide +kernel

/-- Some case of a multiplexer's field holds of every design, and some carry-in meets what a chain's start says of it. -/
theorem test_meets_DesignSignals (s : State) (w : Wire) (c : Fin 30720) (n : Nat) :
    let field := Config.muxField (logicFrames s 5) w
    let inputs := Config.muxInputs 5 w
    let start := (Config.cellDesign (logicFrames s 5) c.val).start
    let v (x : Source) : Bool := signal s n 5 x
    ((field = 0 ∨ inputs.length < field) ∨ ∃ k y, field = k + 1 ∧ inputs[k]? = some y)
      ∧ (∃ cin, (start = some .zero → cin = false) ∧ (start = some .one → cin = true) ∧ (start = some .routing → cin = v (.wire (.carryIn c.val)))
        ∧ (start = none → c.val % 16 ≠ 0 → cin = v (.carry (c.val - 1)))
        ∧ (start = none → c.val % 16 = 0 → c.val / 16 % 120 ≠ 119 → cin = v (.carry (c.val + 31)))
        ∧ (start = none → c.val % 16 = 0 → c.val / 16 % 120 = 119 → cin = false)) := by
  intro field inputs start v
  constructor
  · by_cases h : field = 0 ∨ inputs.length < field
    · exact .inl h
    · refine .inr ⟨field - 1, inputs[field - 1]'(by omega), by omega, List.getElem?_eq_getElem _⟩
  · rcases hs : start with _ | m
    · by_cases h : c.val % 16 = 0
      · by_cases h9 : c.val / 16 % 120 = 119
        · exact ⟨false, by simp [h, h9]⟩
        · exact ⟨v (.carry (c.val + 31)), by simp [h, h9]⟩
      · exact ⟨v (.carry (c.val - 1)), by simp [h]⟩
    · cases m
      · exact ⟨false, by simp⟩
      · exact ⟨true, by simp⟩
      · exact ⟨v (.wire (.carryIn c.val)), by simp⟩

theorem test_meets_DesignSignals_regions :
    let running := withFabric { regions := [(5, { code := .running, isolated := false })] }
    regionClocked running 5 = true ∧ regionClocked State.reset 5 = false ∧ (getRegion State.reset 5).code = .blank ∧ (getRegion running 5).code ≠ .blank
      ∧ (getRegion running 5).code ≠ .incomplete ∧ (getRegion running 5).isolated = false ∧ regionCompat State.reset 5 = false := by decide +kernel

/-- A frame of a region's image, blank, with its trailer. -/
def aFrame (region place id : Nat) : List Byte :=
  let head := List.replicate 512 (0 : Byte) ++ natBytes 8 (place + region <<< 16 + id <<< 32)
  head ++ natBytes 8 (crc32c head).toNat ++ List.replicate 16 0

/-- A state whose translation block has the first gigabyte, in stacked memory at its start. -/
def mapped (s : State) (bytes : List (Nat × Byte)) : State :=
  { s with queues := { s.queues with ttCache := [{ page := 0, sizeLog2 := 30, walked := [], target := 0, writable := true, noPrefetch := false }] }
           stacked := { s.stacked with bytes := bytes } }

theorem test_meets_SlotWrites :
    let s (target : Nat) : State := withFabric { store := { job := some { target := target, addr := 0 } } }
    let zeros := List.replicate 544 (0 : Byte)
    let wrong := (zeros.take 514) ++ 0x40 :: zeros.drop 515
    (s 0x80).fabric.store.job = some { target := 0x80, addr := 0 } ∧ stackedFrame (s 0x80) 0 = none ∧ (s 0).fabric.store.job = some { target := 0, addr := 0 }
      ∧ stackedFrame (mapped (s 0x80) []) 0 = some (zeros, false) ∧ trailerField zeros 16 7 < 64 ∧ (assay (mapped (s 0x80) []) (some 0) 0 0 [] zeros).1 = 1
      ∧ stackedFrame (mapped (s 0x80) [(514, 0x40)]) 0 = some (wrong, false) ∧ trailerField wrong 16 7 = 64
      ∧ readPieces (s 0x10) 0 8 = none ∧ (readPieces (mapped (s 0x10) []) 0 8).isSome = true
      ∧ (readPieces (mapped (s 0x10) []) 0 (ceilDiv (256 + 0) 32)).isSome = true ∧ firmwarePasses (s 0x10).fuses (dictGet (s 0x10) keyFwMinBuild) (List.replicate 256 0) = false := by decide +kernel

theorem test_meets_FramesAssayed :
    let store (f : List Byte) : Store := { images := [(0x80, some { frames := [(3672, f)], imageId := 1, region := 0 })] }
    let l : Load := { kind := .region 0 0 0 0, next := 3672, imageId := 1 }
    let good := aFrame 0 3672 1
    let s (f : List Byte) : State := withFabric { store := store f, load := some l }
    let full (slot : Nat) (fb : Bool) : Load := { kind := .full slot fb }
    (s good).fabric.load = some l ∧ l.draining = false ∧ l.next < imageFrames (some 0)
      ∧ sourceFrame (s good) l .failed = some (good, false)
      ∧ assay (s good) (some 0) 3672 1 [] good = (0, List.replicate 512 0) ∧ (List.replicate 512 (0 : Byte)).length = 512
      ∧ (assay (s []) (some 0) 0 0 [] (aFrame 0 0 0)).1 = 4 ∧ sourceFrame (withFabric {}) { kind := .region 0 0 3 0 } .failed = none
      ∧ (full 0 false).next < imageFrames none ∧ sourceFrame (withFabric {}) (full 0 false) .failed = none
      ∧ dictGet (withDict [(keyCfgBootSlot, 0), (keyCfgFallbackSlot, 1)]) keyCfgBootSlot = 0
      ∧ dictGet (withDict [(keyCfgBootSlot, 0), (keyCfgFallbackSlot, 1)]) keyCfgFallbackSlot = 1
      ∧ (storeImage (withFabric { store := { images := [(1, some {})] } }) 1).isSome = true ∧ (storeImage (withFabric {}) 1).isNone = true := by
  decide +kernel

theorem test_meets_RegionsStart :
    let part (draining : Bool) (src next : Nat) : Load := { kind := .region 5 src 0 0, next := next, draining := draining }
    let full : Load := { kind := .full 0 false, next := 300032 }
    let x (code : RegionCode) (failed : Option (Nat × Nat)) : State := withFabric { regions := [(5, { code := code, failed := failed })] }
    (withFabric { load := some full }).fabric.load = some full ∧ full.next = 300032 ∧ (part true 3 0).draining = true ∧ (part false 0 4608).next = 4608
      ∧ storeImage (withFabric {}) 0x80 = none ∧ storeImage (withFabric { store := { images := [(0x80, some {})] } }) 0x80 ≠ none
      ∧ (getRegion (x .resetting none) 5).code = .resetting ∧ (x .resetting none).fabric.load = none ∧ (getRegion (x .scrubbing (some (2, 7))) 5).code = .scrubbing
      ∧ (getRegion (x .scrubbing (some (2, 7))) 5).failed = some (2, 7) ∧ regionPins 5 = regionPins 5 ∧ (getRegion (x .blank none) 5).code ≠ .resetting := by decide +kernel

theorem test_meets_ConfigurationScrub :
    let at_ (place : Nat) (code : RegionCode) (d : List (Nat × Nat)) : State := { withFabric { scrubNext := place, regions := [(0, { code := code })] } with dict := d }
    ((at_ 5120 .loading []).fabric.scrubNext - 5120) / 4608 = 0 ∧ (getRegion (at_ 5120 .loading []) 0).code = .loading
      ∧ ¬ ((getRegion (at_ 5120 .running []) 0).code = .loading ∨ (getRegion (at_ 5120 .running []) 0).code = .scrubbing)
      ∧ ¬ dictGet (at_ 0 .running []) keyFabricState = 1 ∧ dictGet (at_ 5120 .running [(keyCfgUeAction, 1)]) keyCfgUeAction = 1
      ∧ dictGet (at_ 5120 .running [(keyCfgUeAction, 2)]) keyCfgUeAction = 2 ∧ (5120 : Nat) ≤ 300031 := by decide +kernel

/-! Witnesses: power, limits, security, counters and the ledger. -/

/-- The module after reset with a power stage. -/
def withPower (p : Power) : State := { State.reset with power := p }

theorem test_meets_PowerSequence :
    (withPower { mode := .off }).power.mode = .off ∧ State.reset.power.mode ≠ .off ∧ State.reset.ledger.critRing.length ≤ 4096
      ∧ dictGet (withDict [(keyDebugState, 1)]) keyDebugState = 1 := by decide +kernel

theorem test_meets_PowerStates :
    let towers (x : TowerCode) : Stacked := { towers := (List.range 8).map fun t => (t, { state := x }) }
    let booting : State := { withDict [(keyFabricState, 2)] with stacked := towers .ready }
    let off (d : Nat) (s : State) : State := { s with dict := [(keyDomainOff, 2 ^ d)] }
    (booting.power.mode = .on ∧ dictGet booting keyModuleState = 0 ∧ (∀ t, t < 8 → (getTower booting.stacked t).state = .ready) ∧ dictGet booting keyFabricState = 2
        ∧ ∀ k, k < 8 → booting.power.off.getLsbD k = false)
      ∧ dictGet (withDict [(keyPowerReq, 1)]) keyPowerReq = 1 ∧ moduleIdle (withDict [(keyPowerReq, 1)]) = true
      ∧ (∀ d ∈ [0, 8, 17], (dictGet (off d State.reset) keyDomainOff).testBit d = true ∧ State.reset.power.off.getLsbD d = false ∧ mayTurnOff (off d State.reset) d = true)
      ∧ mayTurnOff { off 13 State.reset with stacked := towers .selfRefresh } 13 = true
      ∧ (withPower { off := 1, waking := 1 }).power.waking.getLsbD 0 = true
      ∧ (withPower { mode := .s4, wakeAt := 1 }).power.wakeAt ≠ 0 ∧ (1 : U64) ≤ calendar { withPower { mode := .s4, wakeAt := 1 } with gtc := 5 }
      ∧ (withPower { mode := .s3 }).power.mode = .s3 ∧ dictGet (withDict [(keyWakeCause, 1)]) keyWakeCause ≠ 0
      ∧ retainedOk { withPower { mode := .s3 } with complex := { memory := none } } = false ∧ retainedOk { withDict [(keyFwSlotActive, 0)] with complex := { memory := firmwareIn State.reset 0 } } = true
      ∧ (∀ g, g < 4 → (0 : Nat) = 13 + g → False) ∧ (getRegion (withFabric { regions := [(5, { code := .running })] }) 5).code = .running := by decide +kernel

theorem test_meets_ClocksAndLimits :
    let anchor := withDict [(keyLsAnchor, 1), (keyLsRefSource, 1)]
    State.reset.power.sysrefLost = false ∧ (isAnchor anchor = true ∧ dictGet anchor keyLsRefSource = 1 ∧ anchor.power.gtcRefLost = false)
      ∧ (withPower { railTo := some 3 }).power.railTo = some 3 ∧ State.reset.power.mode = .on ∧ dictGet State.reset keyThrottleActive ≠ 1
      ∧ dictGet (withDict [(keyThrottleActive, 1)]) keyThrottleActive = 1 ∧ dictGet State.reset keyLsState ≠ 5
      ∧ dictGet (withDict [(keyLsState, 5), (keyRunCm, 1)]) keyRunCm = 1 ∧ dictGet State.reset keyLedgerMinSev ≤ 3 ∧ State.reset.ledger.freeze = none
      ∧ State.reset.ledger.queue.length < 256 := by decide +kernel

/-- Readings of a cool and idle module. -/
def coolReadings : GovReadings :=
  { inputVoltage := 0x42400000, inputCurrent := 0, inputPower := 0, dieSensors := [], dieMax := 0, towers := [], power := 0, queueFull := 0
    eccRoseLastHour := 0, eccHoursSinceRise := 0, cool1s := true }

theorem test_meets_Governor :
    let target := dictGet State.reset keyThermalTarget
    let limit := dictGet State.reset keyPowerLimit
    (withDict []).power.mode = .on ∧ (withDict []).mgmt = .serving ∧ target * 1000000 < 200000000 ∧ overCurrent coolReadings = false
      ∧ (coolReadings.towers.foldl max coolReadings.dieMax) + 5000000 < target * 1000000 ∧ coolReadings.power * 100 < 95 * (limit * 1000000)
      ∧ State.reset.fabric.scrubEnded = none ∧ ({ scrubEnded := some true } : Fabric).scrubEnded = some true
      ∧ (withPower { calm := 9 }).power.calm = 9 ∧ State.reset.power.calm ≠ 9 ∧ lockstepMode State.reset = false := by decide +kernel

theorem test_meets_UnsealSequence :
    let ready : Stacked := { towers := (List.range 8).map fun t => (t, { state := .ready }) }
    let s (n : Nat) (h : Option (List Byte)) : State :=
      { State.reset with security := { State.reset.security with step := n, holding := h, interrupted := h.isNone }, stacked := ready }
    (∀ n ∈ [1, 2, 3, 4, 5], (s n none).security.step = n ∧ (s n none).power.mode = .on)
      ∧ (∀ t, t < 8 → (getTower (s 1 none).stacked t).state = .ready) ∧ canonicalCores (s 3 none)
      ∧ (s 5 (some [])).security.holding ≠ none ∧ (s 5 none).security.deferred = none ∧ ({ deferred := some .perstN } : Security).deferred ≠ none
      ∧ (s 5 none).security.asked = [] ∧ ∃ v, exec .unsealStepDone { s 5 none with security := { (s 5 none).security with asked := [], deferred := none } } = .next v :=
  ⟨by decide +kernel, by decide +kernel, canonical_empty _ rfl, by decide +kernel, by decide +kernel, by decide +kernel,
    rfl, _, rfl⟩

theorem test_meets_DebugPort :
    let s : State := { withDict [(keyDebugState, 2)] with straps := { State.reset.straps with debug := true } }
    let frame := aFrame 0 0 1
    let addr : U64 := 0x1000000000000100
    (dictGet s keyDebugState = 2 ∧ s.straps.debug = true ∧ s.power.mode = .on) ∧ dictGet State.reset keyDebugState ≠ 2
      ∧ bits (leNat (frame.drop 512)) 16 7 < 64 ∧ bits (leNat (frame.drop 512)) 0 16 < 4608 ∧ 512 ≤ frame.length
      ∧ bits (leNat ((List.replicate 544 (0xFF : Byte)).drop 512)) 0 16 ≥ 5120
      ∧ spaceOf addr.toNat = 1 ∧ spaceOk addr.toNat = true ∧ cmCore addr.toNat = 0 ∧ coreOff s 0 = false ∧ spaceAddr addr.toNat % coreBytes + 8 ≤ coreBytes
      ∧ keyOfSlot { s with security := { s.security with keys := [] } } 3 = none ∧ keyOfSlot s 3 ≠ none
      ∧ leNat ((sha256 (natBytes 32 5)).take 4) = (BitVec.ofNat 32 (leNat ((sha256 (natBytes 32 5)).take 4))).toNat := by
  iterate 13 (refine And.intro (by decide +kernel) ?_)
  generalize hx : (sha256 (natBytes 32 5)).take 4 = x
  have hl : x.length ≤ 4 := by rw [← hx]; simp
  have hb : leNat x < 2 ^ 32 := lt_of_lt_of_le (leNat_lt x) (Nat.pow_le_pow_right (by decide) (by omega))
  rw [BitVec.toNat_ofNat, Nat.mod_eq_of_lt hb]

/-- A ledger entry of a severity. -/
def anEntry (seq : Nat) (sev : Fin 4) : LedgerEntry :=
  { seq := seq, time := 0, sev := sev, copied := false, calSet := false, srcKind := 0, srcUnit := 0, code := 0x1001, data := 0 }

theorem test_meets_CountersAndLedger :
    let q : PendingSelect := { index := 0x8100, sub := 1, value := 0x50, tick := 0 }
    let p : PendingSelect := { q with tick := 9 }
    let y (held : List LedgerEntry) : Ledger := { held := held, queue := [anEntry 1 2], uncopied := [anEntry 1 3] }
    [p, q] = [p] ++ q :: [] ∧ (∀ r ∈ [p], State.reset.gtc.toNat / 16 < r.tick) ∧ q.tick ≤ State.reset.gtc.toNat / 16
      ∧ ({ clearAt := some 0 } : Counters).clearAt = some 0 ∧ (y []).freeze = none ∧ (y []).queue = anEntry 1 2 :: [] ∧ (y []).held.length < 65536
      ∧ (anEntry 0 1).sev ≤ (anEntry 1 2).sev ∧ (anEntry 1 2).sev < (anEntry 0 3).sev ∧ (withDict []).mgmt = .serving
      ∧ (y []).uncopied = anEntry 1 3 :: [] ∧ ({ freeze := some 5 } : Ledger).freeze = some 5 := by decide +kernel

theorem test_meets_CountersAndLedger_full :
    let held := List.replicate 65536 (anEntry 0 1)
    65536 ≤ held.length ∧ held = [] ++ anEntry 0 1 :: List.replicate 65535 (anEntry 0 1) ∧ (∀ o ∈ List.replicate 65536 (anEntry 0 3), (anEntry 1 2).sev < o.sev) :=
  ⟨Nat.le_of_eq List.length_replicate.symm, List.replicate_succ (n := 65535), fun o h => by rw [List.eq_of_mem_replicate h]; decide⟩

/-! Witnesses: the commands that write one entry. -/

/-- The names of a whole DOMAIN of a client, in one segment. -/
def segNames (key : Nat) (blob : List Byte) : List Byte := natBytes 2 (key / 256) ++ natBytes 1 (key % 256) ++ natBytes 1 3 ++ natBytes 4 0 ++ natBytes 4 blob.length

/-- Whether a client may write a whole DOMAIN. -/
def acceptsWhole (s : State) (role key n : Nat) : Bool :=
  let e := entryOf key
  let head := natBytes 2 (key / 256) ++ natBytes 1 (key % 256) ++ natBytes 1 3 ++ natBytes 4 0 ++ natBytes 4 n
  reachesServer s .mailbox false && decide (head.length = 12) && decide (keyOf (leNat (head.take 2)) (leNat ((head.drop 2).take 1)) = key)
    && decide (reachEntry (withClient s (client role none)) role (key / 256) (key % 256) true = .inr e) && decide (e.type = .domain)
    && decide (leNat ((head.drop 3).take 1) % 4 = 3) && decide (leNat ((head.drop 4).take 4) = 0) && decide (leNat ((head.drop 8).take 4) = n)
    && bodyFits 0x13 (head ++ List.replicate n 0) && decide (n ≤ 64)

/-- A client's write of a whole DOMAIN. -/
def segWriting (key : Nat) (blob : List Byte) : Frame := request 0x13 (segNames key blob)

/-- A frame whose body is the names and the bytes. -/
def segFrame (key : Nat) (blob : List Byte) : Frame := request 0x13 (segNames key blob ++ blob)

theorem drop_head (head blob : List Byte) (k n : Nat) (h : head.length = 12) (hk : k + n ≤ 12) : (((head ++ blob).drop k).take n) = (head.drop k).take n := by
  rw [List.drop_append_of_le_length (by omega), List.take_append_of_le_length (by simp; omega)]

theorem acceptedWhole (s : State) (role key n : Nat) (blob : List Byte) (hb : blob.length = n) (h : acceptsWhole s role key n = true) :
    wholeDomain (withClient s (client role none)) (segFrame key blob) (client role none) (entryOf key) key blob := by
  simp only [acceptsWhole, Bool.and_eq_true, decide_eq_true_eq] at h
  obtain ⟨⟨⟨⟨⟨⟨⟨⟨⟨h1, h2⟩, h3⟩, h4⟩, h5⟩, h6⟩, h7⟩, h8⟩, h9⟩, h10⟩ := h
  have hn : segNames key blob = natBytes 2 (key / 256) ++ natBytes 1 (key % 256) ++ natBytes 1 3 ++ natBytes 4 0 ++ natBytes 4 n := by rw [segNames, hb]
  rw [← hn] at h2 h3 h6 h7 h8 h9
  have hbody : (segFrame key blob).body = segNames key blob ++ blob := rfl
  have fit : bodyFits 0x13 (segNames key blob ++ blob) = true := by
    have e : (segNames key blob ++ blob).length = (segNames key blob ++ List.replicate n (0 : Byte)).length := by simp [hb]
    unfold bodyFits at h9 ⊢
    rw [e]; exact h9
  have hk : frameKey (segFrame key blob) = key := by
    have a := drop_head (segNames key blob) blob 0 2 h2 (by omega)
    have b := drop_head (segNames key blob) blob 2 1 h2 (by omega)
    simp only [List.drop_zero] at a
    unfold frameKey
    rw [hbody, a, b]; exact h3
  refine ⟨request_next .mailbox s 0x13 _ role none fit h1, hk, ?_, h5, rfl, ?_, ?_, ?_, ?_, ?_⟩
  · unfold reaches; rw [hk]; exact h4
  · rw [hbody]; exact List.drop_left' h2
  · intro y hy hne; simp [withClient] at hy; exact absurd (by rw [hy]) hne
  · rw [hbody, drop_head _ _ _ _ h2 (by omega)]; exact h6
  · rw [hbody, drop_head _ _ _ _ h2 (by omega)]; exact h7
  · rw [hbody, drop_head _ _ _ _ h2 (by omega), hb]; exact h8

/-- A key's cipher text. -/
def sealText : List Byte := List.replicate 32 7

theorem sealText_length : sealText.length = 32 := rfl

/-- A key blob of a client, sealed under its key. -/
def sealed (slot : Nat) (nonce : List Byte) : List Byte :=
  let head : List Byte := natBytes 4 slot
  head ++ nonce ++ sealText ++ gcmTag (aesKeys wrapKey) nonce (head ++ natBytes 8 0) sealText

theorem sealed_length (slot : Nat) (nonce : List Byte) (h : nonce.length = 12) (ht : (gcmTag (aesKeys wrapKey) nonce (natBytes 4 slot ++ natBytes 8 0) sealText).length = 16) :
    (sealed slot nonce).length = 64 := by
  simp [sealed, h, ht, sealText_length]

theorem sealed_opens (s : State) (role slot : Nat) (nonce : List Byte) (h : nonce.length = 12) (hs : dictGet s keySerial = 0)
    (ht : (gcmTag (aesKeys wrapKey) nonce (natBytes 4 slot ++ natBytes 8 0) sealText).length = 16)
    (hc : slotCode (leNat ((natBytes 4 slot).take 1)) = true) (hz : leNat ((natBytes 4 slot).drop 1) = 0) :
    ∃ b, openBlob s (client role none) (sealed slot nonce) = some b ∧ b.slot = leNat ((natBytes 4 slot).take 1) := by
  have l : (natBytes 4 slot).length = 4 := by simp
  have e1 : (sealed slot nonce).take 4 = natBytes 4 slot := by
    simp only [sealed, List.append_assoc]; exact List.take_left' l
  have e2 : ((sealed slot nonce).drop 4).take 12 = nonce := by
    simp only [sealed, List.append_assoc]; rw [List.drop_left' l]; exact List.take_left' h
  have e3 : ((sealed slot nonce).drop 16).take 32 = sealText := by
    simp only [sealed]
    rw [List.append_assoc, List.drop_left' (by simp [h])]
    exact List.take_left' sealText_length
  have e4 : (sealed slot nonce).drop 48 = gcmTag (aesKeys wrapKey) nonce (natBytes 4 slot ++ natBytes 8 0) sealText := by
    simp only [sealed]
    exact List.drop_left' (by simp [h, sealText_length])
  have el := sealed_length slot nonce h ht
  unfold openBlob
  simp only [e1, e2, e3, e4, el, hs, hc, hz]
  have hw : (client role none).kWrap = wrapKey := rfl
  have hn : (client role none).lastNonce = none := rfl
  simp only [hw, hn, gcmDecrypt, if_true]
  exact ⟨{ slot := leNat (List.take 1 (natBytes 4 slot)), nonce := leNat nonce, key := gcmCtr (aesKeys wrapKey) nonce 2 (pieces 16 sealText) }, by simp, rfl⟩

theorem tag_length : (gcmTag (aesKeys wrapKey) (natBytes 12 1) (natBytes 4 3 ++ natBytes 8 0) sealText).length = 16 := by decide +kernel

/-- The module STOPPED. -/
def stoppedModule (d : List (Nat × Nat)) : State := withDict ((keyModuleState, 1) :: d)

/-- The owner's client. -/
abbrev owner : Session := client 3 none

/-- The owner's WRITE of an entry is accepted. -/
def ownerWrites (s : State) (key v : Nat) : Prop := acceptedWrite (withClient s owner) (writing key v) owner (entryOf key) key v

theorem test_meets_NamedWrites :
    ownerWrites (withDict []) keyFbEnable 0 ∧ ownerWrites (stoppedModule []) keyTraceArm 1 ∧ ownerWrites (stoppedModule []) (portKey 6 0xC) 1
      ∧ ownerWrites (stoppedModule []) (keyOf 0x8100 1) 0x50 ∧ selectSet (keyOf 0x8100 1 / 256) ≠ none :=
  ⟨accepted _ _ _ _ (by decide +kernel), accepted _ _ _ _ (by decide +kernel), accepted _ _ _ _ (by decide +kernel),
    accepted _ _ _ _ (by decide +kernel), by decide⟩

theorem test_meets_PortWrites :
    ownerWrites (stoppedModule []) (portKey 6 0xC) 0 ∧ ownerWrites (stoppedModule []) (portKey 6 0xC) 1 ∧ ownerWrites (stoppedModule []) (portKey 6 0xD) 1 :=
  ⟨accepted _ _ _ _ (by decide +kernel), accepted _ _ _ _ (by decide +kernel), accepted _ _ _ _ (by decide +kernel)⟩

theorem test_meets_LockstepWrites :
    let anchor := stoppedModule [(keyLsAnchor, 1), (portKey 0 0xC, 1)]
    ownerWrites anchor keyLsRestart 1 ∧ portEnabled anchor 0 = true ∧ canonicalCores (withClient anchor owner) ∧ ownerWrites (stoppedModule []) keyLsReady 1
      ∧ ownerWrites (stoppedModule [(keyLsAnchor, 1), (keyLsState, 4)]) keyLaunch 1 ∧ 0 < dictGet anchor keyScrubEvery :=
  ⟨accepted _ _ _ _ (by decide +kernel), by decide +kernel, canonical_empty _ rfl, accepted _ _ _ _ (by decide +kernel), accepted _ _ _ _ (by decide +kernel),
    by decide +kernel⟩

theorem test_meets_FabricWrites :
    let s := stoppedModule
    let image : State := { s [] with fabric := { (s []).fabric with store := { (s []).fabric.store with images := [(0, some {}), (0x80, some {})] } } }
    let running : State := { s [] with fabric := { (s []).fabric with regions := [(5, { code := .running, isolated := false })] } }
    ownerWrites (s []) keyTraceArm 1 ∧ ownerWrites (s []) keyTraceArm 0 ∧ ownerWrites (s []) keySlotWrite 0x10 ∧ ownerWrites (s []) keySlotWrite 0x80
      ∧ ownerWrites (s []) keyCfgFullLoad 0 ∧ storeImage (s []) 0 = none ∧ ownerWrites image keyCfgFullLoad 0 ∧ storeImage image 0 ≠ none
      ∧ ownerWrites (s [(keyPlDrain, 1)]) keyPlStart 1 ∧ dictGet (s [(keyPlDrain, 1)]) keyPlDrain = 1 ∧ ownerWrites (s [(keyPlSource, 3)]) keyPlStart 1
      ∧ dictGet (s [(keyPlSource, 3)]) keyPlDrain ≠ 1 ∧ dictGet (s [(keyPlSource, 3)]) keyPlSource = 3 ∧ ownerWrites image keyPlStart 1
      ∧ storeImage image (0x80 + dictGet image keyPlLibEntry) ≠ none ∧ ownerWrites running keyRegionReset 5 :=
  ⟨accepted _ _ _ _ (by decide +kernel), accepted _ _ _ _ (by decide +kernel), accepted _ _ _ _ (by decide +kernel), accepted _ _ _ _ (by decide +kernel),
    accepted _ _ _ _ (by decide +kernel), by decide +kernel, accepted _ _ _ _ (by decide +kernel), by decide +kernel, accepted _ _ _ _ (by decide +kernel),
    by decide +kernel, accepted _ _ _ _ (by decide +kernel), by decide +kernel, by decide +kernel, accepted _ _ _ _ (by decide +kernel), by decide +kernel,
    accepted _ _ _ _ (by decide +kernel)⟩

/-- A module in S3 or S4, with the owner's client on the field bus. -/
def inLowPower (m : PowerMode) : State := { State.reset with power := { State.reset.power with mode := m } }

theorem test_meets_PowerWrites :
    let s := stoppedModule
    let low : State := { s [] with pcie := { (s []).pcie with linkUp := false } }
    let bus (m : PowerMode) : Prop := acceptedWrite (withClient (inLowPower m) (clientAt busVia 3 none)) (writingAt busVia keyPowerReq 0) (clientAt busVia 3 none)
      (entryOf keyPowerReq) keyPowerReq 0
    ownerWrites (s []) keyModuleCmd 1 ∧ (∀ c h, getThread (withClient (s []) owner) c h = {}) ∧ canonicalCores (withClient (s []) owner)
      ∧ ownerWrites (withDict [(keyModuleState, 2)]) keyModuleCmd 2 ∧ ownerWrites (s []) keyCoreReset 1 ∧ ownerWrites (s []) keyWarmReset 1 ∧ (s []).power.mode = .on
      ∧ ownerWrites (s []) keyPowerCycle 1 ∧ ownerWrites (s []) keyPowerReq 0 ∧ ownerWrites (s []) keyPowerReq 1 ∧ ownerWrites low keyPowerReq 3
      ∧ ownerWrites low keyPowerReq 4 ∧ ownerWrites (s []) keyDomainOff 0x2000 ∧ bus .s3 ∧ bus .s4
      ∧ isUnsealing (s []) = false ∧ isUnsealing (s [(keyDebugState, 1)]) = true ∧ ownerWrites (s [(keyDebugState, 1)]) keyCoreReset 1
      ∧ ownerWrites (s [(keyDebugState, 1)]) keyPowerReq 1 :=
  ⟨accepted _ _ _ _ (by decide +kernel), fun _ _ => rfl, canonical_empty _ rfl, accepted _ _ _ _ (by decide +kernel), accepted _ _ _ _ (by decide +kernel),
    accepted _ _ _ _ (by decide +kernel), by decide +kernel, accepted _ _ _ _ (by decide +kernel), accepted _ _ _ _ (by decide +kernel),
    accepted _ _ _ _ (by decide +kernel), accepted _ _ _ _ (by decide +kernel), accepted _ _ _ _ (by decide +kernel), accepted _ _ _ _ (by decide +kernel),
    acceptedAt _ _ _ _ _ (by decide +kernel), acceptedAt _ _ _ _ _ (by decide +kernel), by decide +kernel, by decide +kernel,
    accepted _ _ _ _ (by decide +kernel), accepted _ _ _ _ (by decide +kernel)⟩

/-- R538: a reset asked for while the module unseals waits, and runs as the sequence ends. -/
theorem test_asked_waits :
    let w := waitOrRun (withDict [(keyDebugState, 1)]) (keyCoreReset, 1)
    dictGet w keyLastReset = dictGet State.reset keyLastReset ∧ w.security.asked = [(keyCoreReset, 1)]
      ∧ dictGet (endUnseal w) keyLastReset = 3 ∧ (endUnseal w).security.asked = [] := by decide +kernel

theorem test_meets_SecurityWrites :
    let s := stoppedModule
    let blob := sealed 3 (natBytes 12 1)
    let zeros := List.replicate 64 (0 : Byte)
    ownerWrites (s []) keyKeyClear 2 ∧ ownerWrites (s []) keySeal 1 ∧ wholeDomain (withClient (s []) owner) (segFrame keyKeyLoad blob) owner (entryOf keyKeyLoad) keyKeyLoad blob
      ∧ (∃ b, openBlob (withClient (s []) owner) owner blob = some b ∧ b.slot = 3) ∧ imageSlotBarred (s []) 3 = false
      ∧ imageSlotBarred (s [(keyDebugState, 2)]) 0x10 = true
      ∧ wholeDomain (withClient (s []) owner) (segFrame keyKeyLoad zeros.tail) owner (entryOf keyKeyLoad) keyKeyLoad zeros.tail
      ∧ openBlob (withClient (s []) owner) owner zeros.tail = none
      ∧ wholeDomain (withClient (s []) owner) (segFrame keyUnseal blob) owner (entryOf keyUnseal) keyUnseal blob ∧ mayUnseal (s []) = false
      ∧ mayUnseal { s [] with straps := { (s []).straps with debug := true }
                              stacked := { (s []).stacked with towers := (List.range 8).map fun t => (t, { state := .ready }) } } = true := by
  have hl : (sealed 3 (natBytes 12 1)).length = 64 := sealed_length 3 _ (by simp) tag_length
  refine ⟨accepted _ _ _ _ (by decide +kernel), accepted _ _ _ _ (by decide +kernel), acceptedWhole _ _ _ 64 _ hl (by decide +kernel),
    ?_, by decide +kernel, by decide +kernel, acceptedWhole _ _ _ 63 _ rfl (by decide +kernel), by decide +kernel,
    acceptedWhole _ _ _ 64 _ hl (by decide +kernel), by decide +kernel, by decide +kernel⟩
  obtain ⟨b, h1, h2⟩ := sealed_opens (withClient (stoppedModule []) owner) 3 3 (natBytes 12 1) (by simp) (by decide +kernel) tag_length (by decide +kernel) (by decide +kernel)
  exact ⟨b, h1, h2.trans (by decide +kernel)⟩

theorem test_meets_CounterAndLedgerWrites :
    let s := stoppedModule []
    let frozen (x : Option U32) : State := { s with ledger := { s.ledger with freeze := x } }
    ownerWrites s (keyOf 0x8100 1) 0x50 ∧ ownerWrites s keyCntClear 1 ∧ ownerWrites s keySampleClear 1 ∧ canonicalCores (withClient s owner)
      ∧ ownerWrites (frozen none) keyLedgerFreeze 1 ∧ ownerWrites (frozen (some 5)) keyLedgerFreeze 1 ∧ ownerWrites (frozen (some 5)) keyLedgerFreeze 0
      ∧ ownerWrites (frozen none) keyLedgerFreeze 0 ∧ (frozen none).ledger.held.length + (frozen none).ledger.queue.length ≤ 65536
      ∧ ownerWrites s keyLedgerClear 1 ∧ ownerWrites s keyCalendarSet 77 :=
  ⟨accepted _ _ _ _ (by decide +kernel), accepted _ _ _ _ (by decide +kernel), accepted _ _ _ _ (by decide +kernel), canonical_empty _ rfl,
    accepted _ _ _ _ (by decide +kernel), accepted _ _ _ _ (by decide +kernel), accepted _ _ _ _ (by decide +kernel), accepted _ _ _ _ (by decide +kernel),
    by decide +kernel, accepted _ _ _ _ (by decide +kernel), accepted _ _ _ _ (by decide +kernel)⟩

/-! Witnesses: writes that are refused in a state, and conversions. -/

/-- Whether the client's WRITE reaches its entry with a value of its type. -/
def reachesAt (via : Via) (s : State) (role key v : Nat) : Bool :=
  let s1 := withClient s (clientAt via role none)
  let e := entryOf key
  let body := names key (typeCode e.type) ++ natBytes (typeSize e.type) v
  reachesServer s via false && bodyFits 0x11 body && decide (keyOf (leNat (body.take 2)) (leNat ((body.drop 2).take 1)) = key)
    && decide (reachEntry s1 role (key / 256) (key % 256) true = .inr e)
    && decide (leNat ((body.drop 3).take 1) = typeCode e.type) && decide ((body.drop 4).length = typeSize e.type) && decide (leNat (body.drop 4) = v)

theorem reachedAt (via : Via) (s : State) (role key v : Nat) (h : reachesAt via s role key v = true) :
    let s1 := withClient s (clientAt via role none)
    let f := writingAt via key v
    isNext s1 0x11 f (clientAt via role none) ∧ frameKey f = key ∧ reaches s1 f (clientAt via role none) true (entryOf key)
      ∧ leNat ((f.body.drop 3).take 1) = typeCode (entryOf key).type ∧ (f.body.drop 4).length = typeSize (entryOf key).type ∧ frameValue f = v := by
  simp only [reachesAt, Bool.and_eq_true, decide_eq_true_eq] at h
  obtain ⟨⟨⟨⟨⟨⟨h1, h2⟩, h3⟩, h4⟩, h5⟩, h6⟩, h7⟩ := h
  have hk : frameKey (writingAt via key v) = key := h3
  refine ⟨request_next via s 0x11 _ role none h2 h1, hk, ?_, h5, h6, h7⟩
  unfold reaches
  rw [hk]
  exact h4

theorem test_meets_TransportsDisabled :
    (∀ r ∈ ([(.mailbox, keyFbEnable, 0), (.mailbox, keyFbEnable, 1), (.mailbox, keyMailboxEnable, 0), (busVia, keyMailboxEnable, 1)] : List (Via × Nat × Nat)),
        acceptsAt r.1 (withDict []) 3 r.2.1 r.2.2 = true)
      ∧ (reachesAt .mailbox (withDict [(keyFbEnable, 0)]) 3 keyMailboxEnable 0 = true ∧ dictGet (withDict [(keyFbEnable, 0)]) keyFbEnable = 0)
      ∧ (reachesAt busVia (withDict [(keyMailboxEnable, 0)]) 3 keyFbEnable 0 = true ∧ dictGet (withDict [(keyMailboxEnable, 0)]) keyMailboxEnable = 0) := by
  decide +kernel

/-- A module in a lock-step run that has agreed to stop. -/
def stopping : State :=
  { withDict [(keyLsState, 5), (keyLsAnchor, 1)] with lockstep := { ({} : Lockstep) with agreements := [{ code := 6, value := 0, tick := 0, seq := 0 }] } }

theorem test_meets_LockstepStop :
    acceptsAt .mailbox (withDict [(keyLsState, 5), (keyLsAnchor, 1)]) 3 keyLsStop 1 = true
      ∧ ((stopping.lockstep.agreements.head?.map (·.code)) = some 6 ∧ stopping.lockstep.stalled = none ∧ dictGet stopping keyLsState = 5)
      ∧ (reachesAt .mailbox (withDict [(keyLsState, 4)]) 3 keyLsStop 1 = true ∧ isAnchor (withDict [(keyLsState, 4)]) = false) := by
  decide +kernel

theorem test_stopping_coresCanonical : canonicalCores stopping := by
  unfold canonicalCores
  decide +kernel

/-- R94: a conversion to an integer rounds a tie to the even integer, and clamps. -/
theorem test_integer_conversions :
    (convertFmt .int8 true (.fin false 5 (-1))).code = 2 ∧ (convertFmt .int8 true (.fin false 300 0)).code = 127
      ∧ (convertFmt .int4 true (.fin true 100 0)).code = 8 := by decide +kernel

/-! Signal engines: instruction words, written out from R465. -/

/-- A region's first engine, running in an open region. -/
def engineState (x : SigEngine) : State :=
  { State.reset with fabric := { ({} : Fabric) with regions := [(0, { ({} : Region) with code := .running, isolated := false })], engines := [(0, { x with cause := .running })] } }

/-- An engine with one word of C memory at address 0. -/
def seAt (w : U32) : SigEngine := { ({} : SigEngine) with c := [(0, w)] }

/-- The words of R465: OP in bits 31 to 26, S1 in 25 to 20, S2 in 19 to 14, ACC in 13, DST or SH in 12 to 8. S1 is D1 and S2 is D2,
or X0 through its first pointer where a memory operand is needed. -/
def seWords : List (BitVec 32 × SeOp) :=
  [ (0b000000_000000_000000_0_00000_00000000, .nop), (0b000001_000001_000010_0_00000_00000000, .mac),
    (0b000010_000001_000010_1_00000_00000000, .msu), (0b000011_100001_101001_0_00000_00000000, .mpy),
    (0b000100_000001_000000_1_00000_00000000, .adda), (0b000101_000000_000000_1_00000_00000000, .clra),
    (0b000110_000000_000000_0_00100_00000000, .sha), (0b000111_000000_101001_1_00000_00000000, .rda),
    (0b010000_000001_000010_0_00011_00000000, .add), (0b010001_000001_000010_0_00011_00000000, .sub),
    (0b010010_000001_000010_0_00011_00000000, .and), (0b010011_000001_000010_0_00011_00000000, .or),
    (0b010100_000001_000010_0_00011_00000000, .xor), (0b010101_000001_111111_0_00011_00000000, .shf),
    (0b010110_000001_000010_0_00011_00000000, .min), (0b010111_000001_000010_0_00011_00000000, .max),
    (0b011000_000001_000000_0_00011_00000000, .abs), (0b011001_000001_000000_0_00011_00000000, .mov),
    (0b011010_000001_100001_0_00000_00000000, .st), (0b011011_00011_111111111111111111111, .ldi),
    (0b011100_00011_000000000_111111111111, .ldih), (0b011101_00011_00000000000000000_1001, .movp),
    (0b011110_00011_00000000000000000_1001, .getp), (0b100000_0_0000000101_0_0000000100_0000, .loop),
    (0b100000_1_00000_00011_1_0000000100_0000, .loop), (0b100001_0111_000000000000_0000000101, .br),
    (0b100011_000000_000000_0_00000_00000000, .halt), (0b100100_000000_000000_0_00011_00000000, .in),
    (0b100101_000001_000000_0_00000_00000000, .out), (0b100110_00011_000000000000000000000, .setsr),
    (0b100111_00011_000000000000000000000, .getsr), (0b101000_00000_0000000000000000000_10, .setrot) ]

/-- R465: every opcode decodes, in an engine that runs and waits for nothing. -/
theorem test_seWords :
    (seWords.all fun e => seRuns (engineState (seAt e.1)) 0 && (getSe (engineState (seAt e.1)) 0).wait = .none
      && seDecode (getSe (engineState (seAt e.1)) 0) = some e.2) = true := by decide +kernel

/-- R465, R471: RTI is an instruction of the shadow bank alone. -/
theorem test_seRti_word :
    let w : U32 := 0b100010_000000_000000_0_00000_00000000
    seDecode { seAt w with inh := true } = some .rti ∧ seDecode (seAt w) = none := by decide +kernel

/-- R466: no opcode, a reserved bit, an illegal selector, two operands of one bus, and an amount out of range. -/
theorem test_seIllegal_words :
    ([0b001000_00000000000000000000000000, 0b000000_00000000000000000000000001, 0b011001_111001_000000_0_00011_00000000,
        0b000001_100001_100011_0_00000_00000000, 0b010101_000001_011111_0_00011_00000000, 0b100001_1001_000000000000_0000000101]
        : List (BitVec 32)).all (fun w => seDecode (seAt w) = none) = true := by decide +kernel

theorem test_meets_EngineIsolated :
    seCommand (.seMac 3) = some 3 ∧ regionClocked (engineState {}) 0 = true := by decide +kernel

theorem test_meets_EnginePorts :
    (getSe (engineState { wait := .input 0x300 }) 0).wait = .input 0x300 ∧ seRuns (engineState { wait := .input 0x300 }) 0 = true
      ∧ (getSe (engineState { wait := .output 0x100000 }) 0).wait = .output 0x100000 ∧ seRuns (engineState { wait := .output 0x100000 }) 0 = true
      ∧ regionClocked (engineState {}) 0 = true ∧ regionClocked State.reset 0 = false ∧ seRuns State.reset 0 = false := by decide +kernel

theorem test_meets_EngineFlow :
    let m : SigEngine := { ({} : SigEngine) with main := { ({} : SeBank) with sr := 0xF }, issued := true }
    seRuns (engineState m) 0 = true ∧ (getSe (engineState m) 0).inh = false ∧ (getSe (engineState m) 0).main.sr.getLsbD 3 = true
      ∧ (getSe (engineState m) 0).issued = true ∧ seDecode (getSe (engineState (seAt (-1))) 0) = none := by decide +kernel

/-- One field of the engine after a step. -/
def afterSe (x : SigEngine) (c : Instr) : SigEngine :=
  match exec c (engineState x) with
  | .next t => getSe t 0
  | _ => {}

/-- R463, R465: MAC adds the exact product, and SHF by -1 is an arithmetic right shift. -/
theorem test_seMac : (afterSe { seAt 0b000001_000001_000010_0_00000_00000000 with d := [(1, 3), (2, -5)] } (.seMac 0)).main.acc0 = -15 := by decide +kernel
theorem test_seShf : mapGet 0 (afterSe { seAt 0b010101_000001_111111_0_00011_00000000 with d := [(1, -5)] } (.seShf 0)).d 3 = -3 := by decide +kernel
theorem test_seLdi : mapGet 0 (afterSe (seAt 0b011011_00011_111111111111111111111) (.seLdi 0)).d 3 = -1 := by decide +kernel

/-! Well-formedness: for each check, a command that it refuses beside one that it accepts. -/

/-- A flit with a payload of a length. -/
def flitOf (n : Nat) : Flit :=
  { dstX := 0, dstY := 0, dstSub := 0, cls := 0, srcX := 0, srcY := 0, srcSub := 0, mcast := false, lenM1 := 0, flitIdx := 0, urgency := 0
    opcode := 0, poison := 0, err := false, ackReq := false, tag := 0, addr := 0, byteEn := 0, payload := List.replicate n 0 }

/-- A half-line of symbols and bytes. -/
def halfOf (symbols bytes : Nat) : HalfRead := { symbols := symbols, asRead := List.replicate bytes 0 }

/-- An access of a block RAM. -/
def accessOf (mode : Fin 7) (addr data : Nat) : RamAccess := { mode := mode, own := .readFirst, ecc := false, write := true, addr := addr, data := data }

/-- Readings of the governor, for a number of towers. -/
def readingsOf (n q : Nat) : GovReadings :=
  { dieMax := 0, towers := List.replicate n 0, power := 0, queueFull := q, eccRoseLastHour := 0, eccHoursSinceRise := 0
    cool1s := true, inputVoltage := 0, inputCurrent := 0, inputPower := 0, dieSensors := [] }

theorem test_wf_mailboxRequest :
    (Instr.mailboxRequest none false).wellFormed = true ∧ (Instr.mailboxRequest (some []) false).wellFormed = false := by decide +kernel

theorem test_wf_answers :
    (Instr.frameAssay (.data (List.replicate 544 0) 0)).wellFormed = true ∧ (Instr.frameAssay (.data (List.replicate 543 0) 0)).wellFormed = false
      ∧ (Instr.ringFetchDone 0 (.data (List.replicate 129 0) 0)).wellFormed = false
      ∧ (Instr.lineDataArrival 0 0 (.data (List.replicate 129 0) 0)).wellFormed = false := by decide +kernel

theorem test_wf_bar2 :
    (Instr.bar2Read 0 4096 []).wellFormed = true ∧ (Instr.bar2Read 0 0 []).wellFormed = false ∧ (Instr.bar2Read 0 4097 []).wellFormed = false
      ∧ (Instr.bar2Read 0 1 [halfOf 73 64]).wellFormed = false ∧ (Instr.bar2Write 0 [0] []).wellFormed = true
      ∧ (Instr.bar2Write 0 [] []).wellFormed = false ∧ (Instr.bar2Write 0 [0] [halfOf 0 63]).wellFormed = false
      ∧ (Instr.translationDone [halfOf 0 63]).wellFormed = false := by decide +kernel

theorem test_wf_forwardedEntry :
    (Instr.forwardedEntryReceive 0 0 0 0 (List.replicate 64 0)).wellFormed = true ∧ (Instr.forwardedEntryReceive 0 0 0 0 []).wellFormed = false := by
  decide +kernel

theorem test_wf_flits :
    (Instr.rd (flitOf 128)).wellFormed = true
      ∧ ([.rd, .wr, .line, (Instr.mcLine · 0), .holdReq, .rdData, .wrAck, .credit, .retry, .mgtRd, .mgtWr, .mgtRsp] : List (Flit → Instr)).all
        (fun row => !(row (flitOf 129)).wellFormed) = true := by decide +kernel

theorem test_wf_bpResponse :
    (Instr.bpResponse 0 0 false (List.replicate 128 0) 0).wellFormed = true
      ∧ (Instr.bpResponse 0 0 false (List.replicate 129 0) 0).wellFormed = false := by decide +kernel

theorem test_wf_smReadData :
    (Instr.smReadData 0 0 0 (halfOf 0 64) (halfOf 72 64)).wellFormed = true ∧ (Instr.smReadData 0 0 0 (halfOf 73 64) (halfOf 0 64)).wellFormed = false
      ∧ (Instr.refreshStop 0 0 0 (halfOf 0 64) (halfOf 0 63)).wellFormed = false := by decide +kernel

theorem test_wf_lsRefreshSlot :
    (Instr.lsRefreshSlot 0 (List.replicate 32 (halfOf 0 64, halfOf 0 64))).wellFormed = true
      ∧ (Instr.lsRefreshSlot 0 (List.replicate 31 (halfOf 0 64, halfOf 0 64))).wellFormed = false := by decide +kernel

theorem test_wf_dataFrame :
    (Instr.dataFrame 0 (List.replicate 32 1) (List.replicate 31 0) 0).wellFormed = true ∧ (Instr.dataFrame 0 (List.replicate 32 1) [] 0).wellFormed = false
      ∧ (Instr.dataFrame 0 [] (List.replicate 31 0) 0).wellFormed = false := by decide +kernel

theorem test_wf_bramAccess :
    (Instr.bramAccess 0 0 (some (accessOf 0 32767 1)) none false false).wellFormed = true
      ∧ (Instr.bramAccess 0 0 (some (accessOf 0 32768 1)) none false false).wellFormed = false
      ∧ (Instr.bramAccess 0 0 none (some (accessOf 3 0 512)) false false).wellFormed = false := by decide +kernel

theorem test_wf_governorPeriod :
    (Instr.governorPeriod (readingsOf 8 1000000)).wellFormed = true ∧ (Instr.governorPeriod (readingsOf 7 0)).wellFormed = false
      ∧ (Instr.governorPeriod (readingsOf 8 1000001)).wellFormed = false := by decide +kernel

theorem test_wf_bdFrame :
    (Instr.bdFrame (List.replicate 544 0)).wellFormed = true ∧ (Instr.bdFrame (List.replicate 543 0)).wellFormed = false := by decide +kernel

theorem test_wf_translations :
    (Instr.atsInvalidation none 0 12).wellFormed = true ∧ (Instr.atsInvalidation none 0 11).wellFormed = false
      ∧ (Instr.atsTranslationCompletion none 0 65 true true false).wellFormed = false := by decide +kernel

/-- A training with taps of a number on every lane but the last, which has another. -/
def tapsOf (n last : Nat) : TrainResult :=
  { trained := true, partnerSerial := 0, partnerPort := 0, rttMax := 0, rttMinusTurnMax := 0, lanesReversed := false, dfeTaps := List.replicate 15 n ++ [last] }

theorem test_wf_portTrainingDone :
    (Instr.portTrainingDone 0 (tapsOf 1 15)).wellFormed = true ∧ (Instr.portTrainingDone 0 (tapsOf 1 16)).wellFormed = false
      ∧ (Instr.portTrainingDone 0 (tapsOf 1 0)).wellFormed = false := by decide +kernel

/-! Single steps. -/

/-- The reset machine with a command at the front of its queue takes it. -/
theorem test_step_takes_front :
    step { State.reset with pending := [.s1Exit] } = exec .s1Exit State.reset := rfl

theorem test_reset_queue_empty : State.reset.pending = [] := rfl

/-- The table gives no row bits. -/
theorem test_no_words : decodeTableWord 32 0 = none := rfl

/-! Worked examples of the spec. -/

/-- Chapter 03's table of a dominated tensor, for the quotients that binary fractions give exactly: the codes of E4M3. -/
theorem test_e4m3_codes :
    ([(false, 448, 0, 0x7E), (true, 150, 0, 0xF1), (false, 5, -1, 0x42), (true, 11184811, -25, 0xAB)]
        : List (Bool × Nat × Int × Nat)).all
      (fun r => (convertFmt .e4m3 false (.fin r.1 r.2.1 r.2.2.1)).code = r.2.2.2) = true := by decide +kernel

/-- Chapter 04's example: four BF16 products enter a window of anchor -80, two of them truncated. -/
theorem test_window_example :
    let a := [0x4040, 0x2BC0, 0xBF80, 0x2180].map (decodeFmt .bf16)
    let b := [0x3F40, 0x2C20, 0x3F00, 0x3080].map (decodeFmt .bf16)
    let r := accProducts (-80) { win := {} } a b
    r.win.w.toInt = 9 * 2 ^ 78 + 3 - 2 ^ 79 ∧ r.trunc = 2 := by decide +kernel

end Sys2Proof.Tests
end

