-- ==== Sys2Proof/Proofs/Requests.lean ====
section
/-! SUPPORT. What a session's next request comes to: its one answer and its effect (R54, R66, R67), and what a request for an entry that
the checks of R590 do not let it reach comes to. -/

namespace Sys2Proof.Machine

/-! The session's next request is executed. -/

/-- Two changes of one session in a row are one change, where the first keeps the session's identifier. -/
theorem modSession_modSession (s : State) (sid : U32) (g h : Session → Session) (hg : ∀ y, (g y).sid = y.sid) :
    modSession (modSession s sid g) sid h = modSession s sid fun y => h (g y) := by
  have e : (fun y => if y.sid = sid then h y else y) ∘ (fun y => if y.sid = sid then g y else y)
      = fun y => if y.sid = sid then h (g y) else y := by
    funext y
    by_cases hy : y.sid = sid <;> simp [hy, hg]
  simp [modSession, List.map_map, e]

/-- A request that is its session's next, with the right tag, is executed on the state that has accepted the tag. -/
theorem serveSession_of_isNext {s : State} {op : Nat} {f : Frame} {x : Session} (h : isNext s op f x) :
    serveSession s op f = execute (tagAccepted s x) x op f := by
  obtain ⟨⟨-, -, hfound⟩, htag, hseq⟩ := h
  have htag' : f.tag = (hmac256 x.kTag (requestBytes op f)).take 16 := htag
  simp [serveSession, hfound, ← htag', hseq, modSession, tagAccepted]

/-- The server executes a request of a session that is the session's next. -/
theorem serveFrame_of_isNext {s : State} {op : Nat} {f : Frame} {x : Session} (hop : 0x10 ≤ op) (h : isNext s op f x) :
    serveFrame s op f = execute (tagAccepted s x) x op f := by
  have hsession := serveSession_of_isNext h
  obtain ⟨⟨hreach, ⟨hstray, hgood⟩, -⟩, -, -⟩ := h
  obtain ⟨k, rfl⟩ := Nat.exists_eq_add_of_le' hop
  simp [serveFrame, hreach, hstray, hgood, hsession]

/-- R54, R66, R67: a request executed is answered once, with what it comes to, and its effect follows. -/
theorem execute_tagAccepted (s : State) (x : Session) (op : Nat) (f : Frame) :
    let r := serveBody (tagAccepted s x) x op f.via f.body f.storeFails
    execute (tagAccepted s x) x op f
      = r.act (answered (useFree s r.used) x op f r.status (if r.status = stOk then r.body else []) r.writing) := by
  intro r
  have e : useFree (tagAccepted s x) r.used = modSession (useFree s r.used) x.sid fun y => { y with tagFails := 0 } := rfl
  unfold execute
  dsimp only
  rw [e, modSession_modSession]
  · rfl
  · exact fun _ => rfl

/-- A request that fails its checks is answered with its status alone: no body, no effect, no change of an open transfer. -/
theorem execute_refused {s : State} {x : Session} {op : Nat} {f : Frame} {st : Nat} {body : List Byte} (hst : st ≠ stOk)
    (h : serveBody (tagAccepted s x) x op f.via f.body f.storeFails = { status := st, body := body, writing := x.writing }) :
    execute (tagAccepted s x) x op f = answered s x op f st [] x.writing := by
  have := execute_tagAccepted s x op f
  simpa [h, hst, useFree] using this

/-! The entry that a request names. -/

/-- A subindex is one byte of a request. -/
theorem frameSub_lt (f : Frame) : leNat ((f.body.drop 2).take 1) < 256 :=
  lt_of_lt_of_le (leNat_lt _) (Nat.pow_le_pow_right (j := 8) (by decide) (by simp))

theorem frameKey_index (f : Frame) : frameKey f / 256 = leNat (f.body.take 2) := by
  have := frameSub_lt f
  unfold frameKey keyOf
  omega

theorem frameKey_sub (f : Frame) : frameKey f % 256 = leNat ((f.body.drop 2).take 1) := by
  have := frameSub_lt f
  unfold frameKey keyOf
  omega

/-! Requests for an entry that they may not reach (R590, checks 1 to 3). -/

section
variable {s : State} {index sub st : Nat}

theorem readEntry_of_unreached {role : Nat} (h : reachEntry s role index sub false = .inl st) :
    readEntry s role index sub = (st, []) := by
  simp [readEntry, h]

theorem segRead_of_unreached {role : Nat} (h : reachEntry s role index sub false = .inl st) (offset length limit : Nat) :
    segRead s role index sub offset length limit = (st, []) := by
  simp [segRead, h]

theorem writeEntry_of_unreached {role : Nat} (h : reachEntry s role index sub true = .inl st) (sid : U32) (type : Nat) (bytes : List Byte)
    (fails : Bool) : writeEntry s sid role index sub type bytes fails = (st, id) := by
  simp [writeEntry, h]

theorem segWrite_of_unreached {x : Session} (h : reachEntry s x.role index sub true = .inl st) (flags offset total : Nat)
    (data : List Byte) (limit : Nat) (fails : Bool) :
    segWrite s x index sub flags offset total data limit fails = (st, x.writing, id) := by
  simp [segWrite, h]

end

/-! The reserved range (R15). -/

/-- R15, R590: no role reaches an entry of the reserved range, whatever the module's state. -/
theorem reachEntry_reserved {index : Nat} (hlo : 0xA000 ≤ index) (hhi : index < 0xF000) (s : State) (role sub : Nat) (write : Bool) :
    reachEntry s role index sub write = .inl stReserved := by
  simp [reachEntry, lookupEntry, hlo, hhi]

/-- The counter DOMAINs lie below the reserved range: a SEG_READ in it takes no free value. -/
theorem domainSet_reserved {key : Nat} (h : 0xA000 ≤ key / 256) : domainSet key = none := by
  have hne {k : Nat} (hk : k < 0xA00000) : key ≠ k := by omega
  unfold domainSet
  rw [if_neg (hne (by decide)), if_neg (hne (by decide)), if_neg (hne (by decide)), if_neg (hne (by decide))]

end Sys2Proof.Machine
end

