-- ==== Sys2Proof/Proofs/ReservedIndices.lean ====
section
/-! The reserved range of the dictionary (R15). -/

namespace Sys2Proof.Machine

section
variable {f : Frame} (hlo : 0xA000 ≤ frameKey f / 256) (hhi : frameKey f / 256 < 0xF000)
include hlo hhi

/-- R15: each of the four requests that name an entry comes to RESERVED_INDEX on an index of the reserved range. What body its
response would have is of no matter: only a request that succeeds is answered with one. -/
theorem serveBody_reserved (s : State) (x : Session) {op : Nat} (hop : op ∈ [0x10, 0x11, 0x12, 0x13]) :
    ∃ body, serveBody s x op f.via f.body f.storeFails = { status := stReserved, body := body, writing := x.writing } := by
  have hunreached := reachEntry_reserved hlo hhi s x.role (frameKey f % 256)
  have hdomain : domainSet (frameKey f) = none := domainSet_reserved hlo
  rw [frameKey_index, frameKey_sub] at hunreached
  simp only [List.mem_cons, List.not_mem_nil, or_false] at hop
  rcases hop with rfl | rfl | rfl | rfl
  case inl => exact ⟨[], by simp only [serveBody, readEntry_of_unreached (hunreached false)]⟩
  case inr.inl => exact ⟨f.body.take 4, by simp only [serveBody, writeEntry_of_unreached (hunreached true)]⟩
  case inr.inr.inl =>
    rw [frameKey] at hdomain
    exact ⟨[], by simp only [serveBody, segRead_of_unreached (hunreached false), hdomain]⟩
  case inr.inr.inr => exact ⟨f.body.take 8, by simp only [serveBody, segWrite_of_unreached (hunreached true)]⟩

/-- R15: the session's next request for an entry of the reserved range is answered with RESERVED_INDEX, and changes nothing else. -/
theorem serveFrame_reserved {s : State} {x : Session} {op : Nat} (hop : op ∈ [0x10, 0x11, 0x12, 0x13]) (h : isNext s op f x) :
    serveFrame s op f = answered s x op f stReserved [] x.writing := by
  have hsession : 0x10 ≤ op := by simp at hop; omega
  obtain ⟨_, hserved⟩ := serveBody_reserved hlo hhi (tagAccepted s x) x hop
  rw [serveFrame_of_isNext hsession h, execute_refused (by decide) hserved]

end

/-- Settles O12: the four commands hand their frame to the server, which reaches no entry of the reserved range. -/
theorem reservedIndices : Obligations.ReservedIndices := by
  unfold Obligations.ReservedIndices
  intro s f x row hrow hnext hlo hhi
  have served (op : Nat) (hop : op ∈ [0x10, 0x11, 0x12, 0x13]) (h : isNext s op f x) :
      (.next (serveFrame s op f) : Result) = .next (answered s x op f stReserved [] x.writing) :=
    congrArg _ (serveFrame_reserved hlo hhi hop h)
  simp only [List.mem_cons, List.not_mem_nil, or_false] at hrow
  rcases hrow with rfl | rfl | rfl | rfl
  case inl => exact served 0x10 (by decide) hnext
  case inr.inl => exact served 0x11 (by decide) hnext
  case inr.inr.inl => exact served 0x12 (by decide) hnext
  case inr.inr.inr => exact served 0x13 (by decide) hnext

end Sys2Proof.Machine
end

