-- ==== Sys2Proof/Proofs/Writes.lean ====
section
/-! SUPPORT. What a session's next WRITE comes to (R74, R590): its effect on the answered state where it passes every check, and its
answer alone where the module's state refuses it. -/

namespace Sys2Proof.Machine

/-! Accepting the tag of a request changes nothing that the checks of R590 read. -/

@[simp] theorem reachEntry_tagAccepted (s : State) (x : Session) : reachEntry (tagAccepted s x) = reachEntry s := rfl

@[simp] theorem valueOk_tagAccepted (s : State) (x : Session) : valueOk (tagAccepted s x) = valueOk s := rfl

@[simp] theorem stateOk_tagAccepted (s : State) (x : Session) : stateOk (tagAccepted s x) = stateOk s := rfl

/-- R590, check 1: the entry that a request reaches is the one that its index and subindex name. -/
theorem lookupEntry_of_reached {s : State} {role index sub : Nat} {write : Bool} {e : Entry}
    (h : reachEntry s role index sub write = .inr e) : lookupEntry index sub = .inr e := by
  unfold reachEntry at h
  split at h
  case h_1 => cases h
  case h_2 e' hlookup =>
    split at h
    case isTrue => cases h
    case isFalse =>
      split at h <;> cases h
      exact hlookup

section
variable {s : State} {f : Frame} {x : Session} {e : Entry} {key v : Nat}

theorem frameKey_of_acceptedWrite (h : acceptedWrite s f x e key v) : frameKey f = key := by
  obtain ⟨-, hkey, -⟩ := h
  exact hkey

/-- A WRITE passes checks 1 to 3 as the request reaches its entry, in the words of the frame's own bytes. -/
theorem reachEntry_of_reaches (h : reaches s f x true e) :
    reachEntry s x.role (leNat (f.body.take 2)) (leNat ((f.body.drop 2).take 1)) true = .inr e := by
  rwa [reaches, frameKey_index, frameKey_sub] at h

/-- R590: a WRITE that passes every check succeeds, and its effect is that of its entry and value. -/
theorem serveBody_of_acceptedWrite (h : acceptedWrite s f x e key v) :
    serveBody (tagAccepted s x) x 0x11 f.via f.body f.storeFails
      = { status := stOk, body := f.body.take 4, writing := x.writing, act := fun t => applyWrite t x.sid e key v } := by
  obtain ⟨-, rfl, hreach, hdomain, htype, hlen, rfl, hvalue, hstate, hstore⟩ := h
  have hkey : keyOf (leNat (f.body.take 2)) (leNat ((f.body.drop 2).take 1)) = frameKey f := rfl
  have hv : leNat (f.body.drop 4) = frameValue f := rfl
  have hcommits : ¬ ((e.persist = .stored ∨ frameKey f = keyKeyClear) ∧ f.storeFails = true) := fun ⟨hp, hf⟩ => by
    simp [hstore hp] at hf
  simp only [serveBody, writeEntry, reachEntry_tagAccepted, reachEntry_of_reaches hreach, hkey, hv, hdomain, htype, hlen,
    valueOk_tagAccepted, hvalue, stateOk_tagAccepted, hstate, hcommits, ne_eq, not_true_eq_false, or_self, if_false]

/-- R46, R56, R590: a WRITE that passes every check is answered, and then its effect comes about. -/
theorem serveFrame_of_acceptedWrite (h : acceptedWrite s f x e key v) :
    serveFrame s 0x11 f = applyWrite (writeAnswered s f x) x.sid e key v := by
  have hserved := serveBody_of_acceptedWrite h
  obtain ⟨hnext, -⟩ := h
  rw [serveFrame_of_isNext (by decide) hnext, execute_tagAccepted s x 0x11 f, hserved]
  rfl

/-- R590, check 6: a WRITE of a value that its entry takes is answered with WRONG_STATE alone where the module's state refuses it. -/
theorem serveFrame_of_wrongState (hnext : isNext s 0x11 f x) (hreach : reaches s f x true e) (hdomain : e.type ≠ .domain)
    (htype : leNat ((f.body.drop 3).take 1) = typeCode e.type) (hlen : (f.body.drop 4).length = typeSize e.type)
    (hvalue : valueOk s e (frameKey f) (frameValue f) = true)
    (hstate : stateOk s x.sid x.role e (frameKey f) (frameValue f) = false) :
    serveFrame s 0x11 f = answered s x 0x11 f stWrongState [] x.writing := by
  have hkey : keyOf (leNat (f.body.take 2)) (leNat ((f.body.drop 2).take 1)) = frameKey f := rfl
  have hv : leNat (f.body.drop 4) = frameValue f := rfl
  have hserved : serveBody (tagAccepted s x) x 0x11 f.via f.body f.storeFails
      = { status := stWrongState, body := f.body.take 4, writing := x.writing } := by
    simp [serveBody, writeEntry, reachEntry_of_reaches hreach, hkey, hv, hdomain, htype, hlen, hvalue, hstate]
  rw [serveFrame_of_isNext (by decide) hnext, execute_refused (by decide) hserved]

end

end Sys2Proof.Machine
end

