-- ==== Sys2Proof/Proofs/TransportsDisabled.lean ====
section
/-! The switches of the two transports (R80). -/

namespace Sys2Proof.Machine

/-! What the ledger's notes leave. -/

/-- From one state to another nothing sent is taken back, and of the dictionary only the ledger's two counts may change. -/
def notesOnly (s t : State) : Prop := s.out <+: t.out ∧ dictOnly [keyLedgerMissed, keyLedgerDropped] s t

theorem notesOnly_trans {s t u : State} (h : notesOnly s t) (h' : notesOnly t u) : notesOnly s u :=
  ⟨h.1.trans h'.1, fun k hk => (h'.2 k hk).trans (h.2 k hk)⟩

theorem notesOnly_of_same {s t : State} (hout : t.out = s.out) (hdict : t.dict = s.dict) : notesOnly s t :=
  ⟨hout ▸ List.prefix_rfl, fun k _ => dictGet_of_dict hdict k⟩

/-- One of the ledger's counts takes a value. -/
theorem notesOnly_dictSet (s : State) {key : Nat} (v : Nat) (hkey : key ∈ [keyLedgerMissed, keyLedgerDropped]) :
    notesOnly s (dictSet s key v) :=
  ⟨List.prefix_rfl, fun k hk => by rw [dictGet_dictSet, if_neg fun h : k = key => hk (h ▸ hkey)]⟩

/-- R289: an MSI-X vector is at most one output more. -/
theorem sendVector_notesOnly (s : State) (v : Nat) : notesOnly s (sendVector s v) := by
  refine ⟨?_, fun k _ => dictGet_of_dict (sendVector_changes s v .dict (by decide)) k⟩
  unfold sendVector
  dsimp only
  split
  case isTrue => exact List.prefix_rfl
  case isFalse => exact List.prefix_append _ _

theorem raiseModEvent_notesOnly (s : State) (m : BitVec 6) : notesOnly s (raiseModEvent s m) := by
  have hflags : notesOnly s { s with bar0 := { s.bar0 with modEvent := s.bar0.modEvent ||| m } } := notesOnly_of_same rfl rfl
  unfold raiseModEvent
  dsimp only
  split
  case isTrue => exact notesOnly_trans hflags (sendVector_notesOnly _ _)
  case isFalse => exact hflags

/-- R561, R564: an entry of the ledger takes nothing back, and is counted at most. -/
theorem logEntry_notesOnly (s : State) (sev : Fin 4) (code srcKind srcUnit data : Nat) :
    notesOnly s (logEntry s sev code srcKind srcUnit data) := by
  have hcounted (l : Ledger) (frozen : Bool) (n : Nat) :
      notesOnly s { s with ledger := l, dict := if frozen then dictPut s.dict keyLedgerMissed n else s.dict } := by
    cases frozen with
    | true => exact notesOnly_trans (notesOnly_dictSet s n (by decide)) (notesOnly_of_same rfl rfl)
    | false => exact notesOnly_of_same rfl rfl
  unfold logEntry
  dsimp only
  split
  · exact notesOnly_of_same rfl rfl
  split
  · exact notesOnly_dictSet s _ (by decide)
  split
  · exact notesOnly_trans (hcounted _ _ _) (raiseModEvent_notesOnly _ _)
  split
  · exact notesOnly_trans (hcounted _ _ _) (raiseModEvent_notesOnly _ _)
  · exact hcounted _ _ _

theorem endFreeze_notesOnly (s : State) (cause : Nat) : notesOnly s (endFreeze s cause) := by
  unfold endFreeze
  split
  · exact notesOnly_of_same rfl rfl
  · exact notesOnly_trans (t := { s with ledger := { s.ledger with freeze := none } }) (notesOnly_of_same rfl rfl)
      (logEntry_notesOnly _ _ _ _ _ _)

/-- R68, R564: sessions that close leave at most the entry of a freeze that ends. -/
theorem closeSessions_notesOnly (s : State) (p : Session → Bool) : notesOnly s (closeSessions s p) := by
  have hgone : notesOnly s { s with sessions := { s.sessions with sessions := s.sessions.sessions.filter fun x => !p x } } :=
    notesOnly_of_same rfl rfl
  unfold closeSessions
  dsimp only
  split
  · split
    · exact notesOnly_trans hgone (endFreeze_notesOnly _ 1)
    · exact hgone
  · exact hgone

/-! A transport closes. -/

theorem closeTransport_notesOnly (s : State) (mailbox : Bool) : notesOnly s (closeTransport s mailbox) :=
  notesOnly_trans (closeSessions_notesOnly s _) (notesOnly_of_same rfl rfl)

theorem closeTransport_changes (s : State) (mailbox : Bool) :
    changesOnly [.out, .dict, .bar0, .ledger, .sessions] s (closeTransport s mailbox) := by
  obtain ⟨-, hclosed, -, -⟩ := closeSessions_closed s fun x => byMailbox x.via = mailbox
  refine changesOnly_trans hclosed fun p hp => ?_
  cases p with
  | sessions => exact absurd (by decide) hp
  | _ => rfl

/-- R80: the sessions left are those of the other transport. -/
theorem closeTransport_sessions (s : State) (mailbox : Bool) :
    (closeTransport s mailbox).sessions.sessions = s.sessions.sessions.filter fun y => byMailbox y.via ≠ mailbox := by
  obtain ⟨hclosed, -, -, -⟩ := closeSessions_closed s fun x => byMailbox x.via = mailbox
  simp [closeTransport, hclosed]

/-- R80: and so are the pending handshakes. -/
theorem closeTransport_handshakes (s : State) (mailbox : Bool) :
    (closeTransport s mailbox).sessions.handshakes = s.sessions.handshakes.filter fun h => byMailbox h.via ≠ mailbox := by
  obtain ⟨hclosed, -, -, -⟩ := closeSessions_closed s fun x => byMailbox x.via = mailbox
  simp [closeTransport, hclosed]

/-! The two switches. -/

/-- The switches: an entry, the other transport's entry, and whether the transport is the mailbox. -/
def transportSwitches : List (Nat × Nat × Bool) := [(keyFbEnable, keyMailboxEnable, false), (keyMailboxEnable, keyFbEnable, true)]

/-- The row of a switch in the dictionary (R80): a stored BOOL that the OWNER writes in any module state. -/
def switchRow (sub : Nat) : Entry := ent 0x0200 1 sub 1 .bool .ro .ro .rw .stored 1 0 1

theorem lookupEntry_fbEnable : lookupEntry (keyFbEnable / 256) (keyFbEnable % 256) = .inr (switchRow 1) := by decide +kernel

theorem lookupEntry_mailboxEnable : lookupEntry (keyMailboxEnable / 256) (keyMailboxEnable % 256) = .inr (switchRow 7) := by decide +kernel

section
variable {s : State} {f : Frame} {x : Session} {e : Entry} {key other : Nat} {mailbox : Bool}
  (hswitch : (key, other, mailbox) ∈ transportSwitches)
include hswitch

theorem transportSwitches_cases :
    (key = keyFbEnable ∧ other = keyMailboxEnable ∧ mailbox = false) ∨ (key = keyMailboxEnable ∧ other = keyFbEnable ∧ mailbox = true) := by
  simpa [transportSwitches] using hswitch

/-- A request that reaches a switch reaches its row. -/
theorem entry_of_reaches_switch (hkey : frameKey f = key) (h : reaches s f x true e) : ∃ sub, e = switchRow sub := by
  have hlookup := lookupEntry_of_reached h
  rw [hkey] at hlookup
  obtain ⟨rfl, rfl, rfl⟩ | ⟨rfl, rfl, rfl⟩ := transportSwitches_cases hswitch
  · exact ⟨1, Sum.inr.inj (hlookup.symm.trans lookupEntry_fbEnable)⟩
  · exact ⟨7, Sum.inr.inj (hlookup.symm.trans lookupEntry_mailboxEnable)⟩

theorem entry_of_acceptedWrite_switch {v : Nat} (h : acceptedWrite s f x e key v) : ∃ sub, e = switchRow sub := by
  obtain ⟨-, hkey, hreach, -⟩ := h
  exact entry_of_reaches_switch hswitch hkey hreach

theorem applyWrite_switch_off (sid : U32) (sub : Nat) :
    applyWrite s sid (switchRow sub) key 0 = closeTransport (dictSet s key 0) mailbox := by
  obtain ⟨rfl, rfl, rfl⟩ | ⟨rfl, rfl, rfl⟩ := transportSwitches_cases hswitch <;> rfl

theorem applyWrite_switch_on (sid : U32) (sub : Nat) : applyWrite s sid (switchRow sub) key 1 = dictSet s key 1 := by
  obtain ⟨rfl, rfl, rfl⟩ | ⟨rfl, rfl, rfl⟩ := transportSwitches_cases hswitch <;> rfl

theorem valueOk_switch_off (sub : Nat) : valueOk s (switchRow sub) key 0 = true := by
  obtain ⟨rfl, rfl, rfl⟩ | ⟨rfl, rfl, rfl⟩ := transportSwitches_cases hswitch <;> rfl

/-- R80: what the module's state has to say of a switch written 0. -/
theorem stateRule_switch_off (sid : U32) (sub : Nat) :
    stateRule s sid (switchRow sub) key 0 = decide (dictGet s other = 1) := by
  obtain ⟨rfl, rfl, rfl⟩ | ⟨rfl, rfl, rfl⟩ := transportSwitches_cases hswitch <;> rfl

/-- R80: while the other transport is off, no state lets a switch be written 0. -/
theorem stateOk_switch_off (sid : U32) (role sub : Nat) (hother : dictGet s other = 0) :
    stateOk s sid role (switchRow sub) key 0 = false := by
  simp [stateOk, stateRule_switch_off hswitch, hother]

/-- R80: a transport switched off: the write is answered first, and what closes is this transport's alone. -/
theorem serveFrame_switch_off (h : acceptedWrite s f x e key 0) :
    serveFrame s 0x11 f = closeTransport (dictSet (writeAnswered s f x) key 0) mailbox := by
  obtain ⟨sub, rfl⟩ := entry_of_acceptedWrite_switch hswitch h
  rw [serveFrame_of_acceptedWrite h, applyWrite_switch_off hswitch]

theorem serveFrame_switch_on (h : acceptedWrite s f x e key 1) : serveFrame s 0x11 f = dictSet (writeAnswered s f x) key 1 := by
  obtain ⟨sub, rfl⟩ := entry_of_acceptedWrite_switch hswitch h
  rw [serveFrame_of_acceptedWrite h, applyWrite_switch_on hswitch]

/-- R80: the write that would leave no transport fails. -/
theorem serveFrame_switch_last (hnext : isNext s 0x11 f x) (hkey : frameKey f = key) (hreach : reaches s f x true e)
    (htype : leNat ((f.body.drop 3).take 1) = typeCode e.type) (hlen : (f.body.drop 4).length = typeSize e.type)
    (hvalue : frameValue f = 0) (hother : dictGet s other = 0) :
    serveFrame s 0x11 f = answered s x 0x11 f stWrongState [] x.writing := by
  obtain ⟨sub, rfl⟩ := entry_of_reaches_switch hswitch hkey hreach
  refine serveFrame_of_wrongState hnext hreach (by simp [switchRow, ent]) htype hlen ?_ ?_
  · rw [hkey, hvalue, valueOk_switch_off hswitch]
  · rw [hkey, hvalue, stateOk_switch_off hswitch _ _ _ hother]

/-- The ledger's counts are no switches. -/
theorem switch_not_ledgerCount : key ∉ [keyLedgerMissed, keyLedgerDropped] := by
  obtain ⟨rfl, rfl, rfl⟩ | ⟨rfl, rfl, rfl⟩ := transportSwitches_cases hswitch <;> decide

end

/-- Settles O14: both rows hand their frame to the server; the two switches differ in the transport that closes alone. -/
theorem transportsDisabled : Obligations.TransportsDisabled := by
  unfold Obligations.TransportsDisabled
  intro s f x e r hr
  dsimp only
  have hrow : frameKey f = r.1 → exec (r.2.2.2 f) s = .next (serveFrame s 0x11 f) := by
    simp only [List.mem_cons, List.not_mem_nil, or_false] at hr
    rcases hr with rfl | rfl <;> exact fun hkey => congrArg _ (if_pos hkey)
  have hswitch : (r.1, r.2.1, r.2.2.1) ∈ transportSwitches := by
    simp only [List.mem_cons, List.not_mem_nil, or_false] at hr
    rcases hr with rfl | rfl <;> decide
  refine ⟨fun haccepted => ?_, fun hnext hkey hreach htype hlen hvalue hother => ?_, fun haccepted => ?_⟩
  · refine ⟨_, hrow (frameKey_of_acceptedWrite haccepted), ?_⟩
    rw [serveFrame_switch_off hswitch haccepted]
    obtain ⟨hout, hdict⟩ := closeTransport_notesOnly (dictSet (writeAnswered s f x) r.1 0) r.2.2.1
    refine ⟨hout, ?_, ?_, closeTransport_sessions _ _, closeTransport_handshakes _ _⟩
    · rw [hdict r.1 (switch_not_ledgerCount hswitch), dictGet_dictSet_same]
    · exact changesOnly_trans (changesOnly_mono (by decide) (dictSet_changes _ _ _)) (closeTransport_changes _ _)
  · rw [hrow hkey, serveFrame_switch_last hswitch hnext hkey hreach htype hlen hvalue hother]
  · rw [hrow (frameKey_of_acceptedWrite haccepted), serveFrame_switch_on hswitch haccepted]

end Sys2Proof.Machine
end

