-- ==== Sys2Proof/Proofs/IntegerConversion.lean ====
section
/-! The conversions to an integer format (R94): nearest, ties to even, then clamped to what the format's bits hold. -/

namespace Sys2Proof.Machine

/-! Two's-complement codes. -/

/-- A code of `w` bits gives its integer back, where the format holds it. -/
theorem signedOf_wrapNat {w : Nat} {i : Int} (hw : 0 < w) (hlo : -2 ^ (w - 1) ≤ i) (hhi : i < 2 ^ (w - 1)) :
    signedOf w (wrapNat w i) = i := by
  have hpow : (2 : Nat) ^ w = 2 * 2 ^ (w - 1) := (mul_pow_sub_one hw.ne' 2).symm
  have hhalf : ((2 ^ (w - 1) : Nat) : Int) = 2 ^ (w - 1) := by push_cast; rfl
  have hlt : wrapNat w i < 2 ^ w := by unfold wrapNat; omega
  rw [signedOf, Nat.mod_eq_of_lt hlt]
  obtain hneg | hpos := lt_or_ge i 0
  · have hcode : i % (2 ^ w : Nat) = i + (2 ^ w : Nat) := by
      rw [← Int.add_emod_right, Int.emod_eq_of_lt] <;> omega
    simp only [wrapNat, hcode]
    split <;> omega
  · have hcode : i % (2 ^ w : Nat) = i := Int.emod_eq_of_lt hpos (by omega)
    simp only [wrapNat, hcode]
    split <;> omega

/-! Rounding to an integer. -/

/-- `r` is the integer nearest to `v / d`, the even one of two (R94). -/
def isNearestEven (v d r : Int) : Prop :=
  2 * (v - r * d) ≤ d ∧ -d ≤ 2 * (v - r * d) ∧ (2 * (v - r * d) = d ∨ 2 * (v - r * d) = -d → r % 2 = 0)

/-- Rounding to nearest, ties to even, is the same for both signs. -/
theorem isNearestEven_neg {v d r : Int} (h : isNearestEven v d r) : isNearestEven (-v) d (-r) := by
  obtain ⟨hle, hge, htie⟩ := h
  unfold isNearestEven
  rw [show 2 * (-v - -r * d) = -(2 * (v - r * d)) by ring]
  exact ⟨by omega, by omega, fun ht => by omega⟩

/-- A number that is an integer already is not rounded. -/
theorem roundTo_of_nonneg (m : Nat) {e : Int} (he : 0 ≤ e) : roundTo m e 0 = m * 2 ^ e.toNat := by
  rw [roundTo, if_pos he, Nat.shiftLeft_eq, sub_zero]

/-- R94: where the least bit stands below the integers, the quotient or the next integer is taken, as the remainder lies to half of
the divisor. -/
theorem roundTo_isNearestEven (m : Nat) {e : Int} (he : e < 0) : isNearestEven m (2 ^ (-e).toNat) (roundTo m e 0) := by
  obtain ⟨k, hk⟩ : ∃ k, (-e).toNat = k + 1 := ⟨(-e).toNat - 1, by omega⟩
  have hdiv := Nat.div_add_mod' m (2 ^ (k + 1))
  have hmod := Nat.mod_lt m (Nat.two_pow_pos (k + 1))
  rw [roundTo, if_neg he.not_ge]
  simp only [zero_sub, hk, Nat.add_sub_cancel, Nat.shiftRight_eq_div_pow, Nat.shiftLeft_eq, one_mul]
  unfold isNearestEven
  generalize m / 2 ^ (k + 1) = q at *
  generalize m % 2 ^ (k + 1) = r at *
  subst hdiv
  have hhalf : (2 : Nat) ^ (k + 1) = 2 * 2 ^ k := pow_succ' 2 k
  have hhalf' : (2 : Int) ^ (k + 1) = 2 * (2 ^ k : Nat) := by push_cast; exact pow_succ' 2 k
  have hrem : q * 2 ^ (k + 1) + r - q * 2 ^ (k + 1) = r := Nat.add_sub_cancel_left ..
  simp only [hrem]
  split
  · have hdiff : ((q * 2 ^ (k + 1) + r : Nat) : Int) - (q + 1 : Nat) * 2 ^ (k + 1) = r - 2 ^ (k + 1) := by push_cast; ring
    rw [hdiff]
    omega
  · have hdiff : ((q * 2 ^ (k + 1) + r : Nat) : Int) - (q : Nat) * 2 ^ (k + 1) = r := by push_cast; ring
    rw [hdiff]
    omega

/-! The conversion. -/

/-- The integer that `± m × 2^e` is rounded to. -/
def roundedInt (neg : Bool) (m : Nat) (e : Int) : Int := if neg then -(roundTo m e 0 : Int) else roundTo m e 0

theorem roundedInt_of_nonneg (neg : Bool) (m : Nat) {e : Int} (he : 0 ≤ e) :
    roundedInt neg m e = (if neg then -(m : Int) else m) * 2 ^ e.toNat := by
  cases neg <;> simp [roundedInt, roundTo_of_nonneg m he]

theorem roundedInt_isNearestEven (neg : Bool) (m : Nat) {e : Int} (he : e < 0) :
    isNearestEven (if neg then -(m : Int) else m) (2 ^ (-e).toNat) (roundedInt neg m e) := by
  have h := roundTo_isNearestEven m he
  cases neg with
  | false => exact h
  | true => exact isNearestEven_neg h

/-- R94: a finite number in an integer format is its rounded integer, clamped to the format's range; the saturation mode has no say
in it. -/
theorem convertFmt_integer_code {f : Fmt} (hf : fmtFloat f = none) (ieee neg : Bool) (m : Nat) (e : Int) :
    (convertFmt f ieee (.fin neg m e)).code
      = wrapNat (fmtBits f) (max (-2 ^ (fmtBits f - 1)) (min (roundedInt neg m e) (2 ^ (fmtBits f - 1) - 1))) := by
  have hpos : (0 : Int) < 2 ^ (fmtBits f - 1) := by positivity
  simp only [convertFmt, hf]
  rw [← roundedInt, apply_ite Conv.code, apply_ite Conv.code]
  split_ifs with hhi hlo
  · rw [min_eq_right (by omega), max_eq_right (by omega)]
  · rw [min_eq_left (by omega), max_eq_left (by omega)]
  · rw [min_eq_left (by omega), max_eq_right (by omega)]

theorem signedOf_convertFmt_integer {f : Fmt} (hf : fmtFloat f = none) (hw : 0 < fmtBits f) (ieee neg : Bool) (m : Nat) (e : Int) :
    signedOf (fmtBits f) (convertFmt f ieee (.fin neg m e)).code
      = max (-2 ^ (fmtBits f - 1)) (min (roundedInt neg m e) (2 ^ (fmtBits f - 1) - 1)) := by
  have hpos : (0 : Int) < 2 ^ (fmtBits f - 1) := by positivity
  rw [convertFmt_integer_code hf, signedOf_wrapNat hw] <;> omega

/-- Settles O17: the integer is the rounded one, and each format's range is that of its bits. -/
theorem integerConversion : Obligations.IntegerConversion := by
  unfold Obligations.IntegerConversion
  intro f ieee neg m e hf
  refine ⟨roundedInt neg m e, roundedInt_of_nonneg neg m, roundedInt_isNearestEven neg m, ?_⟩
  obtain rfl | rfl := hf
  · exact signedOf_convertFmt_integer rfl (by decide) ieee neg m e
  · exact signedOf_convertFmt_integer rfl (by decide) ieee neg m e

end Sys2Proof.Machine
end

