-- ==== Sys2Proof/Proofs/LockstepMessages.lean ====
section
/-! SUPPORT. The messages of the lock-step controller: what a message or a flood of this module leaves on the ports (R404 to R406), and
an agreement that the anchor makes (R407, R419). -/

namespace Sys2Proof.Machine

theorem modLock_changes (s : State) (g : Lockstep → Lockstep) : changesOnly [.lockstep] s (modLock s g) := by
  intro p hp
  cases p with
  | lockstep => exact absurd (by decide) hp
  | _ => rfl

/-! One message on one port. -/

/-- From one state to another no port loses a message that waits, and every port's own messages keep their order. -/
def messagesKept (s t : State) : Prop := ∀ p, (getPort s.links p).messages <+: (getPort t.links p).messages

theorem messagesKept_refl (s : State) : messagesKept s s := fun _ => List.prefix_rfl

theorem messagesKept_trans {s t u : State} (h : messagesKept s t) (h' : messagesKept t u) : messagesKept s u :=
  fun p => (h p).trans (h' p)

section
variable {s t u : State} {p msg parts seq data : Nat}

/-- A message sent stays sent while others are put behind it. -/
theorem messageSent_of_kept_after (h : messageSent s t p msg parts seq data) (hkept : messagesKept t u) :
    messageSent s u p msg parts seq data := by
  intro hp
  obtain ⟨a, z, hsent, hbefore⟩ := h hp
  obtain ⟨rest, hrest⟩ := hkept p
  exact ⟨a, z ++ rest, by rw [← hrest, hsent]; simp, hbefore⟩

/-- A message sent is a matter of the ports alone. -/
theorem messageSent_of_links (hlinks : u.links = t.links) (h : messageSent s t p msg parts seq data) :
    messageSent s u p msg parts seq data := by
  unfold messageSent at h ⊢
  rwa [hlinks]

theorem messageSent_of_kept_before (hkept : messagesKept s t) (h : messageSent t u p msg parts seq data) :
    messageSent s u p msg parts seq data := by
  intro hp
  obtain ⟨a, z, hsent, hbefore⟩ := h hp
  exact ⟨a, z, hsent, (hkept p).trans hbefore⟩

end

section
variable (s : State) (p msg parts seq data : Nat)

theorem emitMessage_changes : changesOnly [.links] s (emitMessage s p msg parts seq data) := by
  unfold emitMessage
  dsimp only
  split
  case isTrue =>
    intro q hq
    cases q with
    | links => exact absurd (by decide) hq
    | _ => rfl
  case isFalse => exact changesOnly_refl _ s

/-- R406: the message stands behind what waits on its port; a port's other fields, and the other ports, keep theirs. -/
theorem getPort_emitMessage (hp : p < 8) (q : Nat) :
    getPort (emitMessage s p msg parts seq data).links q
      = if q = p then { getPort s.links p with messages := (getPort s.links p).messages
            ++ [{ blocks := messageBlocks msg parts seq data, copies := 4, urgent := msg = 0xA || msg = 0xB }] }
        else getPort s.links q := by
  simp only [emitMessage, if_pos hp, getPort, setPort, mapGet_mapSet]

theorem emitMessage_of_no_port (hp : ¬ p < 8) : emitMessage s p msg parts seq data = s := if_neg hp

@[simp] theorem portUp_emitMessage (o : Nat) : portUp (emitMessage s p msg parts seq data) o = portUp s o := by
  by_cases hp : p < 8
  · unfold portUp
    rw [getPort_emitMessage s p msg parts seq data hp]
    by_cases ho : o = p <;> simp [ho]
  · rw [emitMessage_of_no_port _ _ _ _ _ _ hp]

theorem emitMessage_kept : messagesKept s (emitMessage s p msg parts seq data) := by
  intro q
  by_cases hp : p < 8
  · rw [getPort_emitMessage s p msg parts seq data hp]
    by_cases hq : q = p <;> simp [hq]
  · rw [emitMessage_of_no_port _ _ _ _ _ _ hp]

theorem emitMessage_sent : messageSent s (emitMessage s p msg parts seq data) p msg parts seq data := by
  intro hp
  refine ⟨(getPort s.links p).messages, [], ?_, List.prefix_rfl⟩
  rw [getPort_emitMessage s p msg parts seq data hp, if_pos rfl]

end

/-! A flood. -/

/-- A message on each UP port of a list but one; a flood is that on the six torus ports. -/
def emitOnPorts (ports : List Nat) (s : State) (msg parts seq data : Nat) (skip : Option Nat) : State :=
  ports.foldl (fun s p => if portUp s p ∧ skip ≠ some p then emitMessage s p msg parts seq data else s) s

theorem emitFlood_eq_emitOnPorts (s : State) (msg parts seq data : Nat) (skip : Option Nat) :
    emitFlood s msg parts seq data skip = emitOnPorts (List.range 6) s msg parts seq data skip := rfl

section
variable (ports : List Nat) (s : State) (msg parts seq data : Nat) (skip : Option Nat)

theorem emitOnPorts_changes : changesOnly [.links] s (emitOnPorts ports s msg parts seq data skip) := by
  refine changesOnly_foldl _ (fun s p => ?_) ports s
  split
  · exact emitMessage_changes s p msg parts seq data
  · exact changesOnly_refl _ s

theorem emitOnPorts_kept : messagesKept s (emitOnPorts ports s msg parts seq data skip) := by
  induction ports generalizing s with
  | nil => exact messagesKept_refl s
  | cons p ports ih =>
    refine messagesKept_trans ?_ (ih _)
    dsimp only
    split
    · exact emitMessage_kept s p msg parts seq data
    · exact messagesKept_refl s

/-- R406: every UP port of the list, but the one left out, is given the message: sending on one port takes no other port down. -/
theorem emitOnPorts_sent {o : Nat} (ho : o ∈ ports) (hup : portUp s o = true) (hskip : skip ≠ some o) :
    messageSent s (emitOnPorts ports s msg parts seq data skip) o msg parts seq data := by
  induction ports generalizing s with
  | nil => exact absurd ho List.not_mem_nil
  | cons p ports ih =>
    rw [emitOnPorts, List.foldl_cons, ← emitOnPorts]
    obtain rfl | hrest := List.mem_cons.1 ho
    · rw [if_pos ⟨hup, hskip⟩]
      exact messageSent_of_kept_after (emitMessage_sent s o msg parts seq data) (emitOnPorts_kept ports _ msg parts seq data skip)
    · split
      · exact messageSent_of_kept_before (emitMessage_kept s p msg parts seq data) (ih _ hrest (by simpa using hup))
      · exact ih s hrest hup

theorem flood_eq (fields : Nat) :
    flood s msg parts fields
      = modLock (emitOnPorts (List.range 6) s msg parts s.lockstep.seq.toNat (ownOrig s + fields) none) fun l =>
          { l with seq := l.seq + 1 } := rfl

theorem flood_changes (fields : Nat) : changesOnly [.lockstep, .links] s (flood s msg parts fields) := by
  rw [flood_eq]
  exact changesOnly_trans (changesOnly_mono (by decide) (emitOnPorts_changes _ _ _ _ _ _ _))
    (changesOnly_mono (by decide) (modLock_changes _ _))

/-- R405, R406: a flood of this module's own, with its name and its next SEQ, goes out by every UP torus port. -/
theorem flood_sent (fields : Nat) {o : Nat} (ho : o < 6) (hup : portUp s o = true) :
    messageSent s (flood s msg parts fields) o msg parts s.lockstep.seq.toNat (ownOrig s + fields) := by
  rw [flood_eq]
  exact messageSent_of_links (modLock_links _ _) (emitOnPorts_sent _ s msg parts _ _ none (List.mem_range.2 ho) hup (by simp))

/-- A flood takes this module's next SEQ, and nothing else of its lock-step state changes. -/
theorem flood_lockstep (fields : Nat) : (flood s msg parts fields).lockstep = { s.lockstep with seq := s.lockstep.seq + 1 } := by
  rw [flood_eq, modLock_lockstep, emitOnPorts_changes _ s msg parts _ _ none .lockstep (by decide)]

end

/-! Agreements. -/

theorem mem_insertAgreement {a b : Agreement} {l : List Agreement} : b ∈ insertAgreement a l ↔ b = a ∨ b ∈ l := by
  induction l with
  | nil => simp [insertAgreement]
  | cons c l ih =>
    rw [insertAgreement]
    split
    · exact List.mem_cons
    · rw [List.mem_cons, ih, List.mem_cons]
      exact or_left_comm

theorem le_roundUp (k : Nat) {n : Nat} (hn : 0 < n) : k ≤ roundUp k n := by
  have hdiv := Nat.div_add_mod' (k + n - 1) n
  have hmod := Nat.mod_lt (k + n - 1) hn
  unfold roundUp ceilDiv
  omega

/-- R419: the tick that the anchor chooses has not passed. -/
theorem tickOf_le_agreeTick (s : State) (code : Nat) (up : Bool) : tickOf s ≤ agreeTick s code up :=
  (Nat.le_add_right _ _).trans (le_roundUp _ (by split <;> decide))

/-- R419: what the anchor agrees: a change at the tick that it chooses, under the SEQ of its flood. -/
def anchorsAgreement (s : State) (code value : Nat) (up : Bool) : Agreement :=
  { code := code, value := value, tick := agreeTick s code up, seq := s.lockstep.seq.toNat }

/-- R419: the fields of the anchor's AGREE. -/
def anchorsFields (s : State) (code value : Nat) (up : Bool) : Nat :=
  (code % 256) <<< 15 + (value % 2 ^ 32) <<< 32 + (agreeTick s code up % 2 ^ 60) <<< 64

section
variable {s : State} (hstate : dictGet s keyLsState ≠ 6) (code value : Nat) (up : Bool)
include hstate

/-- R419: the anchor floods what it agrees, and its own agreement takes its place; it is never late. -/
theorem anchorAgree_eq :
    anchorAgree s code value up
      = modLock (flood s 8 4 (anchorsFields s code value up)) fun l =>
          { l with agreements := insertAgreement (anchorsAgreement s code value up) l.agreements } := by
  have hdict (fields : Nat) : dictGet (flood s 8 4 fields) keyLsState ≠ 6 := by
    rwa [dictGet_of_dict (flood_changes s 8 4 fields .dict (by decide))]
  have htick (fields : Nat) : tickOf (flood s 8 4 fields) = tickOf s := by
    rw [tickOf, flood_changes s 8 4 fields .gtc (by decide), ← tickOf]
  rw [anchorAgree, takeAgree, if_neg (hdict _), htick, if_neg (tickOf_le_agreeTick s code up).not_gt]
  rfl

theorem anchorAgree_changes : changesOnly [.lockstep, .links] s (anchorAgree s code value up) := by
  rw [anchorAgree_eq hstate]
  exact changesOnly_trans (flood_changes _ _ _ _) (changesOnly_mono (by decide) (modLock_changes _ _))

theorem anchorAgree_sent {o : Nat} (ho : o < 6) (hup : portUp s o = true) :
    messageSent s (anchorAgree s code value up) o 8 4 s.lockstep.seq.toNat (ownOrig s + anchorsFields s code value up) := by
  rw [anchorAgree_eq hstate]
  exact messageSent_of_links (modLock_links _ _) (flood_sent s 8 4 _ ho hup)

theorem anchorAgree_agreements :
    (anchorAgree s code value up).lockstep.agreements
      = insertAgreement (anchorsAgreement s code value up) s.lockstep.agreements := by
  rw [anchorAgree_eq hstate, modLock_lockstep, flood_lockstep]

end

end Sys2Proof.Machine
end

