-- ==== Sys2Proof/Proofs/CoreArrayReset.lean ====
section
/-! SUPPORT. What a core-array reset leaves (R162, R171, R221, R226, R265, R513), and the reset that ends a program (R506) or a
lock-step run (R418). -/

namespace Sys2Proof.Machine

/-! Tables. -/

/-- What holds of every listed value and of an unlisted key's holds of every read. -/
theorem mapGet_of_forall {α : Type} {P : α → Prop} {d : α} {m : List (Nat × α)} (hd : P d) (hm : ∀ e ∈ m, P e.2) (k : Nat) :
    P (mapGet d m k) := by
  induction m with
  | nil => exact hd
  | cons e m ih =>
    obtain ⟨hhead, htail⟩ := List.forall_mem_cons.1 hm
    rw [mapGet]
    split
    · exact hhead
    · exact ih htail

/-- A key below all that a table lists is not listed. -/
theorem mapGet_of_mapAbove {α : Type} {d : α} {m : List (Nat × α)} {k : Nat} (h : mapAbove k m = true) : mapGet d m k = d := by
  induction m with
  | nil => rfl
  | cons e m ih =>
    obtain ⟨hlt, habove⟩ := Bool.and_eq_true_iff.1 h
    rw [mapGet, if_neg (of_decide_eq_true hlt).ne, ih habove]

/-- A canonical table of cores, each replaced, reads as the replacement of what it read, where an unlisted core stays unlisted. -/
theorem mapGet_mapCores {l : List (Nat × Core)} (f : Nat → Core → Core) {n : Nat} (hl : mapWf {} l = true) (hf : f n {} = {}) :
    mapGet {} (mapCores l f) n = f n (mapGet {} l n) := by
  induction l with
  | nil => exact hf.symm
  | cons e l ih =>
    obtain ⟨k, v⟩ := e
    simp only [mapWf, Bool.and_eq_true] at hl
    obtain ⟨⟨-, habove⟩, hwf⟩ := hl
    have htail := ih hwf
    rw [mapCores] at htail ⊢
    by_cases hn : n = k
    · subst hn
      rw [mapGet_of_mapAbove habove, hf] at htail
      by_cases hv : f n v = {} <;> simp [mapGet, hv, htail]
    · by_cases hv : f k v = {} <;> simp [mapGet, hv, hn, htail]

/-! The reset. -/

theorem dropParked_changes (s : State) (x : Caravan) (r : Receiver) : changesOnly [.net] s (dropParked s x r) := by
  intro p hp
  cases p with
  | net => exact absurd (by decide) hp
  | _ => rfl

/-- R265: a reset of the caravans leaves the cores, the rings, the dictionary and the lock-step controller. -/
theorem resetCaravans_changes (s : State) : changesOnly [.caravans, .banks, .pcie, .net] s (resetCaravans s) := by
  have hdropped : changesOnly [.net] s (s.caravans.foldl (fun s (e : Nat × Caravan) => e.2.receivers.foldl (fun s r => dropParked s e.2 r) s) s) :=
    changesOnly_foldl _ (fun s (e : Nat × Caravan) => changesOnly_foldl _ (fun s r => dropParked_changes s e.2 r) _ s) _ s
  refine changesOnly_trans (changesOnly_mono (by decide) hdropped) fun p hp => ?_
  cases p with
  | caravans | banks | pcie | net => exact absurd (by decide) hp
  | _ => rfl

theorem coreArrayReset_changes (s : State) :
    changesOnly [.cores, .sampleInit, .caravans, .banks, .queues, .pcie, .net] s (coreArrayReset s) := by
  refine changesOnly_trans (changesOnly_mono (by decide) (resetCaravans_changes s)) fun p hp => ?_
  cases p with
  | cores | sampleInit | queues | net => exact absurd (by decide) hp
  | _ => rfl

/-- A core as at power-on, with no sampling of its own, stays so. -/
theorem resetCore_default (old new : SampleInit) (n : Nat) : resetCore old new n {} = {} := rfl

theorem coreArrayReset_cores (s : State) :
    (coreArrayReset s).cores
      = mapCores (resetCaravans s).cores (resetCore (resetCaravans s).sampleInit (sampleInitNow (resetCaravans s))) := rfl

section
variable {s : State} (hcores : canonicalCores s) (c : CoreId)
include hcores

theorem getCore_coreArrayReset :
    getCore (coreArrayReset s) c = resetCore (resetCaravans s).sampleInit (sampleInitNow (resetCaravans s)) c.val (getCore s c) := by
  obtain ⟨hwf, -⟩ := hcores
  have hsame : (resetCaravans s).cores = s.cores := resetCaravans_changes s .cores (by decide)
  rw [getCore, coreArrayReset_cores, hsame, mapGet_mapCores _ hwf (resetCore_default _ _ c.val), ← getCore]

/-- R226: every thread is as at power-on. -/
theorem getThread_coreArrayReset (h : ThreadId) : getThread (coreArrayReset s) c h = {} := by
  rw [getThread, getCore_coreArrayReset hcores]
  rfl

end

/-- R284: no claim is left on any ring. -/
theorem getRing_coreArrayReset_claims (s : State) (r : Nat) : (getRing (coreArrayReset s) r).claims = [] := by
  refine mapGet_of_forall (P := fun x : Ring => x.claims = []) rfl (fun e he => ?_) r
  obtain ⟨e', -, rfl⟩ := List.mem_map.1 (List.mem_of_mem_filter he)
  rfl

theorem coresReset_coreArrayReset {s : State} (hcores : canonicalCores s) : coresReset s (coreArrayReset s) := by
  refine ⟨fun c => ?_, rfl, fun r => getRing_coreArrayReset_claims s r.val⟩
  rw [getCore_coreArrayReset hcores]
  exact ⟨rfl, rfl, rfl, rfl⟩

/-! The ends of a program and of a run. -/

theorem stopProgram_changes (s : State) : changesOnly [.dict] (coreArrayReset s) (stopProgram s) :=
  changesOnly_trans (dictSet_changes _ _ _) (dictSet_changes _ _ _)

/-- R418: beside the core-array reset, the end of a run changes the dictionary, the floor padding and what is READY. -/
theorem stopRun_changes (s : State) : changesOnly [.dict, .net, .lockstep] (coreArrayReset s) (stopRun s) := by
  refine changesOnly_trans (changesOnly_mono (by decide) (stopProgram_changes s)) fun p hp => ?_
  cases p with
  | dict | net | lockstep => exact absurd (by decide) hp
  | _ => rfl

/-- What a core-array reset leaves is a matter of the cores, the caravans and the rings. -/
theorem coresReset_of_changesOnly {s t u : State} {ps : List StatePart} (h : changesOnly ps t u)
    (hparts : ∀ p ∈ [StatePart.cores, .caravans, .queues], p ∉ ps) (hreset : coresReset s t) : coresReset s u := by
  have hcores : u.cores = t.cores := h .cores (hparts _ (by decide))
  have hcaravans : u.caravans = t.caravans := h .caravans (hparts _ (by decide))
  have hqueues : u.queues = t.queues := h .queues (hparts _ (by decide))
  simp only [coresReset, getCore, getRing] at hreset ⊢
  rwa [hcores, hcaravans, hqueues]

theorem coresReset_stopRun {s : State} (hcores : canonicalCores s) : coresReset s (stopRun s) :=
  coresReset_of_changesOnly (stopRun_changes s) (by decide) (coresReset_coreArrayReset hcores)

theorem getThread_stopRun {s : State} (hcores : canonicalCores s) (c : CoreId) (h : ThreadId) : getThread (stopRun s) c h = {} := by
  rw [getThread, getCore, stopRun_changes s .cores (by decide), ← getCore, ← getThread, getThread_coreArrayReset hcores]

theorem dictGet_stopRun (s : State) :
    dictGet (stopRun s)
      = dictGet (dictSet (dictSet (stopProgram s) keyLsState (if dictGet s keyLsState = 5 then 4 else dictGet s keyLsState)) keyReadyStatus 0) :=
  rfl

/-- R418: a run that ends leaves its module ARMED. -/
theorem stopRun_lsState {s : State} (hrun : dictGet s keyLsState = 5) : dictGet (stopRun s) keyLsState = 4 := by
  rw [dictGet_stopRun, dictGet_dictSet, if_neg (by decide), dictGet_dictSet_same, if_pos hrun]

theorem stopRun_readyStatus (s : State) : dictGet (stopRun s) keyReadyStatus = 0 := by
  rw [dictGet_stopRun, dictGet_dictSet_same]

/-- R506: the program is STOPPED. -/
theorem stopRun_moduleState (s : State) : dictGet (stopRun s) keyModuleState = 1 := by
  rw [dictGet_stopRun, dictGet_dictSet, if_neg (by decide), dictGet_dictSet, if_neg (by decide), stopProgram, dictGet_dictSet,
    if_neg (by decide), dictGet_dictSet_same]

theorem stopRun_lockstep (s : State) : (stopRun s).lockstep = { s.lockstep with ready := false, readyCounts := [] } := by
  rw [← coreArrayReset_changes s .lockstep (by decide)]
  rfl

end Sys2Proof.Machine
end

