-- ==== Sys2Proof/Proofs/LockstepStop.lean ====
section
/-! The end of a lock-step run (R418). -/

namespace Sys2Proof.Machine

/-! The write of LS_STOP. -/

/-- The row of LS_STOP in the dictionary: a BOOL that every role writes and none reads. -/
def lsStopRow : Entry := ent 0x9010 1 0x05 1 .bool .wo .wo .wo .volatile 0 0 1

theorem lookupEntry_lsStop : lookupEntry (keyLsStop / 256) (keyLsStop % 256) = .inr lsStopRow := by decide +kernel

section
variable {s : State} {f : Frame} {x : Session} {e : Entry}

theorem entry_of_reaches_lsStop (hkey : frameKey f = keyLsStop) (h : reaches s f x true e) : e = lsStopRow := by
  have hlookup := lookupEntry_of_reached h
  rw [hkey, lookupEntry_lsStop] at hlookup
  exact (Sum.inr.inj hlookup).symm

theorem valueOk_lsStop (s : State) : valueOk s lsStopRow keyLsStop 1 = true := rfl

/-- R418: the state lets LS_STOP be written on the anchor in RUNNING alone. -/
theorem stateOk_lsStop (s : State) (sid : U32) (role : Nat) :
    stateOk s sid role lsStopRow keyLsStop 1 = true ↔ isAnchor s = true ∧ dictGet s keyLsState = 5 := by
  have hrule : stateRule s sid lsStopRow keyLsStop 1 = (isAnchor s && dictGet s keyLsState = 5) := rfl
  have haccess : accessOf lsStopRow role ≠ .rws := by
    unfold accessOf
    split <;> decide
  simp [stateOk, hrule, haccess]

theorem applyWrite_lsStop (s : State) (sid : U32) : applyWrite s sid lsStopRow keyLsStop 1 = anchorAgree s 6 0 false := by
  simp [applyWrite, lsStopRow, ent, mustWait, keyLsStop]

theorem execLsStop_of_key (hkey : frameKey f = keyLsStop) : exec (.lsStop f) s = .next (serveFrame s 0x11 f) :=
  congrArg _ (if_pos hkey)

/-- R418: an accepted write of LS_STOP is answered, and the anchor agrees on code STOP. -/
theorem exec_lsStop_accepted (h : acceptedWrite s f x e keyLsStop 1) :
    dictGet s keyLsState = 5 ∧ exec (.lsStop f) s = .next (anchorAgree (writeAnswered s f x) 6 0 false) := by
  have hserved := serveFrame_of_acceptedWrite h
  obtain ⟨-, hkey, hreach, -, -, -, -, -, hstate, -⟩ := h
  obtain rfl := entry_of_reaches_lsStop hkey hreach
  obtain ⟨-, hrun⟩ := (stateOk_lsStop s x.sid x.role).1 hstate
  rw [execLsStop_of_key hkey, hserved, applyWrite_lsStop]
  exact ⟨hrun, rfl⟩

/-- R418: elsewhere, or outside RUNNING, the write is answered with WRONG_STATE alone. -/
theorem exec_lsStop_refused (hnext : isNext s 0x11 f x) (hkey : frameKey f = keyLsStop) (hreach : reaches s f x true e)
    (htype : leNat ((f.body.drop 3).take 1) = typeCode e.type) (hlen : (f.body.drop 4).length = typeSize e.type)
    (hvalue : frameValue f = 1) (hwrong : isAnchor s = false ∨ dictGet s keyLsState ≠ 5) :
    exec (.lsStop f) s = .next (answered s x 0x11 f stWrongState [] x.writing) := by
  obtain rfl := entry_of_reaches_lsStop hkey hreach
  have hstate : stateOk s x.sid x.role lsStopRow keyLsStop 1 = false := by
    rw [← Bool.not_eq_true, stateOk_lsStop]
    rintro ⟨hanchor, hrun⟩
    exact hwrong.elim (fun h => by simp [h] at hanchor) (fun h => h hrun)
  rw [execLsStop_of_key hkey, serveFrame_of_wrongState hnext hreach (by decide) htype hlen (by rw [hkey, hvalue, valueOk_lsStop])
    (by rw [hkey, hvalue, hstate])]

end

/-! The agreement at its tick. -/

/-- R419: the first agreement, at its tick and outside a stall, takes effect and is gone. -/
theorem exec_agreeApply_due {s : State} {a : Agreement} {later : List Agreement} (hfirst : s.lockstep.agreements = a :: later)
    (hdue : a.tick ≤ tickOf s) (hstall : s.lockstep.stalled = none) :
    exec .agreeApply s = .next (applyAgreement (modLock s fun l => { l with agreements := later }) a.code a.value) := by
  change execAgreeApply s = _
  unfold execAgreeApply
  split
  case h_1 hnone => exact absurd (hfirst.symm.trans hnone) (by simp)
  case h_2 b rest hsome =>
    obtain ⟨rfl, rfl⟩ := List.cons.inj (hfirst.symm.trans hsome)
    rw [if_pos ⟨hdue, by rw [hstall]; rfl⟩]

section
variable {s : State} {f : Frame} {x : Session} {e : Entry}

/-- R418: LS_STOP on the anchor of a run: the AGREE leaves by every UP torus port, and waits for its tick beside what was agreed before. -/
theorem lsStop_floods (h : acceptedWrite s f x e keyLsStop 1) :
    ∃ t, exec (.lsStop f) s = .next t ∧ changesOnly [.lockstep, .links] (writeAnswered s f x) t
      ∧ (∀ o, o < 6 → portUp s o = true →
          messageSent (writeAnswered s f x) t o 8 4 s.lockstep.seq.toNat (ownOrig s + anchorsFields s 6 0 false))
      ∧ t.lockstep.agreements = insertAgreement (anchorsAgreement s 6 0 false) s.lockstep.agreements := by
  obtain ⟨hrun, hexec⟩ := exec_lsStop_accepted h
  have hstate : dictGet (writeAnswered s f x) keyLsState ≠ 6 := by
    rw [dictGet_of_dict (show (writeAnswered s f x).dict = s.dict from rfl), hrun]
    decide
  exact ⟨_, hexec, anchorAgree_changes hstate 6 0 false, fun o ho hup => anchorAgree_sent hstate 6 0 false ho hup,
    anchorAgree_agreements hstate 6 0 false⟩

/-- R418: code STOP at its tick: the run is over on this module, and the agreement is gone. -/
theorem agreeApply_stops {a : Agreement} {later : List Agreement} (hfirst : s.lockstep.agreements = a :: later) (hcode : a.code = 6)
    (hdue : a.tick ≤ tickOf s) (hstall : s.lockstep.stalled = none) :
    exec .agreeApply s = .next (stopRun (modLock s fun l => { l with agreements := later })) := by
  rw [exec_agreeApply_due hfirst hdue hstall, hcode]
  rfl

end

/-- Settles O52: the write's effect is the anchor's agreement on code STOP, whose effect at its tick is the end of the run. -/
theorem lockstepStop : Obligations.LockstepStop := by
  unfold Obligations.LockstepStop
  intro s f x e a later
  refine ⟨fun haccepted => ?_, fun hfirst hcode hdue hstall hrun hcores => ?_, exec_lsStop_refused⟩
  · obtain ⟨t, hexec, hchanges, hsent, hagreed⟩ := lsStop_floods haccepted
    refine ⟨t, hexec, changesOnly_mono (by decide) hchanges, hsent, ?_, fun b hb => ?_⟩
    · exact hagreed ▸ mem_insertAgreement.2 (.inl rfl)
    · exact hagreed ▸ mem_insertAgreement.2 (.inr hb)
  · refine ⟨_, agreeApply_stops hfirst hcode hdue hstall, coresReset_stopRun hcores, getThread_stopRun hcores, stopRun_lsState hrun,
      stopRun_readyStatus _, stopRun_moduleState _, ?_⟩
    rw [stopRun_lockstep]
    rfl

end Sys2Proof.Machine
end
